-- ==== Sys2Proof/Word.lean ====
section
/-!
DEFINITION. The words of the module: 8-bit bytes, 32-bit registers, 64-bit memory words, and byte lists
in the big-endian order the spec uses throughout.
-/

namespace Sys2Proof

abbrev Byte := BitVec 8
abbrev Word := BitVec 32
abbrev DWord := BitVec 64

end Sys2Proof
end

