-- ==== Sys2Proof/Names.lean ====
section
/-!
DEFINITION. The names the spec gives the module's parts: lanes, engines, threads, bus initiators (R14, R83, R402).
-/

namespace Sys2Proof

/-- Lane A, lane B and lane C (R14). -/
inductive Lane | a | b | c
  deriving DecidableEq, Repr

/-- The number of a lane: A 0, B 1, C 2 (LANE_ID.LANE). -/
def Lane.num : Lane → Nat
  | .a => 0 | .b => 1 | .c => 2

/-- The lane after this one on the links (LANE_LINK_STAT: A's next is B, C's next is A). -/
def Lane.succ : Lane → Lane
  | .a => .b | .b => .c | .c => .a

/-- The lane before this one (A's previous is C). -/
def Lane.prev : Lane → Lane
  | .a => .c | .b => .a | .c => .b

def allLanes : List Lane := [.a, .b, .c]

/-- The four Pervo engines (R83). -/
inductive Engine | lane (l : Lane) | mgmt
  deriving DecidableEq, Repr

/-- CS_TID: 0 to 2 the lane engines, 3 the management engine. -/
def Engine.num : Engine → Nat
  | .lane l => l.num | .mgmt => 3

def allEngines : List Engine := [.lane .a, .lane .b, .lane .c, .mgmt]

/-- The seven threads (R83). -/
inductive Thr | safe (l : Lane) | sys (l : Lane) | mgmt
  deriving DecidableEq, Repr

def Thr.engine : Thr → Engine
  | .safe l => .lane l | .sys l => .lane l | .mgmt => .mgmt

def Thr.isSafe : Thr → Bool
  | .safe _ => true | _ => false

/-- The thread that takes an engine's interrupts: SYS, or the management thread (R98). -/
def Engine.thr : Engine → Thr
  | .lane l => .sys l
  | .mgmt => .mgmt

/-- Who accesses a register (R402, R411): a thread, or the host port of the management engine. -/
inductive Init | thr (t : Thr) | host
  deriving DecidableEq, Repr

/-- The INITIATOR code of PWR_ACC_ERR_INFO. -/
def Init.num : Init → Nat
  | .thr (.safe l) => 2 * l.num
  | .thr (.sys l) => 2 * l.num + 1
  | .thr .mgmt => 6
  | .host => 7

/-- One value for each lane. -/
structure PerLane (α : Type) where
  a : α
  b : α
  c : α
  deriving DecidableEq, Repr

def PerLane.get {α : Type} (p : PerLane α) : Lane → α
  | .a => p.a | .b => p.b | .c => p.c

def PerLane.set {α : Type} (p : PerLane α) (l : Lane) (v : α) : PerLane α :=
  match l with
  | .a => { p with a := v }
  | .b => { p with b := v }
  | .c => { p with c := v }

def PerLane.all {α : Type} (v : α) : PerLane α := ⟨v, v, v⟩

/-- The module's operating modes (R19); the encoding of SEC_STATUS.MODE. -/
inductive Mode | boot | configHold | standby | active | withdrawn | service
  deriving DecidableEq, Repr

def Mode.code : Mode → Nat
  | .boot => 0 | .configHold => 1 | .standby => 2 | .active => 3 | .withdrawn => 4 | .service => 5

/-- The lane states (R72). -/
inductive LState | off | starting | voting | withdrawn | copy | shadow | retired | lockedOut
  deriving DecidableEq, Repr

def LState.code : LState → Nat
  | .off => 0 | .starting => 1 | .voting => 2 | .withdrawn => 3 | .copy => 4 | .shadow => 5 | .retired => 6
  | .lockedOut => 7

/-- STARTING or VOTING: the lane drives its gates and is counted in the vote (R72). -/
def LState.counted : LState → Bool
  | .starting => true | .voting => true | _ => false

/-- The withdrawal causes (R74). -/
inductive Cause
  | codeFault | illegalOp | bounds | offlineAccess | eccUncorr | halt | overrun | vpubOrder | minority | noMajority
  | disagree | noPeer | lastLane | timeDev | tickSkew | epochMismatch | ioSampleRate | assayFail | annealFail
  | retire | staticMismatch
  deriving DecidableEq, Repr

def Cause.code : Cause → Nat
  | .codeFault => 0x01 | .illegalOp => 0x02 | .bounds => 0x03 | .offlineAccess => 0x04 | .eccUncorr => 0x05
  | .halt => 0x06 | .overrun => 0x07 | .vpubOrder => 0x08 | .minority => 0x10 | .noMajority => 0x11
  | .disagree => 0x12 | .noPeer => 0x13 | .lastLane => 0x14 | .timeDev => 0x18 | .tickSkew => 0x19
  | .epochMismatch => 0x1A | .ioSampleRate => 0x1B | .assayFail => 0x20 | .annealFail => 0x21 | .retire => 0x22
  | .staticMismatch => 0x23

/-- What the Anneal column of R74 says of a cause. -/
inductive AnnealRule | yes | no | moduleWithdraws | afterCleanEpoch
  deriving DecidableEq, Repr

def Cause.anneal : Cause → AnnealRule
  | .noMajority => .moduleWithdraws | .disagree => .moduleWithdraws | .lastLane => .moduleWithdraws
  | .timeDev => .afterCleanEpoch | .tickSkew => .afterCleanEpoch | .ioSampleRate => .afterCleanEpoch
  | .assayFail => .no | .staticMismatch => .no
  | _ => .yes

/-- What the SECDED codes of a memory report of the words an instruction reads (R93). -/
inductive Ecc | good | corrected | fetchUncorr | dataUncorr
  deriving DecidableEq, Repr

end Sys2Proof
end

