-- ==== Sys2Proof/Config.lean ====
section
/-!
DEFINITION. What an implementation fixes and the spec leaves open: constants with NO body, so that no proof can see a
value of one and a claim is true whatever it is. See log entry 2 for each.

Readings and choices: log entry 2 (DESIGN CHOICE).
-/

namespace Sys2Proof.Config

/-- The n-th value the spec leaves open: a cycle count, a time inside a tick, a live voltage, a random number
(log entry 2). State.freeCnt says which is next. -/
opaque freeValue : Nat → BitVec 64

/-- The 5,076 signature bytes an attestation index signs (R356, R357). -/
opaque attestSign : (index : Nat) → (msg : List (BitVec 8)) → List (BitVec 8)

/-- The signature and the pattern count that the die's ROM holds for an item of the assay (R377): target of R376 and item. -/
opaque romSignature : (target item : Nat) → BitVec 32

opaque romPatterns : (target item : Nat) → BitVec 32

/-- The bytes of the MRAM system region as a scan of MRAM reads them (R385): their layout is not given. -/
opaque mramSystem : (offset : Nat) → BitVec 8

/-- The module's 48-bit unique ID, fixed in OTP (R349). -/
opaque uniqueId : BitVec 48

/-- The public identity key of the module, fixed in OTP (R355). -/
opaque identityKey : List (BitVec 8)

/-- The interface version the module sets in its own up-slice of a ring (R163: set by the writer; no rule gives it). -/
opaque ownIfv : (ring : Nat) → BitVec 8

/-- The protocol minor version of the module, 0 to 15 (R160: the module runs minor versions 0 to 15; no rule gives which one a crown of its
own shows). -/
opaque verMin : BitVec 4

/-- The endpoints the module's node descriptor declares (R173: 0 to 64; no rule gives a module's). -/
opaque ownEndpoints : (ring : Nat) → BitVec 8

/-- The MAC address of an Ethernet port, fixed in OTP: 0 ETH-A, 1 ETH-B, 2 MGT. -/
opaque macAddr : (port : Nat) → BitVec 48

/-- A word of the lane settings section 0x03 and of the management settings, whose byte layout the spec does not give (R342): 0 to 31 the
SAFE descriptors (BASE and LAST of each), 32 to 63 the SYS ones, 64 to 95 the management ones, 96 LANE_LMEM_SPLIT, 97 PIC_VEC_BASE
of the lanes, 98 PIC_VEC_BASE of the management engine, 99 RSS, 100 the management entry point. -/
opaque setting : (bytes : List (BitVec 8)) → (index : Nat) → BitVec 32

/-- What section 0x09 gives (R342, R431); its byte layout is not given. -/
structure RingPlan where
  ctrl : List Nat                        -- RING_CTRL of rings 0 to 7
  downs : List (Nat × Nat × Nat)         -- ring, position and IFV of each down-slice the module writes
  ups : List (Nat × Nat × Nat × Nat)     -- ring, position, lowest and highest IFV accepted
  requests : List (Nat × Nat × Nat)      -- ALLOC_DN, ALLOC_UP and brim credit, by ring
  required : Nat                         -- rings marked required, bit n for ring n
  deriving Inhabited

opaque ringPlan : (bytes : List (BitVec 8)) → RingPlan

/-- The register addresses and values that sections 0x0A and 0x0C spell (R342); their byte layout is not given. -/
opaque presets : (type : Nat) → (bytes : List (BitVec 8)) → List (Nat × Nat)

end Sys2Proof.Config
end

