-- ==== Sys2Proof/Frames.lean ====
section
/-!
DEFINITION. What the module's lines carry, as structures: the frames of the Dragar ring (R159 to R173, R193 to R197). A part that
carries a CRC carries whether that CRC is good; a part whose CRC is bad has no content the module uses, except a crown's EB (R161).
-/

namespace Sys2Proof

/-- The two ports of a ring (R156). -/
inductive Port | east | west
  deriving DecidableEq, Repr

def Port.other : Port → Port
  | .east => .west | .west => .east

/-- A crown (R160), but for FTYPE and RING, which the frame's own type and line give. -/
structure Crown where
  crcOk : Bool
  verMaj : Nat
  verMin : Nat
  cycle : Nat
  topo : Nat
  headId : Nat
  smId : Nat
  smPos : Nat
  smHeld : Bool
  lastPos : Nat
  step : Bool
  brimLen : Nat
  frameLen : Nat
  dirCrc : Nat
  eb : Byte
  ebPrior : Byte
  headT : Nat
  deriving DecidableEq, Repr

/-- A slice (R163). -/
structure Slice where
  crcOk : Bool
  pos : Nat
  up : Bool
  fresh : Bool
  prior : Bool
  void : Bool
  pair : Nat
  attn : Byte
  ifv : Nat
  alloc : Nat
  topo : Nat
  stamp : Nat
  payload : List Byte
  code1 : List Byte
  code2 : List Byte
  deriving DecidableEq, Repr

/-- A brim message (R171). -/
structure BrimMsg where
  crcOk : Bool
  mtype : Nat
  src : Nat
  dst : Nat
  seq : Nat
  body : List Byte
  deriving DecidableEq, Repr

/-- A brim window (R170). -/
structure Window where
  fresh : Bool
  prior : Bool
  pos : Nat
  msgs : List BrimMsg
  deriving DecidableEq, Repr

/-- A RUN frame: the crown, the slice area, four join slots (none: the slot's first 4 bytes are zero) and the brim windows. -/
structure RunFrame where
  crown : Crown
  slices : List Slice
  joins : List (Option BrimMsg)
  windows : List Window
  deriving DecidableEq, Repr

/-- A CLAIM frame (R193). -/
structure ClaimFrame where
  crown : Crown
  bodyOk : Bool
  prio : Nat
  vmin : Nat
  vmax : Nat
  isModule : Bool
  id : Nat
  round : Nat
  deriving DecidableEq, Repr

/-- The crown and body of an INAUG frame (R196). -/
structure InaugHead where
  crown : Crown
  bodyOk : Bool
  attempt : Nat
  hPrio : Nat
  hVmin : Nat
  hVmax : Nat
  layoutCrc : Nat
  loop : Nat
  tR : Nat
  deriving DecidableEq, Repr

/-- A roll record (R197): the node descriptor of R173, LAST_TOPO and RFLAGS. -/
structure RollRec where
  crcOk : Bool
  uid : Nat
  vmin : Nat
  vmax : Nat
  headElig : Bool
  isModule : Bool
  wake : Bool
  prio : Nat
  endpoints : Nat
  allocDn : Nat
  allocUp : Nat
  credit : Nat
  dly : Nat
  orient : Nat
  lastTopo : Nat
  wrapped : Bool
  wrappedOrient : Bool
  deriving DecidableEq, Repr

/-- The four INAUG frames and ECHO (R196). ROLL: the records written so far. LAYOUT: the layout message. MEASURE: the words of
each position written so far. ACK: the DLY table and each position's ACK word (position, version, armed). -/
inductive InaugFrame
  | roll (h : InaugHead) (recs : List RollRec)
  | layout (h : InaugHead) (m : BrimMsg)
  | measure (h : InaugHead) (ds : List (Nat × Int × Int))
  | ack (h : InaugHead) (dly : List (Nat × Nat)) (acks : List (Nat × Nat × Bool))
  | echo (h : InaugHead)
  deriving DecidableEq, Repr

def InaugFrame.head : InaugFrame → InaugHead
  | .roll h _ => h | .layout h _ => h | .measure h _ => h | .ack h _ _ => h | .echo h => h

/-- A frame on a ring. -/
inductive RingFrame
  | run (f : RunFrame)
  | claim (f : ClaimFrame)
  | inaug (f : InaugFrame)
  deriving DecidableEq, Repr

/-- What comes with a frame's passage from outside: the port it arrives on; ns from the latest tick strobe; the arrival against the band's
prediction, in ns on the guardian clock (R178); ns of the guardian clock (R202); write attempts that fall outside the open gate
(R179). -/
structure PassIn where
  port : Port
  sinceStrobe : Nat
  early : Int
  clock : Nat
  suppressed : Nat
  deriving DecidableEq, Repr

/-- What comes with a frame's return to the head: whether it arrived complete; ns from its launch to its arrival, and to its first
arrival on the launch port (R202); write attempts outside the open gate since the last return (R179). -/
structure RetIn where
  complete : Bool
  loop : Nat
  tR : Nat
  suppressed : Nat
  deriving DecidableEq, Repr

/-- A bridge message (R243). `dlen` is the length asked for in a READ, else the length of `data`. -/
structure BrgMsg where
  op : Nat
  lseqSet : Bool
  prefetched : Bool
  inLock : Bool
  tag : Nat
  id : Nat
  rid : Nat
  lseq : Nat
  btopo : Nat
  dlen : Nat
  cause : Nat
  data : List Byte
  deriving DecidableEq, Repr

/-- What the bridge sends off the rings (R239, R245): the payload of a UDP datagram on ETH-A, ETH-B or MGT (ports 8 to 10), with its
destination address and UDP ports, or a brim message on a pair link. -/
inductive BrgOut
  | udp (port : Nat) (dst dstPort srcPort : Nat) (m : BrimMsg)
  | pair (link1 : Bool) (m : BrimMsg)
  deriving DecidableEq, Repr

/-- A heartbeat (R297). -/
structure Heartbeat where
  crcOk : Bool
  mode : Nat
  mreq : Bool
  withdraw : Bool
  handover : Bool
  readiness : Nat
  rank : Nat
  tick : Nat
  id : Nat
  e : Nat
  t : Nat
  tEcho : Nat
  echoAge : Nat
  committed : Nat
  deriving DecidableEq, Repr

/-- A tinning record (R302). -/
structure TinRec where
  crcOk : Bool
  obj : Nat
  sweep : Bool
  v : List Nat
  rseq : Nat
  e : Nat
  deriving DecidableEq, Repr

/-- An end-of-epoch marker (R303). -/
structure Marker where
  crcOk : Bool
  resync : Bool
  sweepDone : Bool
  handover : Bool
  pair : Nat
  schema : Nat
  e : Nat
  rcount : Nat
  scrc : Nat
  digest : BitVec 256
  sum : BitVec 256
  locked : BitVec 4096
  code1 : List Byte
  code2 : List Byte
  deriving DecidableEq, Repr

/-- What a pair link carries (R296); bridge messages leave through the bridge (R239). -/
inductive PairFrame
  | heartbeat (h : Heartbeat)
  | block (recs : List TinRec)
  | marker (m : Marker)
  | health (bytes : List Byte)
  deriving DecidableEq, Repr

/-- An IPv4 packet (R219, R245): no options and no fragment, the protocol (6 TCP, 17 UDP), the addresses, and with TCP or UDP the ports and
what follows them. -/
structure IpPacket where
  plain : Bool
  proto : BitVec 8
  src : Word
  dst : Word
  srcPort : BitVec 16
  dstPort : BitVec 16
  data : List Byte
  deriving DecidableEq, Repr

/-- What a received Ethernet frame carries: R219 sorts them. An ARP request and an ICMP echo request are commands of their own. -/
inductive EthKind
  | arpReply (ip : Word) (mac : BitVec 48)
  | ptp
  | ip (d : IpPacket)
  | otherType
  deriving DecidableEq, Repr

/-- A received frame: FCS good, length in bytes, the VLAN ID of its tag, the bytes that wait in the port's receive FIFO as it arrives
(R262). -/
structure EthFrame where
  fcsOk : Bool
  len : Nat
  tag : Option (BitVec 12)
  kind : EthKind
  fill : Nat
  deriving DecidableEq, Repr

/-- What an Ethernet port sends (R219, R224, R226); bridge traffic leaves through the bridge (R239). Ports: 0 ETH-A, 1 ETH-B, 2 MGT. A Hexlo
datagram has one UDP port for source and destination (R221), and the DSCP of HXL_CTRL. -/
inductive EthOut
  | hexlo (port dst mac udp dscp : Nat) (bytes : List Byte)
  | arpReply (port dst mac : Nat)
  | arpRequest (port ip : Nat)
  | echoReply (port dst : Nat)
  | igmp (port group : Nat)
  deriving DecidableEq, Repr

/-- A frame as it leaves: PCP and VLAN ID of its IEEE 802.1Q tag, if it has one (R218). -/
structure EthSent where
  tag : Option (Nat × Nat)
  frame : EthOut
  deriving DecidableEq, Repr

end Sys2Proof
end

