-- ==== Sys2Proof/Syntax.lean ====
section
/-!
DEFINITION. The commands of the block: one constructor of Instr for each row of spec/opcode_table.json, with the
row's operands. An operand carries only what comes from OUTSIDE the block (what a pin, a line, a peer, an
oscillator or an instruction word shows); everything a rule derives from the module's state is not an operand.
-/

namespace Sys2Proof

/-- A Pervo instruction: the thread that issues it, the fields of the instruction word (R107), and what the memories'
ECC reports of the words it reads (R93). The opcode, and the X bits that name the row (CARRY, the FLANK and ELCHK
subfunction, the VPUB kind), are the constructor's own; `other` is the OPC of a word that the opcode map lacks (R117), which no row
names: such a word is an undefined encoding, whatever else it holds. -/
structure PervoOp where
  thr : Thr
  d : BitVec 5
  s1 : BitVec 5
  s2 : BitVec 5
  x : BitVec 9
  imm : Word
  ecc : Ecc
  other : Option (BitVec 8)
  deriving DecidableEq, Repr

inductive EthPort | a | b | mgt
  deriving DecidableEq, Repr

def EthPort.num : EthPort → Nat
  | .a => 0 | .b => 1 | .mgt => 2

/-- The result of an assay or of a deep assay (R376, R380). -/
inductive AssayResult | pass | fail | incomplete
  deriving DecidableEq, Repr

/-- What a valid Sync measures (R43): the grandmaster's offset from the timebase, and the residual against the servo's
prediction, in ns; what the message is: over IEEE 802.3 (else UDP over IPv4), peer-to-peer (else delay request-response), its domain number;
and whether the best master clock algorithm chose its port (R42). The predictor is the implementation's own (log entry 6). -/
structure PtpMeas where
  offset : Int
  residual : Int
  rate : Int
  l2 : Bool
  peer : Bool
  domain : BitVec 7
  best : Bool
  deriving DecidableEq, Repr

/-- What the clocks and lines of one tick show at its strobe: for each lane its own counter's unsteered advance in ns,
the strobe's arrival against its own boundary (none: it did not arrive), whether its sample was lost, and an upset of its
epoch and tick numbers (R36 to R39); the level of SERVICE_EN; at tick 0 the oscillators' deviations over the epoch, in the units of the TIME_OSC
registers (R40); the launch of this strobe's frames against the bands' prediction, in ns on the guardian clock (R178). -/
structure StrobeIn where
  adv : PerLane Nat
  skew : PerLane (Option Int)
  lost : PerLane Bool
  numbers : PerLane (Option (Nat × Nat))
  oscRef : Int
  oscGrd : Int
  oscAon : Int
  serviceEn : Bool
  launch : Int
  deriving DecidableEq, Repr


/-- One sample of IX (R267): what the three comparators of each channel read, the field supplies in units of 10 mV, the groups sensed
closed. -/
structure IoIn where
  raw : PerLane (BitVec 48)
  vf1 : BitVec 16
  vf2 : BitVec 16
  sensed : BitVec 2
  deriving DecidableEq, Repr

/-- Causes of a module reset (R338). -/
inductive ResetCause | powerOn | rstN | rstNStuck | mgtRestart | wake | powerFail | wakeRetry
  deriving DecidableEq, Repr

def ResetCause.code : ResetCause → Nat
  | .powerOn => 1 | .rstN => 2 | .rstNStuck => 3 | .mgtRestart => 4 | .wake => 5 | .powerFail => 6 | .wakeRetry => 7

/-- What a lane reports at boot step 3 (R360): the digest of the image it read, another one, or nothing within 2 s. -/
inductive HmReport | own | other | missing
  deriving DecidableEq, Repr

/-- Who runs an assay slice, and on what (R370 to R374). -/
inductive AssayUnit | sram (l : Lane) | logic (l : Lane) | ix (l : Lane) | fx
  deriving DecidableEq, Repr

/-- What a slice that ran to its end found: signature, patterns, µs, and an uncorrectable error met in a copy (R371, R376). -/
structure SliceOut where
  signature : Word
  patterns : Word
  us : Nat
  ecc : Bool
  deriving DecidableEq, Repr

/-- What a port receives of Remote Fault ordered sets (R185): `on`, one has come; otherwise none has come for 10 µs. -/
structure RemoteEvent where
  port : Port
  on : Bool
  deriving DecidableEq, Repr

/-- Where a datagram is addressed to: UDP port and IPv4 address (R221). -/
structure UdpDst where
  udp : BitVec 16
  addr : Word
  deriving DecidableEq, Repr

/-- Where a bridge message comes from: source address and UDP port (R245). -/
structure BrgSource where
  addr : Nat
  udp : Nat
  deriving DecidableEq, Repr

/-- The commands: one constructor for each row of the table, in its order. -/
inductive Instr
  /-- TICK_STROBE (R30). -/
  | tickStrobe (inp : StrobeIn)
  /-- PTP_SYNC (R43). -/
  | ptpSync (p : EthPort) (m : PtpMeas)
  /-- PTP_LOCK_LOST (R43). -/
  | ptpLockLost
  /-- PPS_IN_EDGE (R47). -/
  | ppsInEdge (t : Nat)
  /-- VOTE_ROUND1_DIGEST (R60). -/
  | voteRound1Digest (src : Lane) (dst : Lane)
  /-- VOTE_ROUND2_AGREEMENT (R60). -/
  | voteRound2Agreement (src : Lane) (dst : Lane)
  /-- LANE_LINK_DOWN (R63). -/
  | laneLinkDown (l : Lane)
  /-- GATE_FRAME (R70). -/
  | gateFrame (l : Lane)
  /-- GATE_LINK_TIMEOUT (R71). -/
  | gateLinkTimeout (l : Lane)
  /-- LANE_RETIRE_REQUEST (R81). -/
  | laneRetireRequest (l : Lane) (target : BitVec 2)
  /-- DEEP_ASSAY_END (R82). -/
  | deepAssayEnd (l : Lane) (r : AssayResult)
  /-- DEEP_ASSAY_TIMEOUT (R380). -/
  | deepAssayTimeout (l : Lane)
  /-- NOP (R130). -/
  | nop (op : PervoOp)
  /-- BR (R130). -/
  | br (op : PervoOp)
  /-- BRP (R130). -/
  | brp (op : PervoOp)
  /-- CALL (R130). -/
  | call (op : PervoOp)
  /-- RET (R130). -/
  | ret (op : PervoOp)
  /-- EPOCHEND (R131). -/
  | epochend (op : PervoOp)
  /-- HALT (R130). -/
  | halt (op : PervoOp)
  /-- FENCE (R131). -/
  | fence (op : PervoOp)
  /-- CADD (R118). -/
  | cadd (op : PervoOp)
  /-- CSUB (R118). -/
  | csub (op : PervoOp)
  /-- CMUL (R118). -/
  | cmul (op : PervoOp)
  /-- CAND (R118). -/
  | cand (op : PervoOp)
  /-- COR (R118). -/
  | cor (op : PervoOp)
  /-- CXOR (R118). -/
  | cxor (op : PervoOp)
  /-- CNOT (R118). -/
  | cnot (op : PervoOp)
  /-- CSEL (R118). -/
  | csel (op : PervoOp)
  /-- CMOV (R118). -/
  | cmov (op : PervoOp)
  /-- CLDI (R118). -/
  | cldi (op : PervoOp)
  /-- CSHL (R118). -/
  | cshl (op : PervoOp)
  /-- CSHR (R118). -/
  | cshr (op : PervoOp)
  /-- CCMP (R119). -/
  | ccmp (op : PervoOp)
  /-- ASET (R119). -/
  | aset (op : PervoOp)
  /-- AADD (R119). -/
  | aadd (op : PervoOp)
  /-- AIDX (R119). -/
  | aidx (op : PervoOp)
  /-- OLD (R120). -/
  | old (op : PervoOp)
  /-- OLD_CARRY (R121). -/
  | oldCarry (op : PervoOp)
  /-- OST (R120). -/
  | ost (op : PervoOp)
  /-- OBIT (R120). -/
  | obit (op : PervoOp)
  /-- OSCN (R122). -/
  | oscn (op : PervoOp)
  /-- RTREQ (R150). -/
  | rtreq (op : PervoOp)
  /-- RTLOCK (R150). -/
  | rtlock (op : PervoOp)
  /-- RTREL (R150). -/
  | rtrel (op : PervoOp)
  /-- FLANK_RESERVE (R152). -/
  | flankReserve (op : PervoOp)
  /-- FLANK_RELEASE (R152). -/
  | flankRelease (op : PervoOp)
  /-- ELCHK_AVAILABLE (R151). -/
  | elchkAvailable (op : PervoOp)
  /-- ELCHK_CLEAR (R151). -/
  | elchkClear (op : PervoOp)
  /-- ELCHK_DETECTED (R151). -/
  | elchkDetected (op : PervoOp)
  /-- ELCHK_OVERLAP (R151). -/
  | elchkOverlap (op : PervoOp)
  /-- TSTART (R125). -/
  | tstart (op : PervoOp)
  /-- TCHK (R126). -/
  | tchk (op : PervoOp)
  /-- SLRD (R127). -/
  | slrd (op : PervoOp)
  /-- SLWR (R127). -/
  | slwr (op : PervoOp)
  /-- HXSEND (R127). -/
  | hxsend (op : PervoOp)
  /-- HXRECV (R127). -/
  | hxrecv (op : PervoOp)
  /-- BRSEND (R127). -/
  | brsend (op : PervoOp)
  /-- VPUB_LOCAL (R128). -/
  | vpubLocal (op : PervoOp)
  /-- VPUB_SLICE (R128). -/
  | vpubSlice (op : PervoOp)
  /-- VPUB_HEXLO (R128). -/
  | vpubHexlo (op : PervoOp)
  /-- CSRR (R132). -/
  | csrr (op : PervoOp)
  /-- CSRW (R132). -/
  | csrw (op : PervoOp)
  /-- SYSCALL (R132). -/
  | syscall (op : PervoOp)
  /-- IRET (R101). -/
  | iret (op : PervoOp)
  /-- WAITI (R104). -/
  | waiti (op : PervoOp)
  /-- WAITI_WAKE (R104). -/
  | waitiWake (e : Engine)
  /-- INTERRUPT_ENTRY (R100). -/
  | interruptEntry (e : Engine) (ecc : Ecc)
  /-- HOLDOFF_EXPIRY (R102). -/
  | holdoffExpiry (e : Engine) (g : BitVec 4)
  /-- PIC_CLR (R105). -/
  | picClr (e : Engine) (src : BitVec 7)
  /-- PIC_SET (R106). -/
  | picSet (e : Engine) (src : BitVec 7)
  /-- LANE_MBX_UP_POST (R95). -/
  | laneMbxUpPost (l : Lane) (len : BitVec 5)
  /-- LANE_MBX_UP_POP (R95). -/
  | laneMbxUpPop (l : Lane)
  /-- LANE_MBX_DN_POST (R95). -/
  | laneMbxDnPost (l : Lane) (len : BitVec 5)
  /-- LANE_MBX_DN_POP (R95). -/
  | laneMbxDnPop (l : Lane)
  /-- REG_WRITE (R6). `events`: the W1C bits that hardware events set in the cycle of the write (R9). -/
  | regWrite (who : Init) (addr : Word) (v : Word) (events : Word)
  /-- RC_READ (R6). -/
  | rcRead (who : Init) (addr : Word)
  /-- LO_READ_LATCH (R401). -/
  | loReadLatch (who : Init) (addr : Word)
  /-- LINK_CHANGE (R158). -/
  | linkChange (n : BitVec 3) (p : Port) (v : BitVec 6)
  /-- REMOTE_FAULT (R185). -/
  | remoteFault (n : BitVec 3) (p : RemoteEvent)
  /-- UNWRAP (R186). -/
  | unwrap (n : BitVec 3) (p : Port)
  /-- RUN_FRAME_PASSAGE (R167). -/
  | runFramePassage (n : BitVec 3) (f : RunFrame) (inp : PassIn)
  /-- FRAME_RETURN (R187). -/
  | frameReturn (n : BitVec 3) (f : RingFrame) (inp : RetIn)
  /-- BAND_MISSED_CYCLE (R204). -/
  | bandMissedCycle (n : BitVec 3)
  /-- BAND_ARM_REQ (R177). -/
  | bandArmReq (n : BitVec 3)
  /-- BAND_CONFIRM (R177). -/
  | bandConfirm (n : BitVec 3) (l : Lane) (v : Option Word)
  /-- NO_CROWN_TIMEOUT (R189). -/
  | noCrownTimeout (n : BitVec 3)
  /-- CLAIM_FRAME (R194). -/
  | claimFrame (n : BitVec 3) (p : Port) (sinceStrobe : Nat) (f : ClaimFrame)
  /-- CLAIM_TIMEOUT (R194). -/
  | claimTimeout (n : BitVec 3)
  /-- ROLL_PASSAGE (R196). -/
  | rollPassage (n : BitVec 3) (h : InaugHead) (recs : List RollRec) (inp : PassIn)
  /-- ECHO_PASSAGE (R202). -/
  | echoPassage (n : BitVec 3) (h : InaugHead) (inp : PassIn)
  /-- LAYOUT_PASSAGE (R197). -/
  | layoutPassage (n : BitVec 3) (h : InaugHead) (m : BrimMsg) (inp : PassIn)
  /-- MEASURE_PASSAGE (R202). -/
  | measurePassage (n : BitVec 3) (h : InaugHead) (ds : List (Nat × Int × Int)) (inp : PassIn)
  /-- ACK_PASSAGE (R196). -/
  | ackPassage (n : BitVec 3) (h : InaugHead) (dly : List (Nat × Nat)) (acks : List (Nat × Nat × Bool)) (inp : PassIn)
  /-- INAUG_BACKOFF_END (R201). -/
  | inaugBackoffEnd (n : BitVec 3)
  /-- OVER_BUDGET_RETRY (R201). -/
  | overBudgetRetry (n : BitVec 3)
  /-- FOREIGN_FRAME (R207). -/
  | foreignFrame (n : BitVec 3) (p : Port) (c : Crown)
  /-- RELEASE_HEAD (R208). -/
  | releaseHead (n : BitVec 3)
  /-- REINAUG (R208). -/
  | reinaug (n : BitVec 3)
  /-- PORT_ISOLATE (R214). -/
  | portIsolate (n : BitVec 3) (p : Port)
  /-- PORT_ISOLATE_END (R214). -/
  | portIsolateEnd (n : BitVec 3) (p : Port) (errs : Nat)
  /-- ETH_FRAME_RX (R219). -/
  | ethFrameRx (p : EthPort) (f : EthFrame)
  /-- ETH_LINK_CHANGE (R218). -/
  | ethLinkChange (p : EthPort) (lines : BitVec 6) (speed : BitVec 2)
  /-- ARP_REQUEST (R219). -/
  | arpRequest (p : EthPort) (target : Word) (sender : Word) (mac : BitVec 48)
  /-- ICMP_ECHO_REQUEST (R219). -/
  | icmpEchoRequest (p : EthPort) (src : Word) (dst : Word)
  /-- ARP_REFRESH (R226). -/
  | arpRefresh (p : EthPort)
  /-- IGMP_REPORT (R224). -/
  | igmpReport (p : EthPort)
  /-- HEXLO_DATAGRAM (R229). -/
  | hexloDatagram (onB : Bool) (dst : UdpDst) (bytes : List Byte)
  /-- HEXLO_WINDOW_CLOSE (R230). -/
  | hexloWindowClose (ses : BitVec 7) (seq : Word)
  /-- HEXLO_GAP_TIMEOUT (R231). -/
  | hexloGapTimeout (ses : BitVec 7)
  /-- HEXLO_SESSION_STALE (R225). -/
  | hexloSessionStale (ses : BitVec 7)
  /-- HEXLO_AUTO_REOPEN (R225). -/
  | hexloAutoReopen (ses : BitVec 7)
  /-- HEXLO_DEGRADED (R234). -/
  | hexloDegraded (ses : BitVec 7)
  /-- HXL_CMD_RESYNC (R225). -/
  | hxlCmdResync (ses : BitVec 7)
  /-- HXL_CMD_REOPEN (R225). -/
  | hxlCmdReopen (ses : BitVec 7)
  /-- HXL_CMD_CLOSE (R225). -/
  | hxlCmdClose (ses : BitVec 7)
  /-- BRIDGE_MESSAGE_INGRESS (R241). -/
  | bridgeMessageIngress (p : BitVec 4) (src : BrgSource) (m : BrgMsg)
  /-- BRIDGE_MESSAGE_SEND (R248). -/
  | bridgeMessageSend (d : BitVec 6)
  /-- BRIDGE_ANSWER (R248). -/
  | bridgeAnswer (p : BitVec 4) (target : Nat) (m : BrgMsg)
  /-- BRIDGE_TIMEOUT (R249). -/
  | bridgeTimeout (d : BitVec 6)
  /-- DOMAIN_RESUME (R252). -/
  | domainResume (d : BitVec 6)
  /-- DOMAIN_FLUSH (R252). -/
  | domainFlush (d : BitVec 6)
  /-- BRG_FQ_POP (R250). -/
  | brgFqPop
  /-- BRG_EP_READ (R247). -/
  | brgEpRead (e : Engine) (tag : BitVec 16)
  /-- BRG_EP_LOCK (R255). -/
  | brgEpLock (e : Engine) (tag : BitVec 16)
  /-- BRG_EP_UNLOCK (R255). -/
  | brgEpUnlock (e : Engine) (tag : BitVec 16)
  /-- BRG_EP_RX_POP (R247). -/
  | brgEpRxPop (e : Engine)
  /-- BRG_EP_AN_POP (R247). -/
  | brgEpAnPop (e : Engine)
  /-- LOCK_EXPIRY (R256). -/
  | lockExpiry (ltag : BitVec 16)
  /-- PREFETCH_EXPIRY (R259). -/
  | prefetchExpiry
  /-- IO_SAMPLE (R267). -/
  | ioSample (inp : IoIn)
  /-- TEST_PULSE_START (R273). -/
  | testPulseStart (ch : BitVec 5)
  /-- TEST_PULSE_END (R274). -/
  | testPulseEnd (last : List (PerLane (BitVec 24)))
  /-- OVERCURRENT (R271). -/
  | overcurrent (ch : BitVec 5)
  /-- VF_UNDERVOLTAGE (R278). -/
  | vfUndervoltage (g2 : Bool) (enter : Bool) (by3 : BitVec 3)
  /-- VF_OVERVOLTAGE (R278). -/
  | vfOvervoltage (g2 : Bool) (by3 : BitVec 3)
  /-- FEEDBACK_TIMEOUT (R281). -/
  | feedbackTimeout (ch : BitVec 5)
  /-- IO_FLT_CLR (R280). -/
  | ioFltClr (l : Lane) (mask : Word)
  /-- IO_CONFIRM (R282). -/
  | ioConfirm (l : Lane) (v : Word)
  /-- BRK_TEST_REQ (R287). -/
  | brkTestReq (l : Lane) (mask : BitVec 4)
  /-- BRAKE_TEST_TIMEOUT (R287). -/
  | brakeTestTimeout (k : BitVec 2)
  /-- BRAKE_VALIDITY_WARNING (R288). -/
  | brakeValidityWarning (k : BitVec 2)
  /-- BRAKE_VALIDITY_LAPSE (R288). -/
  | brakeValidityLapse (k : BitVec 2)
  /-- PAIR_HEARTBEAT (R297). -/
  | pairHeartbeat (link1 : Bool) (h : Heartbeat) (sinceStrobe : Nat)
  /-- PAIR_SILENCE (R297). -/
  | pairSilence
  /-- PAIR_LINK_CHANGE (R296). -/
  | pairLinkChange (link1 : Bool) (lines : BitVec 6)
  /-- TINNING_BLOCK (R302). -/
  | tinningBlock (link1 : Bool) (crcOk : Bool) (rs : List TinRec)
  /-- TIN_MARKER_SEND (R301). -/
  | tinMarkerSend
  /-- TIN_MARKER (R305). -/
  | tinMarker (link1 : Bool) (m : Marker) (since19 : Nat)
  /-- HEALTH_REPORT (R314). -/
  | healthReport (link1 : Bool) (bytes : List Byte)
  /-- PAIR_SWITCH (R311). -/
  | pairSwitch (cold : Bool) (peerColdTake : Bool)
  /-- PAIR_RESYNC (R304). -/
  | pairResync
  /-- FEED_SAMPLE (R318). -/
  | feedSample (inA : BitVec 16) (inB : BitVec 16) (store : BitVec 7) (busOk : Bool)
  /-- POWER_FAIL_SEQUENCE (R320). -/
  | powerFailSequence
  /-- POWER_FAIL_RESTART (R320). -/
  | powerFailRestart
  /-- PWR_REQ_WRITE (R323). -/
  | pwrReqWrite (who : Init) (reg : BitVec 2) (v : Word)
  /-- HANDSHAKE_ANSWER (R325). -/
  | handshakeAnswer
  /-- HANDSHAKE_TIMEOUT (R325). -/
  | handshakeTimeout
  /-- POWER_STATE_REACHED (R328). -/
  | powerStateReached
  /-- DORM_AFTER_EXPIRY (R324). -/
  | dormAfterExpiry
  /-- WAKE_INPUT (R329). -/
  | wakeInput (n : BitVec 2) (high : Bool)
  /-- WAKE_RING_ACTIVITY (R329). -/
  | wakeRingActivity (n : BitVec 3) (on : Bool)
  /-- WAKE_TIMER (R329). -/
  | wakeTimer
  /-- PWR_WAKE_CMD (R329). -/
  | pwrWakeCmd (who : Init)
  /-- WAKE_READY_SIGNAL (R331). -/
  | wakeReadySignal (dom : BitVec 3)
  /-- WAKE_STEP_TIMEOUT (R333). -/
  | wakeStepTimeout (dom : BitVec 3)
  /-- WAKE_RETRY (R333). -/
  | wakeRetry
  /-- PWR_PAD_RELEASE (R334). -/
  | pwrPadRelease
  /-- PWR_RESTART (R338). -/
  | pwrRestart (key : Word) (session : BitVec 16)
  /-- POWER_ON (R338). -/
  | powerOn
  /-- RST_N_QUALIFIED (R337). -/
  | rstNQualified
  /-- RST_N_STUCK (R337). -/
  | rstNStuck
  /-- RST_N_IGNORE_END (R337). -/
  | rstNIgnoreEnd
  /-- MODULE_RESET (R20). -/
  | moduleReset (cause : ResetCause)
  /-- HALLMARK_AGREEMENT (R360). -/
  | hallmarkAgreement (reps : PerLane HmReport)
  /-- TOKEN_COMMISSION (R348). -/
  | tokenCommission
  /-- TOKEN_OPERATE (R348). -/
  | tokenOperate
  /-- TOKEN_SERVICE (R352). -/
  | tokenService
  /-- TOKEN_RETIRE (R348). -/
  | tokenRetire
  /-- TOKEN_ROOT (R348). -/
  | tokenRoot
  /-- TOKEN_REVOKE (R345). -/
  | tokenRevoke
  /-- TOKEN_MAINT (R362). -/
  | tokenMaint
  /-- TOKEN_CLEAR (R396). -/
  | tokenClear
  /-- TOKEN_FLOOR (R346). -/
  | tokenFloor
  /-- TOKEN_CHECK_COMPLETE (R348). -/
  | tokenCheckComplete
  /-- END_SERVICE (R352). -/
  | endService
  /-- SERVICE_EN_TIMEOUT (R352). -/
  | serviceEnTimeout
  /-- SEC_START_GO (R364). -/
  | secStartGo
  /-- COMMIT_REQ (R358). -/
  | commitReq
  /-- BANK_VERIFY (R365). -/
  | bankVerify
  /-- BANK_VERIFY_DONE (R365). -/
  | bankVerifyDone
  /-- BANK_SWITCH (R365). -/
  | bankSwitch (outage : Bool)
  /-- BANK_CONFIRM (R361). -/
  | bankConfirm
  /-- NOR_ERASE (R365). -/
  | norErase (off : BitVec 28)
  /-- NOR_PROGRAM (R365). -/
  | norProgram (off : BitVec 28)
  /-- NOR_OP_DONE (R365). -/
  | norOpDone (ok : Bool)
  /-- QUOTE (R357). -/
  | quote
  /-- QUOTE_DONE (R356). -/
  | quoteDone
  /-- KEYLOAD (R353). -/
  | keyload (l : Lane) (slot : BitVec 10) (key : BitVec 256)
  /-- KEYSET (R353). -/
  | keyset (l : Lane) (id : Word)
  /-- KCV (R353). -/
  | kcv (l : Lane) (slot : BitVec 10)
  /-- HXKEYLOAD (R353). -/
  | hxkeyload (ses : BitVec 7) (snd : BitVec 256) (rcv : BitVec 256)
  /-- ASSAY_SLICE_START (R370). -/
  | assaySliceStart (u : AssayUnit)
  /-- ASSAY_SLICE_END (R377). -/
  | assaySliceEnd (u : AssayUnit) (o : SliceOut)
  /-- ASSAY_ROTATION_LATE (R375). -/
  | assayRotationLate (u : AssayUnit)
  /-- MANUAL_BIST_START (R379). -/
  | manualBistStart
  /-- MANUAL_BIST_END (R379). -/
  | manualBistEnd (ok : Bool) (die : BitVec 3)
  /-- CVU_SCAN_START (R385). -/
  | cvuScanStart (e : Engine) (u : BitVec 2) (w : Word)
  /-- CVU_ABORT (R385). -/
  | cvuAbort (e : Engine) (u : BitVec 2) (n : Nat)
  /-- CVU_INIT (R384). -/
  | cvuInit (e : Engine) (u : BitVec 2) (w : Word)
  /-- CVU_DATA_W (R384). -/
  | cvuDataW (e : Engine) (u : BitVec 2) (w : Word)
  /-- CVU_DATA_B (R384). -/
  | cvuDataB (e : Engine) (u : BitVec 2) (b : BitVec 8)
  /-- CVU_SCAN_END (R385). -/
  | cvuScanEnd (e : Engine) (u : BitVec 2) (ecc : Bool)
  /-- RECORD_WRITE (R388). -/
  | recordWrite (ok : Bool)
  /-- REC_READ (R394). -/
  | recRead (hi : BitVec 16)
  /-- REC_READ_DONE (R394). -/
  | recReadDone
  /-- REC_ERASE_DONE (R396). -/
  | recEraseDone
  /-- TICK_STROBE_MISSING (R38). -/
  | tickStrobeMissing (l : Lane)
  /-- LANE_LINK_UP (R63). -/
  | laneLinkUp (l : Lane)
  /-- RST_N_RELEASE (R337). -/
  | rstNRelease
  /-- POWER_LOSS (R322). -/
  | powerLoss
  deriving DecidableEq, Repr

end Sys2Proof
end

