-- ==== Sys2Proof/Decode.lean ====
section
/-!
DEFINITION. The words of the block. spec/opcode_table.json gives none of its rows any bits, so no word of the table spells a command. A
Pervo instruction word (R107, R117) is what a thread fetches: `decodePervo` reads it, as the command it is.

Readings and choices: log entries 1 (DESIGN CHOICE), 50 (DEDUCED).
-/

namespace Sys2Proof

/-- The command that the table's bits spell: no row has bits. -/
def decodeTableWord (_nbits _w : Nat) : Option Instr := none

/-- The fields of an instruction word (R107), its X as `x`. -/
def pervoFields (t : Thr) (w : DWord) (ecc : Ecc) (x : BitVec 9) : PervoOp :=
  ⟨t, w.extractLsb' 51 5, w.extractLsb' 46 5, w.extractLsb' 41 5, x, w.extractLsb' 0 32, ecc, none⟩

/-- The X bits of a word, without those of `mask`, which name the row. -/
def pervoX (w : DWord) (mask : BitVec 9) : BitVec 9 := w.extractLsb' 32 9 &&& ~~~ mask

/-- The rows of VPUB (R128): the kind in X[1:0]; the kind 3 keeps its X, an undefined encoding. -/
def pervoVpub (t : Thr) (w : DWord) (ecc : Ecc) : Instr :=
  let op := pervoFields t w ecc (pervoX w 3)
  match (w.extractLsb' 32 2).toNat with
  | 0 => .vpubLocal op
  | 1 => .vpubSlice op
  | 2 => .vpubHexlo op
  | _ => .vpubLocal (pervoFields t w ecc (pervoX w 0))

/-- The rows of ELCHK (R151): the test in X[1:0]. -/
def pervoElchk (t : Thr) (w : DWord) (ecc : Ecc) : Instr :=
  let op := pervoFields t w ecc (pervoX w 3)
  match (w.extractLsb' 32 2).toNat with
  | 0 => .elchkAvailable op
  | 1 => .elchkClear op
  | 2 => .elchkDetected op
  | _ => .elchkOverlap op

/-- The opcode map (R117). A word whose OPC it lacks, the words of all zeros and all ones among them, stands on NOP's row with that OPC, and
is undefined there (R115). -/
def decodePervo (t : Thr) (w : DWord) (ecc : Ecc) : Instr :=
  let op := pervoFields t w ecc (pervoX w 0)
  match (w.extractLsb' 56 8).toNat with
  | 0x01 => .nop op
  | 0x08 => .br op
  | 0x09 => .brp op
  | 0x0A => .call op
  | 0x0B => .ret op
  | 0x0C => .epochend op
  | 0x0D => .halt op
  | 0x0E => .fence op
  | 0x10 => .cadd op
  | 0x11 => .csub op
  | 0x12 => .cmul op
  | 0x13 => .cand op
  | 0x14 => .cor op
  | 0x15 => .cxor op
  | 0x16 => .cnot op
  | 0x17 => .csel op
  | 0x18 => .cmov op
  | 0x19 => .cldi op
  | 0x1A => .cshl op
  | 0x1B => .cshr op
  | 0x20 => .ccmp op
  | 0x28 => .aset op
  | 0x29 => .aadd op
  | 0x2A => .aidx op
  | 0x38 => if w.getLsbD 39 then .oldCarry (pervoFields t w ecc (pervoX w 0x80)) else .old op
  | 0x39 => .ost op
  | 0x3A => .obit op
  | 0x3B => .oscn op
  | 0x40 => .rtreq op
  | 0x41 => .rtlock op
  | 0x42 => .rtrel op
  | 0x43 =>
    if w.getLsbD 32 then .flankReserve (pervoFields t w ecc (pervoX w 1)) else .flankRelease (pervoFields t w ecc (pervoX w 1))
  | 0x44 => pervoElchk t w ecc
  | 0x48 => .tstart op
  | 0x49 => .tchk op
  | 0x50 => .slrd op
  | 0x51 => .slwr op
  | 0x52 => .hxsend op
  | 0x53 => .hxrecv op
  | 0x54 => .brsend op
  | 0x58 => pervoVpub t w ecc
  | 0x60 => .csrr op
  | 0x61 => .csrw op
  | 0x62 => .syscall op
  | 0x63 => .iret op
  | 0x64 => .waiti op
  | _ => .nop { op with other := some (w.extractLsb' 56 8) }

/-- The opcodes of the map (R117). -/
def pervoOpcodes : List (BitVec 8) :=
  [0x01, 0x08, 0x09, 0x0A, 0x0B, 0x0C, 0x0D, 0x0E, 0x10, 0x11, 0x12, 0x13, 0x14, 0x15, 0x16, 0x17, 0x18, 0x19, 0x1A, 0x1B, 0x20, 0x28,
   0x29, 0x2A, 0x38, 0x39, 0x3A, 0x3B, 0x40, 0x41, 0x42, 0x43, 0x44, 0x48, 0x49, 0x50, 0x51, 0x52, 0x53, 0x54, 0x58, 0x60, 0x61, 0x62,
   0x63, 0x64]

end Sys2Proof
end

