-- ==== Sys2Proof/Machine/Bits.lean ====
section
/-!
DEFINITION. Bit fields of a 32-bit register, byte order, and saturating counts: the helpers every register
description of the spec uses.
-/

namespace Sys2Proof.Machine

/-- The mask of bits `hi..lo`. -/
def fieldMask (hi lo : Nat) : Word := BitVec.ofNat 32 ((2 ^ (hi + 1 - lo) - 1) * 2 ^ lo)

/-- Bits `hi..lo` of a register, as a number. -/
def getBits (w : Word) (hi lo : Nat) : Nat := w.toNat / 2 ^ lo % 2 ^ (hi + 1 - lo)

/-- The register with bits `hi..lo` set to `v` (taken mod the field's size). -/
def setBits (w : Word) (hi lo v : Nat) : Word :=
  (w &&& ~~~ fieldMask hi lo) ||| (BitVec.ofNat 32 (v % 2 ^ (hi + 1 - lo) * 2 ^ lo))

/-- `v` as `n` bytes, most significant first. -/
def beBytes : Nat → Nat → List Byte
  | 0, _ => []
  | n + 1, v => BitVec.ofNat 8 (v / 256 ^ n) :: beBytes n v

/-- The number that bytes spell, most significant first. -/
def ofBytes (bs : List Byte) : Nat := bs.foldl (fun a b => a * 256 + b.toNat) 0

/-- Bytes `off .. off + n - 1` as a number; bytes past the end read 0. -/
def bytesAt (bs : List Byte) (off n : Nat) : Nat :=
  ofBytes ((List.range n).map fun k => bs.getD (off + k) 0)

/-- The 32-bit words that bytes spell, four bytes each, most significant first (zero padded). -/
def wordsOf (bs : List Byte) : List Word :=
  (List.range ((bs.length + 3) / 4)).map fun k => BitVec.ofNat 32 (bytesAt bs (4 * k) 4)

/-- The bytes of 32-bit words, most significant first. -/
def wordsBytes (ws : List Word) : List Byte := ws.flatMap fun w => beBytes 4 w.toNat

/-- A count that stops at `cap`. -/
def satAdd (cap n k : Nat) : Nat := min cap (n + k)

/-- Two's complement of `z` in `w` bits, saturating at ±(2^(w-1) - 1) (R29 registers: "signed, saturating"). -/
def satSigned (w : Nat) (z : Int) : Nat :=
  let m : Int := 2 ^ (w - 1) - 1
  ((max (-m) (min m z)) % (2 ^ w : Int)).toNat

/-- The signed number that `w` bits spell. -/
def signedOf (w v : Nat) : Int := if v < 2 ^ (w - 1) then v else (v : Int) - 2 ^ w

/-- |x - y|. -/
def absDiff (x y : Nat) : Nat := (x - y) + (y - x)

/-- Bit `k` of a number. -/
def natBit (n k : Nat) : Bool := n / 2 ^ k % 2 = 1

/-- A number with bit `k` set or cleared. -/
def natSetBit (n k : Nat) (b : Bool) : Nat :=
  if natBit n k = b then n else if b then n + 2 ^ k else n - 2 ^ k

/-- 1 or 0. -/
def b2n (b : Bool) : Nat := if b then 1 else 0

/-- The number whose bit k is the k-th Boolean. -/
def bitsOf : List Bool → Nat
  | [] => 0
  | b :: r => b2n b + 2 * bitsOf r

/-- How many of the first `n` bits are 1. -/
def popCount (n v : Nat) : Nat := ((List.range n).filter fun k => natBit v k).length

end Sys2Proof.Machine
end

