-- ==== Sys2Proof/Machine/Crypto.lean ====
section
/-!
DEFINITION. SHA-256 and HMAC-SHA-256 over byte lists (R56, R58, R66: digests and lane codes), and the cyclic
redundancy checks (R383). Written from the algorithms' public definitions, which the spec names.
-/

namespace Sys2Proof.Machine

/-- The n words of 32 bits that a number spells, most significant first. -/
def wordRow (n r : Nat) : List Word := (List.range n).map fun k => BitVec.ofNat 32 (r / 2 ^ (32 * (n - 1 - k)))

/-- The round constants, eight to a row. -/
def sha256KRows : List Nat :=
  [0x428a2f9871374491b5c0fbcfe9b5dba53956c25b59f111f1923f82a4ab1c5ed5,
   0xd807aa9812835b01243185be550c7dc372be5d7480deb1fe9bdc06a7c19bf174,
   0xe49b69c1efbe47860fc19dc6240ca1cc2de92c6f4a7484aa5cb0a9dc76f988da,
   0x983e5152a831c66db00327c8bf597fc7c6e00bf3d5a7914706ca635114292967,
   0x27b70a852e1b21384d2c6dfc53380d13650a7354766a0abb81c2c92e92722c85,
   0xa2bfe8a1a81a664bc24b8b70c76c51a3d192e819d6990624f40e3585106aa070,
   0x19a4c1161e376c082748774c34b0bcb5391c0cb34ed8aa4a5b9cca4f682e6ff3,
   0x748f82ee78a5636f84c878148cc7020890befffaa4506cebbef9a3f7c67178f2]

def sha256K : List Word := sha256KRows.flatMap (wordRow 8)

structure Sha where
  a : Word
  b : Word
  c : Word
  d : Word
  e : Word
  f : Word
  g : Word
  h : Word
  deriving DecidableEq, Repr

def Sha.init : Sha :=
  ⟨0x6a09e667, 0xbb67ae85, 0x3c6ef372, 0xa54ff53a, 0x510e527f, 0x9b05688c, 0x1f83d9ab, 0x5be0cd19⟩

def sha256Round (k w : Word) (s : Sha) : Sha :=
  let t1 := s.h + (s.e.rotateRight 6 ^^^ s.e.rotateRight 11 ^^^ s.e.rotateRight 25)
    + ((s.e &&& s.f) ^^^ (~~~ s.e &&& s.g)) + k + w
  let t2 := (s.a.rotateRight 2 ^^^ s.a.rotateRight 13 ^^^ s.a.rotateRight 22)
    + ((s.a &&& s.b) ^^^ (s.a &&& s.c) ^^^ (s.b &&& s.c))
  ⟨t1 + t2, s.a, s.b, s.c, s.d + t1, s.e, s.f, s.g⟩

/-- One round for each constant; the window holds the next sixteen schedule words. -/
def sha256Rounds : List Word → List Word → Sha → Sha
  | [], _, s => s
  | k :: ks, win, s =>
    let w (n : Nat) : Word := win.getD n 0
    let s1 := (w 14).rotateRight 17 ^^^ (w 14).rotateRight 19 ^^^ (w 14 >>> 10)
    let s0 := (w 1).rotateRight 7 ^^^ (w 1).rotateRight 18 ^^^ (w 1 >>> 3)
    sha256Rounds ks (win.tail ++ [s1 + w 9 + s0 + w 0]) (sha256Round k (w 0) s)

def sha256Block (s : Sha) (blk : List Byte) : Sha :=
  let r := sha256Rounds sha256K (wordsOf blk) s
  ⟨s.a + r.a, s.b + r.b, s.c + r.c, s.d + r.d, s.e + r.e, s.f + r.f, s.g + r.g, s.h + r.h⟩

def sha256Pad (m : List Byte) : List Byte :=
  m ++ [0x80] ++ List.replicate ((119 - m.length % 64) % 64) 0 ++ beBytes 8 (8 * m.length)

def sha256Blocks : Nat → List Byte → Sha → Sha
  | 0, _, s => s
  | n + 1, m, s => sha256Blocks n (m.drop 64) (sha256Block s (m.take 64))

/-- The digest as 32 bytes. -/
def sha256 (m : List Byte) : List Byte :=
  let p := sha256Pad m
  let s := sha256Blocks (p.length / 64) p Sha.init
  wordsBytes [s.a, s.b, s.c, s.d, s.e, s.f, s.g, s.h]

/-- The digest read as a big-endian number (R56). -/
def sha256Num (m : List Byte) : BitVec 256 := BitVec.ofNat 256 (ofBytes (sha256 m))

def hmacSha256 (key m : List Byte) : List Byte :=
  let k := key ++ List.replicate (64 - key.length) 0
  sha256 (k.map (· ^^^ 0x5c) ++ sha256 (k.map (· ^^^ 0x36) ++ m))

/-- One bit through a CRC register, most significant bit first. -/
def crcBit (width poly : Nat) (crc : Nat) (bit : Bool) : Nat :=
  let top := natBit crc (width - 1)
  let sh := crc * 2 % 2 ^ width
  if top = bit then sh else Nat.xor sh poly

/-- One byte, most significant bit first. -/
def crcByteMsb (width poly crc : Nat) (b : Byte) : Nat :=
  (List.range 8).foldl (fun c k => crcBit width poly c (natBit b.toNat (7 - k))) crc

/-- One byte through a CRC register held in reflected order; `polyR` is the reflected polynomial. -/
def crcByteRefl (polyR crc : Nat) (b : Byte) : Nat :=
  (List.range 8).foldl (fun c _ => if natBit c 0 then Nat.xor (c / 2) polyR else c / 2) (Nat.xor crc b.toNat)

/-- CRC-32 of IEEE 802.3. -/
def crc32 (bs : List Byte) : Nat := Nat.xor (bs.foldl (crcByteRefl 0xEDB88320) 0xFFFFFFFF) 0xFFFFFFFF

/-- CRC-32C (Castagnoli). -/
def crc32c (bs : List Byte) : Nat := Nat.xor (bs.foldl (crcByteRefl 0x82F63B78) 0xFFFFFFFF) 0xFFFFFFFF

end Sys2Proof.Machine
end

