-- ==== Sys2Proof/Machine/RegMap.lean ====
section
/-!
DEFINITION. The register map: every register of the spec at its address, every field at its bits, the access code
of every field (R6) and the reset values, from the register tables of the chapters and R405 to R408.
A key is a fabric address; a register of a lane view, of an interrupt controller, of a check-value unit or of the
control space has its engine's number above bit 32, so every register of the module has one key.

Readings and choices: log entries 3 (DESIGN CHOICE), 4 (DESIGN CHOICE).
-/

namespace Sys2Proof.Machine

/-- A field of a register: the register's key and the field's bits. -/
structure Fld where
  key : Nat
  hi : Nat
  lo : Nat
  deriving DecidableEq, Repr

/-- The lane view of lane `l` (R404). -/
def laneKey (l : Lane) : Nat := (l.num + 1) * 0x100000000

/-- The interrupt controllers: in each lane view, and in the fabric (R405, R408). -/
def picKey : Engine → Nat
  | .lane l => laneKey l + 0x04010000
  | .mgmt => 0x80600000

/-- The check-value units: in each lane view, and in the fabric (R405, R408). -/
def cvuKey : Engine → Nat
  | .lane l => laneKey l + 0x04020000
  | .mgmt => 0x80700000

/-- The control and status registers, in no address space (R406). -/
def csKey (e : Engine) : Nat := (e.num + 16) * 0x100000000

def TIME_CTRL : Nat := 0x80010000
def TIME_CTRL_PPS_OUT_EN : Fld := ⟨TIME_CTRL, 8, 8⟩
def TIME_CTRL_PTP_PORT : Fld := ⟨TIME_CTRL, 7, 6⟩
def TIME_CTRL_PAIR_FOLLOW : Fld := ⟨TIME_CTRL, 5, 5⟩
def TIME_CTRL_RING_FOLLOW : Fld := ⟨TIME_CTRL, 4, 4⟩
def TIME_CTRL_RING_SEL : Fld := ⟨TIME_CTRL, 3, 1⟩

def TIME_PTP_CFG : Nat := 0x80010004
def TIME_PTP_CFG_TRANSPORT : Fld := ⟨TIME_PTP_CFG, 9, 9⟩
def TIME_PTP_CFG_DELAY_MECH : Fld := ⟨TIME_PTP_CFG, 8, 8⟩
def TIME_PTP_CFG_DOMAIN : Fld := ⟨TIME_PTP_CFG, 6, 0⟩

def TIME_STATUS : Nat := 0x80010008
def TIME_STATUS_LANES : Fld := ⟨TIME_STATUS, 8, 6⟩
def TIME_STATUS_SLEWING : Fld := ⟨TIME_STATUS, 5, 5⟩
def TIME_STATUS_ALIGNED : Fld := ⟨TIME_STATUS, 4, 4⟩
def TIME_STATUS_LOCKED : Fld := ⟨TIME_STATUS, 3, 3⟩
def TIME_STATUS_SRC : Fld := ⟨TIME_STATUS, 2, 0⟩

def TIME_NOW_LO : Nat := 0x80010010
def TIME_NOW_LO_T : Fld := ⟨TIME_NOW_LO, 31, 0⟩

def TIME_NOW_HI : Nat := 0x80010014
def TIME_NOW_HI_T : Fld := ⟨TIME_NOW_HI, 31, 0⟩

def TIME_EPOCH_LO : Nat := 0x80010018
def TIME_EPOCH_LO_EPOCH_LO : Fld := ⟨TIME_EPOCH_LO, 31, 0⟩

def TIME_EPOCH_HI : Nat := 0x8001001C
def TIME_EPOCH_HI_TICK : Fld := ⟨TIME_EPOCH_HI, 20, 16⟩
def TIME_EPOCH_HI_EPOCH_HI : Fld := ⟨TIME_EPOCH_HI, 15, 0⟩

def TIME_OFFSET : Nat := 0x80010020
def TIME_OFFSET_OFFSET : Fld := ⟨TIME_OFFSET, 31, 0⟩

def TIME_RATE : Nat := 0x80010024
def TIME_RATE_RATE : Fld := ⟨TIME_RATE, 31, 0⟩

def TIME_PPS_OFFSET : Nat := 0x80010034
def TIME_PPS_OFFSET_PPS_OFS : Fld := ⟨TIME_PPS_OFFSET, 31, 0⟩

def TIME_OSC_REF : Nat := 0x80010028
def TIME_OSC_REF_DEV : Fld := ⟨TIME_OSC_REF, 15, 0⟩

def TIME_OSC_GRD : Nat := 0x8001002C
def TIME_OSC_GRD_DEV : Fld := ⟨TIME_OSC_GRD, 15, 0⟩

def TIME_OSC_AON : Nat := 0x80010030
def TIME_OSC_AON_DEV : Fld := ⟨TIME_OSC_AON, 15, 0⟩

def TIME_FAULT : Nat := 0x80010038
def TIME_FAULT_LANE_SAMPLE : Fld := ⟨TIME_FAULT, 6, 6⟩
def TIME_FAULT_SRC_BEHIND : Fld := ⟨TIME_FAULT, 5, 5⟩
def TIME_FAULT_OFFSET_LARGE : Fld := ⟨TIME_FAULT, 4, 4⟩
def TIME_FAULT_PTP_LOST : Fld := ⟨TIME_FAULT, 3, 3⟩
def TIME_FAULT_AON_FAULT : Fld := ⟨TIME_FAULT, 2, 2⟩
def TIME_FAULT_GRD_FAULT : Fld := ⟨TIME_FAULT, 1, 1⟩
def TIME_FAULT_REF_FAULT : Fld := ⟨TIME_FAULT, 0, 0⟩

def LANE_TIME_NOW_LO (l : Lane) : Nat := laneKey l + 0x4000100
def LANE_TIME_NOW_LO_T (l : Lane) : Fld := ⟨LANE_TIME_NOW_LO l, 31, 0⟩

def LANE_TIME_NOW_HI (l : Lane) : Nat := laneKey l + 0x4000104
def LANE_TIME_NOW_HI_T (l : Lane) : Fld := ⟨LANE_TIME_NOW_HI l, 31, 0⟩

def LANE_TIME_DEV (l : Lane) : Nat := laneKey l + 0x4000110
def LANE_TIME_DEV_RATE (l : Lane) : Fld := ⟨LANE_TIME_DEV l, 31, 16⟩
def LANE_TIME_DEV_PHASE (l : Lane) : Fld := ⟨LANE_TIME_DEV l, 15, 0⟩

def LANE_TIME_SKEW (l : Lane) : Nat := laneKey l + 0x4000114
def LANE_TIME_SKEW_SKEW_CNT (l : Lane) : Fld := ⟨LANE_TIME_SKEW l, 23, 16⟩
def LANE_TIME_SKEW_STROBE (l : Lane) : Fld := ⟨LANE_TIME_SKEW l, 15, 0⟩

def LANE_ID (l : Lane) : Nat := laneKey l + 0x4000000
def LANE_ID_LANE (l : Lane) : Fld := ⟨LANE_ID l, 17, 16⟩
def LANE_ID_ACONST (l : Lane) : Fld := ⟨LANE_ID l, 15, 0⟩

def LANE_STATE (l : Lane) : Nat := laneKey l + 0x4000004
def LANE_STATE_PAIR_LAST (l : Lane) : Fld := ⟨LANE_STATE l, 13, 12⟩
def LANE_STATE_VOTERS (l : Lane) : Fld := ⟨LANE_STATE l, 11, 9⟩
def LANE_STATE_STATE_C (l : Lane) : Fld := ⟨LANE_STATE l, 8, 6⟩
def LANE_STATE_STATE_B (l : Lane) : Fld := ⟨LANE_STATE l, 5, 3⟩
def LANE_STATE_STATE_A (l : Lane) : Fld := ⟨LANE_STATE l, 2, 0⟩

def LANE_CAUSE (l : Lane) : Nat := laneKey l + 0x4000008
def LANE_CAUSE_EPOCH (l : Lane) : Fld := ⟨LANE_CAUSE l, 31, 8⟩
def LANE_CAUSE_CAUSE (l : Lane) : Fld := ⟨LANE_CAUSE l, 7, 0⟩

def LANE_VOTE (l : Lane) : Nat := laneKey l + 0x400000C
def LANE_VOTE_OUTCOME (l : Lane) : Fld := ⟨LANE_VOTE l, 14, 12⟩
def LANE_VOTE_SHADOW_IN (l : Lane) : Fld := ⟨LANE_VOTE l, 11, 9⟩
def LANE_VOTE_MUTUAL (l : Lane) : Fld := ⟨LANE_VOTE l, 8, 6⟩
def LANE_VOTE_AGREE (l : Lane) : Fld := ⟨LANE_VOTE l, 5, 3⟩
def LANE_VOTE_DIGEST_RX (l : Lane) : Fld := ⟨LANE_VOTE l, 2, 0⟩

def LANE_DIGEST (l : Lane) (n : Nat) : Nat := laneKey l + 0x4000020 + 0x4 * n
def LANE_DIGEST_DIGEST (l : Lane) (n : Nat) : Fld := ⟨LANE_DIGEST l n, 31, 0⟩

def LANE_OSUM (l : Lane) (n : Nat) : Nat := laneKey l + 0x4000040 + 0x4 * n
def LANE_OSUM_OSUM (l : Lane) (n : Nat) : Fld := ⟨LANE_OSUM l n, 31, 0⟩

def LANE_ANNEAL (l : Lane) : Nat := laneKey l + 0x4000060
def LANE_ANNEAL_WDR_HOUR (l : Lane) : Fld := ⟨LANE_ANNEAL l, 15, 12⟩
def LANE_ANNEAL_ANN_HOUR (l : Lane) : Fld := ⟨LANE_ANNEAL l, 11, 8⟩
def LANE_ANNEAL_DONOR (l : Lane) : Fld := ⟨LANE_ANNEAL l, 7, 6⟩
def LANE_ANNEAL_STEP (l : Lane) : Fld := ⟨LANE_ANNEAL l, 5, 3⟩
def LANE_ANNEAL_RESULT (l : Lane) : Fld := ⟨LANE_ANNEAL l, 2, 0⟩

def LANE_RETIRE (l : Lane) : Nat := laneKey l + 0x4000064
def LANE_RETIRE_REFUSE (l : Lane) : Fld := ⟨LANE_RETIRE l, 15, 8⟩
def LANE_RETIRE_STATUS (l : Lane) : Fld := ⟨LANE_RETIRE l, 6, 4⟩
def LANE_RETIRE_TARGET (l : Lane) : Fld := ⟨LANE_RETIRE l, 1, 0⟩

def LANE_LINK_STAT (l : Lane) : Nat := laneKey l + 0x4000068
def LANE_LINK_STAT_DOWN_CNT (l : Lane) : Fld := ⟨LANE_LINK_STAT l, 31, 24⟩
def LANE_LINK_STAT_ERR_PREV (l : Lane) : Fld := ⟨LANE_LINK_STAT l, 23, 16⟩
def LANE_LINK_STAT_ERR_NEXT (l : Lane) : Fld := ⟨LANE_LINK_STAT l, 15, 8⟩
def LANE_LINK_STAT_UP_PREV (l : Lane) : Fld := ⟨LANE_LINK_STAT l, 1, 1⟩
def LANE_LINK_STAT_UP_NEXT (l : Lane) : Fld := ⟨LANE_LINK_STAT l, 0, 0⟩

def LANE_CTRL (l : Lane) : Nat := laneKey l + 0x4000070
def LANE_CTRL_RETIRE_OK (l : Lane) : Fld := ⟨LANE_CTRL l, 1, 1⟩
def LANE_CTRL_ANNEAL_EN (l : Lane) : Fld := ⟨LANE_CTRL l, 0, 0⟩

def CS_TID (e : Engine) : Nat := csKey e + 0x0
def CS_TID_ENGINE (e : Engine) : Fld := ⟨CS_TID e, 1, 0⟩

def CS_STATUS (e : Engine) : Nat := csKey e + 0x1
def CS_STATUS_RESTARTS (e : Engine) : Fld := ⟨CS_STATUS e, 15, 8⟩
def CS_STATUS_HANDLER (e : Engine) : Fld := ⟨CS_STATUS e, 0, 0⟩

def CS_EPC (e : Engine) : Nat := csKey e + 0x2
def CS_EPC_EPC (e : Engine) : Fld := ⟨CS_EPC e, 31, 0⟩

def CS_ESRC (e : Engine) : Nat := csKey e + 0x3
def CS_ESRC_SRC (e : Engine) : Fld := ⟨CS_ESRC e, 6, 0⟩

def CS_EADDR (e : Engine) : Nat := csKey e + 0x4
def CS_EADDR_EADDR (e : Engine) : Fld := ⟨CS_EADDR e, 31, 0⟩

def CS_EINFO (e : Engine) : Nat := csKey e + 0x5
def CS_EINFO_OPC (e : Engine) : Fld := ⟨CS_EINFO e, 7, 0⟩

def CS_CYCLE_LO (e : Engine) : Nat := csKey e + 0x6
def CS_CYCLE_LO_CYCLE (e : Engine) : Fld := ⟨CS_CYCLE_LO e, 31, 0⟩

def CS_CYCLE_HI (e : Engine) : Nat := csKey e + 0x7
def CS_CYCLE_HI_CYCLE (e : Engine) : Fld := ⟨CS_CYCLE_HI e, 31, 0⟩

def CS_ECC (e : Engine) : Nat := csKey e + 0x8
def CS_ECC_CORR_CNT (e : Engine) : Fld := ⟨CS_ECC e, 15, 0⟩

def CS_RGN_BASE (e : Engine) (n : Nat) : Nat := csKey e + 0x10 + 0x2 * n
def CS_RGN_BASE_BASE (e : Engine) (n : Nat) : Fld := ⟨CS_RGN_BASE e n, 31, 3⟩
def CS_RGN_BASE_W (e : Engine) (n : Nat) : Fld := ⟨CS_RGN_BASE e n, 1, 1⟩
def CS_RGN_BASE_R (e : Engine) (n : Nat) : Fld := ⟨CS_RGN_BASE e n, 0, 0⟩

def CS_RGN_LAST (e : Engine) (n : Nat) : Nat := csKey e + 0x11 + 0x2 * n
def CS_RGN_LAST_LAST (e : Engine) (n : Nat) : Fld := ⟨CS_RGN_LAST e n, 31, 3⟩

def CS_SAFE_RGN_BASE (e : Engine) (n : Nat) : Nat := csKey e + 0x30 + 0x2 * n

def CS_SAFE_RGN_LAST (e : Engine) (n : Nat) : Nat := csKey e + 0x31 + 0x2 * n

def PIC_CTRL (e : Engine) : Nat := picKey e + 0x0
def PIC_CTRL_GDIS (e : Engine) : Fld := ⟨PIC_CTRL e, 0, 0⟩

def PIC_STATUS (e : Engine) : Nat := picKey e + 0x4
def PIC_STATUS_TAILCHAIN_CNT (e : Engine) : Fld := ⟨PIC_STATUS e, 23, 16⟩
def PIC_STATUS_HANDLER (e : Engine) : Fld := ⟨PIC_STATUS e, 15, 15⟩
def PIC_STATUS_CUR_SRC (e : Engine) : Fld := ⟨PIC_STATUS e, 14, 8⟩
def PIC_STATUS_LAST_SRC (e : Engine) : Fld := ⟨PIC_STATUS e, 6, 0⟩

def PIC_VEC_BASE (e : Engine) : Nat := picKey e + 0x8
def PIC_VEC_BASE_BASE (e : Engine) : Fld := ⟨PIC_VEC_BASE e, 31, 3⟩

def PIC_ENABLE (e : Engine) (n : Nat) : Nat := picKey e + 0x10 + 0x4 * n
def PIC_ENABLE_EN (e : Engine) (n : Nat) : Fld := ⟨PIC_ENABLE e n, 31, 0⟩

def PIC_PENDING (e : Engine) (n : Nat) : Nat := picKey e + 0x20 + 0x4 * n
def PIC_PENDING_PEND (e : Engine) (n : Nat) : Fld := ⟨PIC_PENDING e n, 31, 0⟩

def PIC_CLR (e : Engine) : Nat := picKey e + 0x30
def PIC_CLR_SRC (e : Engine) : Fld := ⟨PIC_CLR e, 6, 0⟩

def PIC_SET (e : Engine) : Nat := picKey e + 0x34
def PIC_SET_SRC (e : Engine) : Fld := ⟨PIC_SET e, 6, 0⟩

def PIC_HOLDOFF (e : Engine) (n : Nat) : Nat := picKey e + 0x40 + 0x4 * n
def PIC_HOLDOFF_REMAIN (e : Engine) (n : Nat) : Fld := ⟨PIC_HOLDOFF e n, 31, 16⟩
def PIC_HOLDOFF_HOLDOFF (e : Engine) (n : Nat) : Fld := ⟨PIC_HOLDOFF e n, 15, 0⟩

def PIC_COUNT (e : Engine) (n : Nat) : Nat := picKey e + 0x100 + 0x4 * n
def PIC_COUNT_OVF (e : Engine) (n : Nat) : Fld := ⟨PIC_COUNT e n, 8, 8⟩
def PIC_COUNT_COUNT (e : Engine) (n : Nat) : Fld := ⟨PIC_COUNT e n, 7, 0⟩

def LANE_MBX_UP_DATA (n : Nat) (k : Nat) : Nat := 0x80608000 + 0x400 * n + 0x4 * k
def LANE_MBX_UP_DATA_DATA (n : Nat) (k : Nat) : Fld := ⟨LANE_MBX_UP_DATA n k, 31, 0⟩

def LANE_MBX_UP_POST (n : Nat) : Nat := 0x80608040 + 0x400 * n
def LANE_MBX_UP_POST_LEN (n : Nat) : Fld := ⟨LANE_MBX_UP_POST n, 4, 0⟩

def LANE_MBX_UP_POP (n : Nat) : Nat := 0x80608044 + 0x400 * n
def LANE_MBX_UP_POP_POP (n : Nat) : Fld := ⟨LANE_MBX_UP_POP n, 31, 0⟩

def LANE_MBX_DN_DATA (n : Nat) (k : Nat) : Nat := 0x80608080 + 0x400 * n + 0x4 * k
def LANE_MBX_DN_DATA_DATA (n : Nat) (k : Nat) : Fld := ⟨LANE_MBX_DN_DATA n k, 31, 0⟩

def LANE_MBX_DN_POST (n : Nat) : Nat := 0x806080C0 + 0x400 * n
def LANE_MBX_DN_POST_LEN (n : Nat) : Fld := ⟨LANE_MBX_DN_POST n, 4, 0⟩

def LANE_MBX_DN_POP (n : Nat) : Nat := 0x806080C4 + 0x400 * n
def LANE_MBX_DN_POP_POP (n : Nat) : Fld := ⟨LANE_MBX_DN_POP n, 31, 0⟩

def LANE_MBX_STAT (n : Nat) : Nat := 0x806080C8 + 0x400 * n
def LANE_MBX_STAT_DN_OVF (n : Nat) : Fld := ⟨LANE_MBX_STAT n, 19, 19⟩
def LANE_MBX_STAT_UP_OVF (n : Nat) : Fld := ⟨LANE_MBX_STAT n, 18, 18⟩
def LANE_MBX_STAT_DN_LEN (n : Nat) : Fld := ⟨LANE_MBX_STAT n, 17, 13⟩
def LANE_MBX_STAT_UP_LEN (n : Nat) : Fld := ⟨LANE_MBX_STAT n, 12, 8⟩
def LANE_MBX_STAT_DN_CNT (n : Nat) : Fld := ⟨LANE_MBX_STAT n, 7, 4⟩
def LANE_MBX_STAT_UP_CNT (n : Nat) : Fld := ⟨LANE_MBX_STAT n, 3, 0⟩

def RTE_INFO (l : Lane) : Nat := laneKey l + 0x4030000
def RTE_INFO_PRESENT (l : Lane) : Fld := ⟨RTE_INFO l, 28, 16⟩
def RTE_INFO_MAX_EL (l : Lane) : Fld := ⟨RTE_INFO l, 7, 0⟩

def RTE_RSS (l : Lane) : Nat := laneKey l + 0x4030004
def RTE_RSS_RSS (l : Lane) : Fld := ⟨RTE_RSS l, 10, 0⟩

def RTE_STAT (l : Lane) : Nat := laneKey l + 0x4030008
def RTE_STAT_LOCKED (l : Lane) : Fld := ⟨RTE_STAT l, 12, 0⟩

def RTE_OPS (l : Lane) : Nat := laneKey l + 0x403000C
def RTE_OPS_LOCK_REFUSED (l : Lane) : Fld := ⟨RTE_OPS l, 31, 16⟩
def RTE_OPS_LOCK_OK (l : Lane) : Fld := ⟨RTE_OPS l, 15, 0⟩

def RTE_LAST (l : Lane) : Nat := laneKey l + 0x4030010
def RTE_LAST_RESULT (l : Lane) : Fld := ⟨RTE_LAST l, 14, 14⟩
def RTE_LAST_OP (l : Lane) : Fld := ⟨RTE_LAST l, 13, 12⟩
def RTE_LAST_ROUTE (l : Lane) : Fld := ⟨RTE_LAST l, 11, 0⟩

def RTE_LOAD_ERR (l : Lane) : Nat := laneKey l + 0x4030014
def RTE_LOAD_ERR_CODE (l : Lane) : Fld := ⟨RTE_LOAD_ERR l, 31, 24⟩
def RTE_LOAD_ERR_INDEX (l : Lane) : Fld := ⟨RTE_LOAD_ERR l, 16, 0⟩

def RTE_LOCKED (l : Lane) (n : Nat) : Nat := laneKey l + 0x4031000 + 0x4 * n
def RTE_LOCKED_LOCKED (l : Lane) (n : Nat) : Fld := ⟨RTE_LOCKED l n, 31, 0⟩

def OBJ_INFO (l : Lane) : Nat := laneKey l + 0x4032000
def OBJ_INFO_USED (l : Lane) : Fld := ⟨OBJ_INFO l, 16, 0⟩

def OBJ_CARRY (l : Lane) : Nat := laneKey l + 0x4032004
def OBJ_CARRY_CARRIED (l : Lane) : Fld := ⟨OBJ_CARRY l, 20, 0⟩

def OBJ_TYPE_IDX (l : Lane) : Nat := laneKey l + 0x4032008
def OBJ_TYPE_IDX_INDEX (l : Lane) : Fld := ⟨OBJ_TYPE_IDX l, 16, 0⟩

def OBJ_TYPE_VAL (l : Lane) : Nat := laneKey l + 0x403200C
def OBJ_TYPE_VAL_TYPE (l : Lane) : Fld := ⟨OBJ_TYPE_VAL l, 5, 0⟩

def OBJ_FD_SIG (l : Lane) (n : Nat) : Nat := laneKey l + 0x4032800 + 0x4 * n
def OBJ_FD_SIG_SIG (l : Lane) (n : Nat) : Fld := ⟨OBJ_FD_SIG l n, 31, 0⟩

def LANE_LMEM_SPLIT (l : Lane) : Nat := laneKey l + 0x4000074
def LANE_LMEM_SPLIT_SPLIT (l : Lane) : Fld := ⟨LANE_LMEM_SPLIT l, 31, 16⟩

def RING_CTRL (n : Nat) : Nat := 0x80100000 + 0x10000 * n
def RING_CTRL_PRIO (n : Nat) : Fld := ⟨RING_CTRL n, 15, 8⟩
def RING_CTRL_ISOLATE_W (n : Nat) : Fld := ⟨RING_CTRL n, 7, 7⟩
def RING_CTRL_ISOLATE_E (n : Nat) : Fld := ⟨RING_CTRL n, 6, 6⟩
def RING_CTRL_WAKE (n : Nat) : Fld := ⟨RING_CTRL n, 5, 5⟩
def RING_CTRL_KEEP (n : Nat) : Fld := ⟨RING_CTRL n, 4, 4⟩
def RING_CTRL_HEAD_ELIG (n : Nat) : Fld := ⟨RING_CTRL n, 3, 3⟩
def RING_CTRL_EN (n : Nat) : Fld := ⟨RING_CTRL n, 0, 0⟩

def RING_STATUS (n : Nat) : Nat := 0x80100004 + 0x10000 * n
def RING_STATUS_POS (n : Nat) : Fld := ⟨RING_STATUS n, 31, 24⟩
def RING_STATUS_VER_MAJ (n : Nat) : Fld := ⟨RING_STATUS n, 19, 16⟩
def RING_STATUS_HEAD (n : Nat) : Fld := ⟨RING_STATUS n, 15, 15⟩
def RING_STATUS_ORIENT (n : Nat) : Fld := ⟨RING_STATUS n, 14, 14⟩
def RING_STATUS_LINK_W (n : Nat) : Fld := ⟨RING_STATUS n, 13, 13⟩
def RING_STATUS_LINK_E (n : Nat) : Fld := ⟨RING_STATUS n, 12, 12⟩
def RING_STATUS_MASTER (n : Nat) : Fld := ⟨RING_STATUS n, 11, 11⟩
def RING_STATUS_STATE (n : Nat) : Fld := ⟨RING_STATUS n, 2, 0⟩

def RING_TOPO (n : Nat) : Nat := 0x80100008 + 0x10000 * n
def RING_TOPO_LAST_POS (n : Nat) : Fld := ⟨RING_TOPO n, 31, 24⟩
def RING_TOPO_SM_POS (n : Nat) : Fld := ⟨RING_TOPO n, 23, 16⟩
def RING_TOPO_TOPO (n : Nat) : Fld := ⟨RING_TOPO n, 15, 0⟩

def RING_CYCLE (n : Nat) : Nat := 0x8010000C + 0x10000 * n
def RING_CYCLE_CYCLE (n : Nat) : Fld := ⟨RING_CYCLE n, 31, 0⟩

def RING_BUDGET (n : Nat) : Nat := 0x80100010 + 0x10000 * n
def RING_BUDGET_LOOP (n : Nat) : Fld := ⟨RING_BUDGET n, 31, 16⟩
def RING_BUDGET_REASON (n : Nat) : Fld := ⟨RING_BUDGET n, 3, 0⟩

def RING_LEN (n : Nat) : Nat := 0x80100014 + 0x10000 * n
def RING_LEN_FRAME_LEN (n : Nat) : Fld := ⟨RING_LEN n, 31, 14⟩
def RING_LEN_BRIM_Q (n : Nat) : Fld := ⟨RING_LEN n, 12, 0⟩

def RING_ERR (n : Nat) : Nat := 0x80100018 + 0x10000 * n
def RING_ERR_CROWN_CRC (n : Nat) : Fld := ⟨RING_ERR n, 31, 24⟩
def RING_ERR_SLICE_CRC (n : Nat) : Fld := ⟨RING_ERR n, 23, 16⟩
def RING_ERR_BRIM_CRC (n : Nat) : Fld := ⟨RING_ERR n, 15, 8⟩
def RING_ERR_CYCLE_GAP (n : Nat) : Fld := ⟨RING_ERR n, 7, 0⟩

def RING_EVT (n : Nat) : Nat := 0x8010001C + 0x10000 * n
def RING_EVT_LATE (n : Nat) : Fld := ⟨RING_EVT n, 9, 9⟩
def RING_EVT_VERSION_REJ (n : Nat) : Fld := ⟨RING_EVT n, 8, 8⟩
def RING_EVT_TOPO_CHG (n : Nat) : Fld := ⟨RING_EVT n, 7, 7⟩
def RING_EVT_LINK_W_CHG (n : Nat) : Fld := ⟨RING_EVT n, 6, 6⟩
def RING_EVT_LINK_E_CHG (n : Nat) : Fld := ⟨RING_EVT n, 5, 5⟩
def RING_EVT_EB_DEMAND (n : Nat) : Fld := ⟨RING_EVT n, 4, 4⟩
def RING_EVT_CYCLE_GAP (n : Nat) : Fld := ⟨RING_EVT n, 3, 3⟩
def RING_EVT_SLICE_CRC (n : Nat) : Fld := ⟨RING_EVT n, 2, 2⟩
def RING_EVT_CROWN_CRC (n : Nat) : Fld := ⟨RING_EVT n, 1, 1⟩
def RING_EVT_OVER_BUDGET (n : Nat) : Fld := ⟨RING_EVT n, 0, 0⟩

def RING_SFP (n : Nat) : Nat := 0x80100020 + 0x10000 * n
def RING_SFP_WEST (n : Nat) : Fld := ⟨RING_SFP n, 13, 8⟩
def RING_SFP_EAST (n : Nat) : Fld := ⟨RING_SFP n, 5, 0⟩

def BAND_CTRL (n : Nat) : Nat := 0x80180000 + 0x1000 * n
def BAND_CTRL_ARM_REQ (n : Nat) : Fld := ⟨BAND_CTRL n, 16, 16⟩
def BAND_CTRL_ENTRIES (n : Nat) : Fld := ⟨BAND_CTRL n, 9, 0⟩

def BAND_STATUS (n : Nat) : Nat := 0x80180004 + 0x1000 * n
def BAND_STATUS_CLOSED_RUN (n : Nat) : Fld := ⟨BAND_STATUS n, 25, 24⟩
def BAND_STATUS_SUPPR_16 (n : Nat) : Fld := ⟨BAND_STATUS n, 19, 16⟩
def BAND_STATUS_BAD_CONF (n : Nat) : Fld := ⟨BAND_STATUS n, 15, 8⟩
def BAND_STATUS_MUTED (n : Nat) : Fld := ⟨BAND_STATUS n, 7, 7⟩
def BAND_STATUS_ARMED (n : Nat) : Fld := ⟨BAND_STATUS n, 6, 6⟩
def BAND_STATUS_PREDICTED (n : Nat) : Fld := ⟨BAND_STATUS n, 5, 5⟩
def BAND_STATUS_OPEN (n : Nat) : Fld := ⟨BAND_STATUS n, 4, 4⟩
def BAND_STATUS_CONF (n : Nat) : Fld := ⟨BAND_STATUS n, 2, 0⟩

def BAND_TAB_CRC (n : Nat) : Nat := 0x80180008 + 0x1000 * n
def BAND_TAB_CRC_CRC (n : Nat) : Fld := ⟨BAND_TAB_CRC n, 31, 0⟩

def BAND_CONFIRM_A (n : Nat) : Nat := 0x8018000C + 0x1000 * n
def BAND_CONFIRM_A_CONFIRM (n : Nat) : Fld := ⟨BAND_CONFIRM_A n, 31, 0⟩

def BAND_CONFIRM_B (n : Nat) : Nat := 0x80180010 + 0x1000 * n
def BAND_CONFIRM_B_CONFIRM (n : Nat) : Fld := ⟨BAND_CONFIRM_B n, 31, 0⟩

def BAND_CONFIRM_C (n : Nat) : Nat := 0x80180014 + 0x1000 * n
def BAND_CONFIRM_C_CONFIRM (n : Nat) : Fld := ⟨BAND_CONFIRM_C n, 31, 0⟩

def BAND_ARR (n : Nat) : Nat := 0x80180018 + 0x1000 * n
def BAND_ARR_ERR (n : Nat) : Fld := ⟨BAND_ARR n, 15, 0⟩

def BAND_SUPPR (n : Nat) : Nat := 0x8018001C + 0x1000 * n
def BAND_SUPPR_SUPPRESSED (n : Nat) : Fld := ⟨BAND_SUPPR n, 31, 16⟩
def BAND_SUPPR_CLOSED (n : Nat) : Fld := ⟨BAND_SUPPR n, 15, 0⟩

def BAND_WIN (n : Nat) (k : Nat) : Nat := 0x80180800 + 0x1000 * n + 0x4 * k
def BAND_WIN_START (n : Nat) (k : Nat) : Fld := ⟨BAND_WIN n k, 31, 16⟩
def BAND_WIN_LEN (n : Nat) (k : Nat) : Fld := ⟨BAND_WIN n k, 15, 0⟩

def RING_NODE_SEL (n : Nat) : Nat := 0x80100024 + 0x10000 * n
def RING_NODE_SEL_POS (n : Nat) : Fld := ⟨RING_NODE_SEL n, 7, 0⟩

def RING_NODE_ID_LO (n : Nat) : Nat := 0x80100028 + 0x10000 * n
def RING_NODE_ID_LO_ID_LO (n : Nat) : Fld := ⟨RING_NODE_ID_LO n, 31, 0⟩

def RING_NODE_ID_HI (n : Nat) : Nat := 0x8010002C + 0x10000 * n
def RING_NODE_ID_HI_ID_HI (n : Nat) : Fld := ⟨RING_NODE_ID_HI n, 15, 0⟩

def RING_NODE_INFO (n : Nat) : Nat := 0x80100030 + 0x10000 * n
def RING_NODE_INFO_ABSENT_RUN (n : Nat) : Fld := ⟨RING_NODE_INFO n, 31, 24⟩
def RING_NODE_INFO_IN_LAYOUT (n : Nat) : Fld := ⟨RING_NODE_INFO n, 15, 15⟩
def RING_NODE_INFO_MODULE (n : Nat) : Fld := ⟨RING_NODE_INFO n, 14, 14⟩
def RING_NODE_INFO_HEAD_ELIG (n : Nat) : Fld := ⟨RING_NODE_INFO n, 13, 13⟩
def RING_NODE_INFO_WRAPPED (n : Nat) : Fld := ⟨RING_NODE_INFO n, 12, 12⟩
def RING_NODE_INFO_SILENT (n : Nat) : Fld := ⟨RING_NODE_INFO n, 11, 11⟩
def RING_NODE_INFO_VER_REJ (n : Nat) : Fld := ⟨RING_NODE_INFO n, 10, 10⟩
def RING_NODE_INFO_MREQ (n : Nat) : Fld := ⟨RING_NODE_INFO n, 9, 9⟩
def RING_NODE_INFO_SM (n : Nat) : Fld := ⟨RING_NODE_INFO n, 8, 8⟩
def RING_NODE_INFO_VMAX (n : Nat) : Fld := ⟨RING_NODE_INFO n, 7, 4⟩
def RING_NODE_INFO_VMIN (n : Nat) : Fld := ⟨RING_NODE_INFO n, 3, 0⟩

def RING_INAUG (n : Nat) : Nat := 0x80100034 + 0x10000 * n
def RING_INAUG_CAUSE (n : Nat) : Fld := ⟨RING_INAUG n, 31, 24⟩
def RING_INAUG_ATTEMPT (n : Nat) : Fld := ⟨RING_INAUG n, 23, 20⟩
def RING_INAUG_PHASE (n : Nat) : Fld := ⟨RING_INAUG n, 19, 16⟩
def RING_INAUG_COUNT (n : Nat) : Fld := ⟨RING_INAUG n, 15, 0⟩

def RING_CMD (n : Nat) : Nat := 0x80100038 + 0x10000 * n
def RING_CMD_RELEASE_HEAD (n : Nat) : Fld := ⟨RING_CMD n, 1, 1⟩
def RING_CMD_REINAUG (n : Nat) : Fld := ⟨RING_CMD n, 0, 0⟩

def RING_CNT (n : Nat) : Nat := 0x8010003C + 0x10000 * n
def RING_CNT_HEALS (n : Nat) : Fld := ⟨RING_CNT n, 31, 24⟩
def RING_CNT_CLAIMS_LOST (n : Nat) : Fld := ⟨RING_CNT n, 23, 16⟩
def RING_CNT_CLAIM_TIMEOUTS (n : Nat) : Fld := ⟨RING_CNT n, 15, 8⟩
def RING_CNT_LISTEN_ONLY (n : Nat) : Fld := ⟨RING_CNT n, 7, 0⟩

def RING_WRAP (n : Nat) : Nat := 0x80100040 + 0x10000 * n
def RING_WRAP_E_POS (n : Nat) : Fld := ⟨RING_WRAP n, 31, 24⟩
def RING_WRAP_MISSING_FIRST (n : Nat) : Fld := ⟨RING_WRAP n, 23, 16⟩
def RING_WRAP_SILENT_CNT (n : Nat) : Fld := ⟨RING_WRAP n, 15, 8⟩
def RING_WRAP_RF_W (n : Nat) : Fld := ⟨RING_WRAP n, 3, 3⟩
def RING_WRAP_RF_E (n : Nat) : Fld := ⟨RING_WRAP n, 2, 2⟩
def RING_WRAP_WRAP_W (n : Nat) : Fld := ⟨RING_WRAP n, 1, 1⟩
def RING_WRAP_WRAP_E (n : Nat) : Fld := ⟨RING_WRAP n, 0, 0⟩

def RING_DLY (n : Nat) : Nat := 0x80100044 + 0x10000 * n
def RING_DLY_DLY (n : Nat) : Fld := ⟨RING_DLY n, 31, 0⟩

def RING_PORT_TEST (n : Nat) : Nat := 0x80100048 + 0x10000 * n
def RING_PORT_TEST_ERR_CNT (n : Nat) : Fld := ⟨RING_PORT_TEST n, 31, 16⟩
def RING_PORT_TEST_SECONDS (n : Nat) : Fld := ⟨RING_PORT_TEST n, 15, 8⟩
def RING_PORT_TEST_REFUSE (n : Nat) : Fld := ⟨RING_PORT_TEST n, 7, 6⟩
def RING_PORT_TEST_MODE (n : Nat) : Fld := ⟨RING_PORT_TEST n, 5, 5⟩
def RING_PORT_TEST_PASS (n : Nat) : Fld := ⟨RING_PORT_TEST n, 4, 4⟩
def RING_PORT_TEST_STATUS (n : Nat) : Fld := ⟨RING_PORT_TEST n, 3, 2⟩

def RING_LIFE_EVT (n : Nat) : Nat := 0x8010004C + 0x10000 * n
def RING_LIFE_EVT_WRAP_CHG (n : Nat) : Fld := ⟨RING_LIFE_EVT n, 12, 12⟩
def RING_LIFE_EVT_ISO_REFUSED (n : Nat) : Fld := ⟨RING_LIFE_EVT n, 11, 11⟩
def RING_LIFE_EVT_REJOIN (n : Nat) : Fld := ⟨RING_LIFE_EVT n, 10, 10⟩
def RING_LIFE_EVT_SM_CHANGE (n : Nat) : Fld := ⟨RING_LIFE_EVT n, 9, 9⟩
def RING_LIFE_EVT_LISTEN_ONLY (n : Nat) : Fld := ⟨RING_LIFE_EVT n, 8, 8⟩
def RING_LIFE_EVT_MERGE (n : Nat) : Fld := ⟨RING_LIFE_EVT n, 7, 7⟩
def RING_LIFE_EVT_NODE_MISSING (n : Nat) : Fld := ⟨RING_LIFE_EVT n, 6, 6⟩
def RING_LIFE_EVT_NODE_SILENT (n : Nat) : Fld := ⟨RING_LIFE_EVT n, 5, 5⟩
def RING_LIFE_EVT_INAUG_FAIL (n : Nat) : Fld := ⟨RING_LIFE_EVT n, 4, 4⟩
def RING_LIFE_EVT_CLAIM_TIMEOUT (n : Nat) : Fld := ⟨RING_LIFE_EVT n, 3, 3⟩
def RING_LIFE_EVT_CLAIM_LOST (n : Nat) : Fld := ⟨RING_LIFE_EVT n, 2, 2⟩
def RING_LIFE_EVT_HEAD_LOST (n : Nat) : Fld := ⟨RING_LIFE_EVT n, 1, 1⟩
def RING_LIFE_EVT_HEAD_GAINED (n : Nat) : Fld := ⟨RING_LIFE_EVT n, 0, 0⟩

def HXL_CTRL : Nat := 0x80300000
def HXL_CTRL_UDP_PORT : Fld := ⟨HXL_CTRL, 31, 16⟩
def HXL_CTRL_DSCP : Fld := ⟨HXL_CTRL, 15, 10⟩
def HXL_CTRL_EN : Fld := ⟨HXL_CTRL, 0, 0⟩

def HXL_STATUS : Nat := 0x80300004
def HXL_STATUS_POOL_FREE : Fld := ⟨HXL_STATUS, 24, 16⟩
def HXL_STATUS_OPEN_CNT : Fld := ⟨HXL_STATUS, 15, 8⟩
def HXL_STATUS_CLOSED_CNT : Fld := ⟨HXL_STATUS, 7, 0⟩

def HXL_ERR : Nat := 0x80300008
def HXL_ERR_TAG_FAIL : Fld := ⟨HXL_ERR, 31, 24⟩
def HXL_ERR_UNKNOWN : Fld := ⟨HXL_ERR, 23, 16⟩
def HXL_ERR_MALFORMED : Fld := ⟨HXL_ERR, 15, 8⟩
def HXL_ERR_POOL_OVF : Fld := ⟨HXL_ERR, 7, 0⟩

def HXL_CMD : Nat := 0x8030000C
def HXL_CMD_CMD : Fld := ⟨HXL_CMD, 8, 7⟩
def HXL_CMD_SESSION : Fld := ⟨HXL_CMD, 6, 0⟩

def HXL_EVT : Nat := 0x80300010
def HXL_EVT_LAST_SESSION : Fld := ⟨HXL_EVT, 6, 0⟩

def HXL_SCFG0 (n : Nat) : Nat := 0x80301000 + 0x40 * n
def HXL_SCFG0_EN (n : Nat) : Fld := ⟨HXL_SCFG0 n, 31, 31⟩
def HXL_SCFG0_TX_EN (n : Nat) : Fld := ⟨HXL_SCFG0 n, 30, 30⟩
def HXL_SCFG0_RX_EN (n : Nat) : Fld := ⟨HXL_SCFG0 n, 29, 29⟩
def HXL_SCFG0_TOPO_USE (n : Nat) : Fld := ⟨HXL_SCFG0 n, 28, 28⟩
def HXL_SCFG0_TOPO_RING (n : Nat) : Fld := ⟨HXL_SCFG0 n, 27, 25⟩
def HXL_SCFG0_WIN_M1 (n : Nat) : Fld := ⟨HXL_SCFG0 n, 24, 20⟩
def HXL_SCFG0_FRESH_M1 (n : Nat) : Fld := ⟨HXL_SCFG0 n, 19, 12⟩
def HXL_SCFG0_REOPEN_M1 (n : Nat) : Fld := ⟨HXL_SCFG0 n, 11, 4⟩
def HXL_SCFG0_AUTO_REOPEN (n : Nat) : Fld := ⟨HXL_SCFG0 n, 3, 3⟩
def HXL_SCFG0_MCAST_EN (n : Nat) : Fld := ⟨HXL_SCFG0 n, 2, 2⟩

def HXL_SCFG1 (n : Nat) : Nat := 0x80301004 + 0x40 * n
def HXL_SCFG1_IFV_LO (n : Nat) : Fld := ⟨HXL_SCFG1 n, 31, 24⟩
def HXL_SCFG1_IFV_HI (n : Nat) : Fld := ⟨HXL_SCFG1 n, 23, 16⟩
def HXL_SCFG1_TX_IFV (n : Nat) : Fld := ⟨HXL_SCFG1 n, 15, 8⟩

def HXL_SLOCAL_ID (n : Nat) : Nat := 0x80301008 + 0x40 * n
def HXL_SLOCAL_ID_LOCAL_ID (n : Nat) : Fld := ⟨HXL_SLOCAL_ID n, 31, 0⟩

def HXL_SPEER_ID (n : Nat) : Nat := 0x8030100C + 0x40 * n
def HXL_SPEER_ID_PEER_ID (n : Nat) : Fld := ⟨HXL_SPEER_ID n, 31, 0⟩

def HXL_SPEER_IP_A (n : Nat) : Nat := 0x80301010 + 0x40 * n
def HXL_SPEER_IP_A_PEER_IP_A (n : Nat) : Fld := ⟨HXL_SPEER_IP_A n, 31, 0⟩

def HXL_SPEER_IP_B (n : Nat) : Nat := 0x80301014 + 0x40 * n
def HXL_SPEER_IP_B_PEER_IP_B (n : Nat) : Fld := ⟨HXL_SPEER_IP_B n, 31, 0⟩

def HXL_SMCAST (n : Nat) : Nat := 0x80301018 + 0x40 * n
def HXL_SMCAST_MCAST (n : Nat) : Fld := ⟨HXL_SMCAST n, 31, 0⟩

def HXL_SSTAT (n : Nat) : Nat := 0x80301020 + 0x40 * n
def HXL_SSTAT_STATE (n : Nat) : Fld := ⟨HXL_SSTAT n, 31, 30⟩
def HXL_SSTAT_FRESH (n : Nat) : Fld := ⟨HXL_SSTAT n, 29, 29⟩
def HXL_SSTAT_DEGRADED (n : Nat) : Fld := ⟨HXL_SSTAT n, 28, 28⟩
def HXL_SSTAT_PATH_B (n : Nat) : Fld := ⟨HXL_SSTAT n, 27, 27⟩
def HXL_SSTAT_PATH_A (n : Nat) : Fld := ⟨HXL_SSTAT n, 26, 26⟩
def HXL_SSTAT_BUFS (n : Nat) : Fld := ⟨HXL_SSTAT n, 25, 21⟩
def HXL_SSTAT_DIV_100 (n : Nat) : Fld := ⟨HXL_SSTAT n, 17, 16⟩
def HXL_SSTAT_SILENT (n : Nat) : Fld := ⟨HXL_SSTAT n, 15, 0⟩

def HXL_SNEXP (n : Nat) : Nat := 0x80301024 + 0x40 * n
def HXL_SNEXP_NEXP (n : Nat) : Fld := ⟨HXL_SNEXP n, 31, 0⟩

def HXL_SLAST_E (n : Nat) : Nat := 0x80301028 + 0x40 * n
def HXL_SLAST_E_LAST_E (n : Nat) : Fld := ⟨HXL_SLAST_E n, 31, 0⟩

def HXL_SCNT0 (n : Nat) : Nat := 0x8030102C + 0x40 * n
def HXL_SCNT0_DIVERGE (n : Nat) : Fld := ⟨HXL_SCNT0 n, 31, 24⟩
def HXL_SCNT0_GAPS (n : Nat) : Fld := ⟨HXL_SCNT0 n, 23, 16⟩
def HXL_SCNT0_STALE (n : Nat) : Fld := ⟨HXL_SCNT0 n, 15, 8⟩
def HXL_SCNT0_DUP (n : Nat) : Fld := ⟨HXL_SCNT0 n, 7, 0⟩

def HXL_SCNT1 (n : Nat) : Nat := 0x80301030 + 0x40 * n
def HXL_SCNT1_SINGLE_A (n : Nat) : Fld := ⟨HXL_SCNT1 n, 31, 24⟩
def HXL_SCNT1_SINGLE_B (n : Nat) : Fld := ⟨HXL_SCNT1 n, 23, 16⟩
def HXL_SCNT1_LATE (n : Nat) : Fld := ⟨HXL_SCNT1 n, 15, 8⟩
def HXL_SCNT1_QUEUE_OVF (n : Nat) : Fld := ⟨HXL_SCNT1 n, 7, 0⟩

def ETH_CTRL (n : Nat) : Nat := 0x80310000 + 0x10000 * n
def ETH_CTRL_MODE (n : Nat) : Fld := ⟨ETH_CTRL n, 3, 2⟩
def ETH_CTRL_AN (n : Nat) : Fld := ⟨ETH_CTRL n, 1, 1⟩
def ETH_CTRL_EN (n : Nat) : Fld := ⟨ETH_CTRL n, 0, 0⟩

def ETH_STATUS (n : Nat) : Nat := 0x80310004 + 0x10000 * n
def ETH_STATUS_LINK (n : Nat) : Fld := ⟨ETH_STATUS n, 6, 6⟩
def ETH_STATUS_SPEED (n : Nat) : Fld := ⟨ETH_STATUS n, 5, 4⟩
def ETH_STATUS_MOD_ABS (n : Nat) : Fld := ⟨ETH_STATUS n, 3, 3⟩
def ETH_STATUS_LOS (n : Nat) : Fld := ⟨ETH_STATUS n, 2, 2⟩
def ETH_STATUS_TX_FAULT (n : Nat) : Fld := ⟨ETH_STATUS n, 1, 1⟩
def ETH_STATUS_TX_DISABLE (n : Nat) : Fld := ⟨ETH_STATUS n, 0, 0⟩

def ETH_IP (n : Nat) : Nat := 0x80310008 + 0x10000 * n
def ETH_IP_IP (n : Nat) : Fld := ⟨ETH_IP n, 31, 0⟩

def ETH_PREFIX (n : Nat) : Nat := 0x8031000C + 0x10000 * n
def ETH_PREFIX_PREFIX (n : Nat) : Fld := ⟨ETH_PREFIX n, 5, 0⟩

def ETH_GW (n : Nat) : Nat := 0x80310010 + 0x10000 * n
def ETH_GW_GW (n : Nat) : Fld := ⟨ETH_GW n, 31, 0⟩

def ETH_MAC_LO (n : Nat) : Nat := 0x80310014 + 0x10000 * n
def ETH_MAC_LO_MAC_LO (n : Nat) : Fld := ⟨ETH_MAC_LO n, 31, 0⟩

def ETH_MAC_HI (n : Nat) : Nat := 0x80310018 + 0x10000 * n
def ETH_MAC_HI_MAC_HI (n : Nat) : Fld := ⟨ETH_MAC_HI n, 15, 0⟩

def ETH_VLAN (n : Nat) : Nat := 0x8031001C + 0x10000 * n
def ETH_VLAN_EN (n : Nat) : Fld := ⟨ETH_VLAN n, 16, 16⟩
def ETH_VLAN_PCP (n : Nat) : Fld := ⟨ETH_VLAN n, 15, 13⟩
def ETH_VLAN_VID (n : Nat) : Fld := ⟨ETH_VLAN n, 11, 0⟩

def ETH_CNT_RX (n : Nat) : Nat := 0x80310020 + 0x10000 * n
def ETH_CNT_RX_FRAMES (n : Nat) : Fld := ⟨ETH_CNT_RX n, 31, 0⟩

def ETH_CNT_TX (n : Nat) : Nat := 0x80310024 + 0x10000 * n
def ETH_CNT_TX_FRAMES (n : Nat) : Fld := ⟨ETH_CNT_TX n, 31, 0⟩

def ETH_DROP (n : Nat) : Nat := 0x80310028 + 0x10000 * n
def ETH_DROP_FCS (n : Nat) : Fld := ⟨ETH_DROP n, 31, 24⟩
def ETH_DROP_FILTERED (n : Nat) : Fld := ⟨ETH_DROP n, 23, 16⟩
def ETH_DROP_ARP_MISS (n : Nat) : Fld := ⟨ETH_DROP n, 15, 8⟩
def ETH_DROP_OVERSIZE (n : Nat) : Fld := ⟨ETH_DROP n, 7, 0⟩

def BRG_CTRL : Nat := 0x80200000
def BRG_CTRL_UDP_PORT : Fld := ⟨BRG_CTRL, 31, 16⟩
def BRG_CTRL_PF_LEN_Q : Fld := ⟨BRG_CTRL, 15, 8⟩
def BRG_CTRL_ATTN_DEST : Fld := ⟨BRG_CTRL, 7, 4⟩
def BRG_CTRL_EN : Fld := ⟨BRG_CTRL, 0, 0⟩

def BRG_STATUS : Nat := 0x80200004
def BRG_STATUS_FQ_OVF : Fld := ⟨BRG_STATUS, 31, 31⟩
def BRG_STATUS_SHARED_FREE : Fld := ⟨BRG_STATUS, 30, 19⟩
def BRG_STATUS_FQ_CNT : Fld := ⟨BRG_STATUS, 15, 7⟩
def BRG_STATUS_STALLED : Fld := ⟨BRG_STATUS, 6, 0⟩

def BRG_DOM_STALL_0 : Nat := 0x80200008
def BRG_DOM_STALL_0_STALL : Fld := ⟨BRG_DOM_STALL_0, 31, 0⟩

def BRG_DOM_STALL_1 : Nat := 0x8020000C
def BRG_DOM_STALL_1_STALL : Fld := ⟨BRG_DOM_STALL_1, 31, 0⟩

def BRG_DOM_CMD : Nat := 0x80200010
def BRG_DOM_CMD_CMD : Fld := ⟨BRG_DOM_CMD, 7, 6⟩
def BRG_DOM_CMD_DOMAIN : Fld := ⟨BRG_DOM_CMD, 5, 0⟩

def BRG_DOM_LIMIT : Nat := 0x80200014
def BRG_DOM_LIMIT_LIMIT : Fld := ⟨BRG_DOM_LIMIT, 11, 0⟩

def BRG_FQ (n : Nat) : Nat := 0x80200020 + 0x4 * n
def BRG_FQ_RECORD (n : Nat) : Fld := ⟨BRG_FQ n, 31, 0⟩

def BRG_FQ_POP : Nat := 0x80200030
def BRG_FQ_POP_POP : Fld := ⟨BRG_FQ_POP, 31, 0⟩

def BRG_DROP : Nat := 0x80200034
def BRG_DROP_NO_ROUTE : Fld := ⟨BRG_DROP, 31, 24⟩
def BRG_DROP_BUSY : Fld := ⟨BRG_DROP, 23, 16⟩
def BRG_DROP_ANSWER : Fld := ⟨BRG_DROP, 15, 8⟩
def BRG_DROP_PF_DISC : Fld := ⟨BRG_DROP, 7, 0⟩

def BRG_PF_DISC_ID : Nat := 0x80200038
def BRG_PF_DISC_ID_ID : Fld := ⟨BRG_PF_DISC_ID, 31, 0⟩

def BRG_PF_DISC_RT : Nat := 0x8020003C
def BRG_PF_DISC_RT_ROUTE : Fld := ⟨BRG_PF_DISC_RT, 11, 0⟩

def BRG_FX_PLANE_MISMATCH : Nat := 0x80200048
def BRG_FX_PLANE_MISMATCH_VALID : Fld := ⟨BRG_FX_PLANE_MISMATCH, 31, 31⟩
def BRG_FX_PLANE_MISMATCH_KIND : Fld := ⟨BRG_FX_PLANE_MISMATCH, 30, 30⟩
def BRG_FX_PLANE_MISMATCH_AGREE : Fld := ⟨BRG_FX_PLANE_MISMATCH, 29, 27⟩
def BRG_FX_PLANE_MISMATCH_RING : Fld := ⟨BRG_FX_PLANE_MISMATCH, 26, 24⟩
def BRG_FX_PLANE_MISMATCH_POS_SES : Fld := ⟨BRG_FX_PLANE_MISMATCH, 23, 16⟩
def BRG_FX_PLANE_MISMATCH_COUNT : Fld := ⟨BRG_FX_PLANE_MISMATCH, 15, 8⟩

def BRG_PEER_IP (n : Nat) : Nat := 0x80200100 + 0x4 * n
def BRG_PEER_IP_IP (n : Nat) : Fld := ⟨BRG_PEER_IP n, 31, 0⟩

def BRG_ATTN_PEND (n : Nat) (k : Nat) : Nat := 0x80204000 + 0x400 * n + 0x4 * k
def BRG_ATTN_PEND_PEND (n : Nat) (k : Nat) : Fld := ⟨BRG_ATTN_PEND n k, 7, 0⟩

def BRG_EP_REQ (n : Nat) : Nat := 0x80208000 + 0x1000 * n
def BRG_EP_REQ_OP (n : Nat) : Fld := ⟨BRG_EP_REQ n, 31, 30⟩
def BRG_EP_REQ_TAG (n : Nat) : Fld := ⟨BRG_EP_REQ n, 15, 0⟩

def BRG_EP_ID (n : Nat) : Nat := 0x80208004 + 0x1000 * n
def BRG_EP_ID_ID (n : Nat) : Fld := ⟨BRG_EP_ID n, 31, 0⟩

def BRG_EP_LEN (n : Nat) : Nat := 0x80208008 + 0x1000 * n
def BRG_EP_LEN_LEN (n : Nat) : Fld := ⟨BRG_EP_LEN n, 10, 0⟩

def BRG_EP_RX_HDR (n : Nat) (k : Nat) : Nat := 0x80208010 + 0x1000 * n + 0x4 * k
def BRG_EP_RX_HDR_RX_HDR (n : Nat) (k : Nat) : Fld := ⟨BRG_EP_RX_HDR n k, 31, 0⟩

def BRG_EP_RX_POP (n : Nat) : Nat := 0x80208020 + 0x1000 * n
def BRG_EP_RX_POP_RX_POP (n : Nat) : Fld := ⟨BRG_EP_RX_POP n, 31, 0⟩

def BRG_EP_AN_HDR (n : Nat) (k : Nat) : Nat := 0x80208030 + 0x1000 * n + 0x4 * k
def BRG_EP_AN_HDR_AN_HDR (n : Nat) (k : Nat) : Fld := ⟨BRG_EP_AN_HDR n k, 31, 0⟩

def BRG_EP_AN_POP (n : Nat) : Nat := 0x80208040 + 0x1000 * n
def BRG_EP_AN_POP_AN_POP (n : Nat) : Fld := ⟨BRG_EP_AN_POP n, 31, 0⟩

def BRG_EP_CNT (n : Nat) : Nat := 0x80208044 + 0x1000 * n
def BRG_EP_CNT_AN_CNT (n : Nat) : Fld := ⟨BRG_EP_CNT n, 7, 4⟩
def BRG_EP_CNT_RX_CNT (n : Nat) : Fld := ⟨BRG_EP_CNT n, 3, 0⟩

def BRG_EP_RX_DATA (n : Nat) (k : Nat) : Nat := 0x80208400 + 0x1000 * n + 0x4 * k
def BRG_EP_RX_DATA_RX_DATA (n : Nat) (k : Nat) : Fld := ⟨BRG_EP_RX_DATA n k, 31, 0⟩

def BRG_EP_AN_DATA (n : Nat) (k : Nat) : Nat := 0x80208800 + 0x1000 * n + 0x4 * k
def BRG_EP_AN_DATA_AN_DATA (n : Nat) (k : Nat) : Fld := ⟨BRG_EP_AN_DATA n k, 31, 0⟩

def BRG_ROUTE (n : Nat) (k : Nat) : Nat := 0x80210000 + 0x10 * n + 0x4 * k
def BRG_ROUTE_W (n : Nat) (k : Nat) : Fld := ⟨BRG_ROUTE n k, 31, 0⟩

def BRG_TGT (n : Nat) (k : Nat) (j : Nat) : Nat := 0x80220000 + 0x1000 * n + 0x10 * k + 0x4 * j
def BRG_TGT_W (n : Nat) (k : Nat) (j : Nat) : Fld := ⟨BRG_TGT n k j, 23, 0⟩

def IO_FRZ_IN_LO (l : Lane) : Nat := laneKey l + 0x4040000
def IO_FRZ_IN_LO_STATE (l : Lane) : Fld := ⟨IO_FRZ_IN_LO l, 31, 0⟩

def IO_FRZ_IN_HI (l : Lane) : Nat := laneKey l + 0x4040004
def IO_FRZ_IN_HI_STATE (l : Lane) : Fld := ⟨IO_FRZ_IN_HI l, 15, 0⟩

def IO_FRZ_FLT_LO (l : Lane) : Nat := laneKey l + 0x4040008
def IO_FRZ_FLT_LO_NOT_READY (l : Lane) : Fld := ⟨IO_FRZ_FLT_LO l, 28, 28⟩
def IO_FRZ_FLT_LO_VF2_UV (l : Lane) : Fld := ⟨IO_FRZ_FLT_LO l, 27, 27⟩
def IO_FRZ_FLT_LO_VF1_UV (l : Lane) : Fld := ⟨IO_FRZ_FLT_LO l, 26, 26⟩
def IO_FRZ_FLT_LO_GRP2_OPEN (l : Lane) : Fld := ⟨IO_FRZ_FLT_LO l, 25, 25⟩
def IO_FRZ_FLT_LO_GRP1_OPEN (l : Lane) : Fld := ⟨IO_FRZ_FLT_LO l, 24, 24⟩
def IO_FRZ_FLT_LO_CHFLT (l : Lane) : Fld := ⟨IO_FRZ_FLT_LO l, 23, 0⟩

def IO_FRZ_DISC_LO (l : Lane) : Nat := laneKey l + 0x404000C
def IO_FRZ_DISC_LO_DISC (l : Lane) : Fld := ⟨IO_FRZ_DISC_LO l, 31, 0⟩

def IO_FRZ_DISC_HI (l : Lane) : Nat := laneKey l + 0x4040010
def IO_FRZ_DISC_HI_DISC (l : Lane) : Fld := ⟨IO_FRZ_DISC_HI l, 15, 0⟩

def BRK_FRZ (l : Lane) : Nat := laneKey l + 0x4040014
def BRK_FRZ_TEST_ACTIVE (l : Lane) : Fld := ⟨BRK_FRZ l, 23, 20⟩
def BRK_FRZ_TEST_VALID (l : Lane) : Fld := ⟨BRK_FRZ l, 19, 16⟩
def BRK_FRZ_TEST_FAIL (l : Lane) : Fld := ⟨BRK_FRZ l, 15, 12⟩
def BRK_FRZ_REQ_SEEN (l : Lane) : Fld := ⟨BRK_FRZ l, 11, 8⟩
def BRK_FRZ_EB_SEEN (l : Lane) : Fld := ⟨BRK_FRZ l, 7, 4⟩
def BRK_FRZ_APPLIED (l : Lane) : Fld := ⟨BRK_FRZ l, 3, 0⟩

def BRK_LIVE (l : Lane) : Nat := laneKey l + 0x4040018
def BRK_LIVE_CROWN_LOST (l : Lane) : Fld := ⟨BRK_LIVE l, 15, 12⟩
def BRK_LIVE_REQ (l : Lane) : Fld := ⟨BRK_LIVE l, 11, 8⟩
def BRK_LIVE_EB (l : Lane) : Fld := ⟨BRK_LIVE l, 7, 4⟩
def BRK_LIVE_GATE (l : Lane) : Fld := ⟨BRK_LIVE l, 3, 0⟩

def BRK_TEST_REQ (l : Lane) : Nat := laneKey l + 0x404001C
def BRK_TEST_REQ_MASK (l : Lane) : Fld := ⟨BRK_TEST_REQ l, 3, 0⟩

def BRK_TEST_STAT (l : Lane) : Nat := laneKey l + 0x4040020
def BRK_TEST_STAT_AGE_MIN (l : Lane) : Fld := ⟨BRK_TEST_STAT l, 31, 20⟩
def BRK_TEST_STAT_INCOMPLETE (l : Lane) : Fld := ⟨BRK_TEST_STAT l, 19, 16⟩
def BRK_TEST_STAT_FAIL (l : Lane) : Fld := ⟨BRK_TEST_STAT l, 15, 12⟩
def BRK_TEST_STAT_PASS (l : Lane) : Fld := ⟨BRK_TEST_STAT l, 11, 8⟩
def BRK_TEST_STAT_PHASE (l : Lane) : Fld := ⟨BRK_TEST_STAT l, 1, 0⟩

def IO_FLT_CLR (l : Lane) : Nat := laneKey l + 0x4040024
def IO_FLT_CLR_GRP2 (l : Lane) : Fld := ⟨IO_FLT_CLR l, 25, 25⟩
def IO_FLT_CLR_GRP1 (l : Lane) : Fld := ⟨IO_FLT_CLR l, 24, 24⟩
def IO_FLT_CLR_CH (l : Lane) : Fld := ⟨IO_FLT_CLR l, 23, 0⟩

def IO_CONFIRM (l : Lane) : Nat := laneKey l + 0x4040028
def IO_CONFIRM_CONFIRM (l : Lane) : Fld := ⟨IO_CONFIRM l, 31, 0⟩

def IO_CH_CFG (n : Nat) : Nat := 0x80B00000 + 0x4 * n
def IO_CH_CFG_FB_CH (n : Nat) : Fld := ⟨IO_CH_CFG n, 31, 26⟩
def IO_CH_CFG_FB_EN (n : Nat) : Fld := ⟨IO_CH_CFG n, 25, 25⟩
def IO_CH_CFG_FB_M1 (n : Nat) : Fld := ⟨IO_CH_CFG n, 24, 17⟩
def IO_CH_CFG_MODE (n : Nat) : Fld := ⟨IO_CH_CFG n, 16, 15⟩
def IO_CH_CFG_TYPE (n : Nat) : Fld := ⟨IO_CH_CFG n, 14, 14⟩
def IO_CH_CFG_FLT (n : Nat) : Fld := ⟨IO_CH_CFG n, 7, 0⟩

def IO_CH_TEST (n : Nat) : Nat := 0x80B00100 + 0x4 * n
def IO_CH_TEST_INT_M1 (n : Nat) : Fld := ⟨IO_CH_TEST n, 31, 26⟩
def IO_CH_TEST_DARK_Q (n : Nat) : Fld := ⟨IO_CH_TEST n, 25, 20⟩
def IO_CH_TEST_BRIGHT_Q (n : Nat) : Fld := ⟨IO_CH_TEST n, 19, 15⟩
def IO_CH_TEST_BRIGHT_EN (n : Nat) : Fld := ⟨IO_CH_TEST n, 1, 1⟩
def IO_CH_TEST_DARK_EN (n : Nat) : Fld := ⟨IO_CH_TEST n, 0, 0⟩

def BRK_CFG (n : Nat) : Nat := 0x80B00180 + 0x4 * n
def BRK_CFG_NOCROWN (n : Nat) : Fld := ⟨BRK_CFG n, 31, 24⟩
def BRK_CFG_EB_EN (n : Nat) : Fld := ⟨BRK_CFG n, 23, 23⟩
def BRK_CFG_PS_CH (n : Nat) : Fld := ⟨BRK_CFG n, 22, 17⟩
def BRK_CFG_REQ (n : Nat) : Fld := ⟨BRK_CFG n, 15, 0⟩

def BRK_EB : Nat := 0x80B00190
def BRK_EB_RX_RINGS : Fld := ⟨BRK_EB, 31, 24⟩
def BRK_EB_TX_RINGS : Fld := ⟨BRK_EB, 23, 16⟩
def BRK_EB_EBSRC : Fld := ⟨BRK_EB, 7, 0⟩

def BRK_TEST_CFG : Nat := 0x80B00194
def BRK_TEST_CFG_PS_M1 : Fld := ⟨BRK_TEST_CFG, 14, 8⟩
def BRK_TEST_CFG_MAX_M1 : Fld := ⟨BRK_TEST_CFG, 4, 0⟩

def IO_CFG_CRC : Nat := 0x80B001A0
def IO_CFG_CRC_CRC : Fld := ⟨IO_CFG_CRC, 31, 0⟩

def IO_CONF_STAT : Nat := 0x80B001A4
def IO_CONF_STAT_CONF : Fld := ⟨IO_CONF_STAT, 2, 0⟩

def IO_STATUS : Nat := 0x80B001B0
def IO_STATUS_GRP2_GATES : Fld := ⟨IO_STATUS, 11, 9⟩
def IO_STATUS_GRP1_GATES : Fld := ⟨IO_STATUS, 8, 6⟩
def IO_STATUS_VF_FLAGS : Fld := ⟨IO_STATUS, 5, 2⟩
def IO_STATUS_GRP_CLOSED : Fld := ⟨IO_STATUS, 1, 0⟩

def IO_VF : Nat := 0x80B001B4
def IO_VF_VF2 : Fld := ⟨IO_VF, 31, 16⟩
def IO_VF_VF1 : Fld := ⟨IO_VF, 15, 0⟩

def IO_LIVE_LO : Nat := 0x80B001B8
def IO_LIVE_LO_LIVE : Fld := ⟨IO_LIVE_LO, 31, 0⟩

def IO_LIVE_HI : Nat := 0x80B001BC
def IO_LIVE_HI_LIVE : Fld := ⟨IO_LIVE_HI, 15, 0⟩

def IO_FLT_REC_0 : Nat := 0x80B001C0
def IO_FLT_REC_0_CODE : Fld := ⟨IO_FLT_REC_0, 31, 24⟩
def IO_FLT_REC_0_CH : Fld := ⟨IO_FLT_REC_0, 23, 18⟩
def IO_FLT_REC_0_CH2 : Fld := ⟨IO_FLT_REC_0, 17, 12⟩
def IO_FLT_REC_0_LANES : Fld := ⟨IO_FLT_REC_0, 11, 9⟩

def IO_FLT_REC_1 : Nat := 0x80B001C4
def IO_FLT_REC_1_EPOCH : Fld := ⟨IO_FLT_REC_1, 31, 0⟩

def IO_CNT : Nat := 0x80B001D0
def IO_CNT_DARK_RUN : Fld := ⟨IO_CNT, 31, 16⟩
def IO_CNT_DISC : Fld := ⟨IO_CNT, 15, 0⟩

def PAIR_CFG : Nat := 0x80400000
def PAIR_CFG_RINGS : Fld := ⟨PAIR_CFG, 10, 3⟩
def PAIR_CFG_COLD_TAKE : Fld := ⟨PAIR_CFG, 2, 2⟩
def PAIR_CFG_RANK : Fld := ⟨PAIR_CFG, 1, 1⟩
def PAIR_CFG_EN : Fld := ⟨PAIR_CFG, 0, 0⟩

def PAIR_PEER_ID_LO : Nat := 0x80400004
def PAIR_PEER_ID_LO_ID_LO : Fld := ⟨PAIR_PEER_ID_LO, 31, 0⟩

def PAIR_PEER_ID_HI : Nat := 0x80400008
def PAIR_PEER_ID_HI_ID_HI : Fld := ⟨PAIR_PEER_ID_HI, 15, 0⟩

def PAIR_STATUS : Nat := 0x8040000C
def PAIR_STATUS_SCHEMA_REJ : Fld := ⟨PAIR_STATUS, 14, 14⟩
def PAIR_STATUS_TAKE_REFUSED : Fld := ⟨PAIR_STATUS, 13, 13⟩
def PAIR_STATUS_RANK_CLASH : Fld := ⟨PAIR_STATUS, 12, 12⟩
def PAIR_STATUS_LINK_LOST : Fld := ⟨PAIR_STATUS, 11, 11⟩
def PAIR_STATUS_TAKE_COND : Fld := ⟨PAIR_STATUS, 10, 10⟩
def PAIR_STATUS_SILENT : Fld := ⟨PAIR_STATUS, 9, 9⟩
def PAIR_STATUS_PEER_MODE : Fld := ⟨PAIR_STATUS, 8, 6⟩
def PAIR_STATUS_LINK1 : Fld := ⟨PAIR_STATUS, 5, 5⟩
def PAIR_STATUS_LINK0 : Fld := ⟨PAIR_STATUS, 4, 4⟩
def PAIR_STATUS_MREQ : Fld := ⟨PAIR_STATUS, 3, 3⟩
def PAIR_STATUS_READINESS : Fld := ⟨PAIR_STATUS, 2, 1⟩
def PAIR_STATUS_ACTIVE : Fld := ⟨PAIR_STATUS, 0, 0⟩

def PAIR_COMMITTED_LO : Nat := 0x80400010
def PAIR_COMMITTED_LO_E_LO : Fld := ⟨PAIR_COMMITTED_LO, 31, 0⟩

def PAIR_COMMITTED_HI : Nat := 0x80400014
def PAIR_COMMITTED_HI_E_HI : Fld := ⟨PAIR_COMMITTED_HI, 15, 0⟩

def PAIR_TIN : Nat := 0x80400018
def PAIR_TIN_RECORDS : Fld := ⟨PAIR_TIN, 31, 17⟩
def PAIR_TIN_SWEEP_PTR : Fld := ⟨PAIR_TIN, 16, 0⟩

def PAIR_CNT : Nat := 0x8040001C
def PAIR_CNT_COMMIT_FAIL : Fld := ⟨PAIR_CNT, 31, 24⟩
def PAIR_CNT_RESYNC : Fld := ⟨PAIR_CNT, 23, 16⟩
def PAIR_CNT_TAKEOVERS : Fld := ⟨PAIR_CNT, 15, 8⟩
def PAIR_CNT_FRAME_CRC : Fld := ⟨PAIR_CNT, 7, 0⟩

def PAIR_TAKE : Nat := 0x80400020
def PAIR_TAKE_CAUSE : Fld := ⟨PAIR_TAKE, 31, 28⟩
def PAIR_TAKE_COLD : Fld := ⟨PAIR_TAKE, 27, 27⟩
def PAIR_TAKE_EPOCH : Fld := ⟨PAIR_TAKE, 23, 0⟩

def PAIR_CMD : Nat := 0x80400024
def PAIR_CMD_RESYNC : Fld := ⟨PAIR_CMD, 2, 2⟩
def PAIR_CMD_COLD : Fld := ⟨PAIR_CMD, 1, 1⟩
def PAIR_CMD_SWITCH : Fld := ⟨PAIR_CMD, 0, 0⟩

def PAIR_PEER_FLT : Nat := 0x80400028
def PAIR_PEER_FLT_FLT : Fld := ⟨PAIR_PEER_FLT, 6, 0⟩

def PAIR_LINK_DLY : Nat := 0x8040002C
def PAIR_LINK_DLY_DLY : Fld := ⟨PAIR_LINK_DLY, 31, 0⟩

def PAIR_PEER_HEALTH (n : Nat) : Nat := 0x80400040 + 0x4 * n
def PAIR_PEER_HEALTH_REPORT (n : Nat) : Fld := ⟨PAIR_PEER_HEALTH n, 31, 0⟩

def PWR_FEED_STAT : Nat := 0x80500100
def PWR_FEED_STAT_FEED_B : Fld := ⟨PWR_FEED_STAT, 5, 4⟩
def PWR_FEED_STAT_FEED_A : Fld := ⟨PWR_FEED_STAT, 3, 2⟩
def PWR_FEED_STAT_HOLDUP : Fld := ⟨PWR_FEED_STAT, 1, 1⟩
def PWR_FEED_STAT_BUS_OK : Fld := ⟨PWR_FEED_STAT, 0, 0⟩

def PWR_FEED_V : Nat := 0x80500104
def PWR_FEED_V_FEED_B : Fld := ⟨PWR_FEED_V, 31, 16⟩
def PWR_FEED_V_FEED_A : Fld := ⟨PWR_FEED_V, 15, 0⟩

def PWR_FEED_EVT : Nat := 0x80500108
def PWR_FEED_EVT_HOLDUP : Fld := ⟨PWR_FEED_EVT, 2, 2⟩
def PWR_FEED_EVT_FEED_B : Fld := ⟨PWR_FEED_EVT, 1, 1⟩
def PWR_FEED_EVT_FEED_A : Fld := ⟨PWR_FEED_EVT, 0, 0⟩

def PWR_HOLDUP : Nat := 0x8050010C
def PWR_HOLDUP_READY : Fld := ⟨PWR_HOLDUP, 31, 31⟩
def PWR_HOLDUP_STORE : Fld := ⟨PWR_HOLDUP, 30, 24⟩
def PWR_HOLDUP_COUNT : Fld := ⟨PWR_HOLDUP, 23, 16⟩
def PWR_HOLDUP_LAST : Fld := ⟨PWR_HOLDUP, 15, 0⟩

def PWR_REQ_A : Nat := 0x80500000
def PWR_REQ_A_DORM_AFTER : Fld := ⟨PWR_REQ_A, 31, 16⟩
def PWR_REQ_A_TARGET : Fld := ⟨PWR_REQ_A, 1, 0⟩

def PWR_REQ_B : Nat := 0x80500004
def PWR_REQ_B_DORM_AFTER : Fld := ⟨PWR_REQ_B, 31, 16⟩
def PWR_REQ_B_TARGET : Fld := ⟨PWR_REQ_B, 1, 0⟩

def PWR_REQ_C : Nat := 0x80500008
def PWR_REQ_C_DORM_AFTER : Fld := ⟨PWR_REQ_C, 31, 16⟩
def PWR_REQ_C_TARGET : Fld := ⟨PWR_REQ_C, 1, 0⟩

def PWR_REQ_M : Nat := 0x8050000C
def PWR_REQ_M_DORM_AFTER : Fld := ⟨PWR_REQ_M, 31, 16⟩
def PWR_REQ_M_TARGET : Fld := ⟨PWR_REQ_M, 1, 0⟩

def PWR_STATE : Nat := 0x80500010
def PWR_STATE_DORM_LEFT : Fld := ⟨PWR_STATE, 31, 16⟩
def PWR_STATE_STEP : Fld := ⟨PWR_STATE, 11, 8⟩
def PWR_STATE_TARGET : Fld := ⟨PWR_STATE, 5, 4⟩
def PWR_STATE_STATE : Fld := ⟨PWR_STATE, 2, 0⟩

def PWR_ENTRY : Nat := 0x80500014
def PWR_ENTRY_REFUSER : Fld := ⟨PWR_ENTRY, 31, 24⟩
def PWR_ENTRY_ABORT_SRC : Fld := ⟨PWR_ENTRY, 23, 20⟩
def PWR_ENTRY_TIMEOUT : Fld := ⟨PWR_ENTRY, 19, 19⟩
def PWR_ENTRY_RESULT : Fld := ⟨PWR_ENTRY, 18, 16⟩
def PWR_ENTRY_BAD_WRITE : Fld := ⟨PWR_ENTRY, 15, 8⟩

def PWR_WAKE_EN : Nat := 0x80500018
def PWR_WAKE_EN_EN : Fld := ⟨PWR_WAKE_EN, 14, 0⟩

def PWR_WAKE_CFG : Nat := 0x8050001C
def PWR_WAKE_CFG_POL : Fld := ⟨PWR_WAKE_CFG, 3, 0⟩

def PWR_WAKE_TIMER : Nat := 0x80500020
def PWR_WAKE_TIMER_SECONDS : Fld := ⟨PWR_WAKE_TIMER, 31, 0⟩

def PWR_WAKE_STAT : Nat := 0x80500024
def PWR_WAKE_STAT_LAT : Fld := ⟨PWR_WAKE_STAT, 31, 16⟩
def PWR_WAKE_STAT_FAIL_STEP : Fld := ⟨PWR_WAKE_STAT, 15, 12⟩
def PWR_WAKE_STAT_FAIL_DOM : Fld := ⟨PWR_WAKE_STAT, 11, 8⟩
def PWR_WAKE_STAT_FROM : Fld := ⟨PWR_WAKE_STAT, 7, 6⟩
def PWR_WAKE_STAT_SRC : Fld := ⟨PWR_WAKE_STAT, 3, 0⟩

def PWR_WAKE_CMD : Nat := 0x80500028
def PWR_WAKE_CMD_WAKE : Fld := ⟨PWR_WAKE_CMD, 0, 0⟩

def PWR_PAD : Nat := 0x8050002C
def PWR_PAD_RELEASE : Fld := ⟨PWR_PAD, 8, 8⟩
def PWR_PAD_LATCHED : Fld := ⟨PWR_PAD, 0, 0⟩

def PWR_AUX : Nat := 0x80500030
def PWR_AUX_AUX : Fld := ⟨PWR_AUX, 1, 0⟩

def PWR_RESET : Nat := 0x80500034
def PWR_RESET_IGNORED : Fld := ⟨PWR_RESET, 5, 5⟩
def PWR_RESET_RESET_STUCK : Fld := ⟨PWR_RESET, 4, 4⟩
def PWR_RESET_CAUSE : Fld := ⟨PWR_RESET, 3, 0⟩

def PWR_RESTART : Nat := 0x80500038
def PWR_RESTART_KEY : Fld := ⟨PWR_RESTART, 31, 0⟩

def PWR_ACC_ERR_ADDR : Nat := 0x80500040
def PWR_ACC_ERR_ADDR_ADDR : Fld := ⟨PWR_ACC_ERR_ADDR, 31, 0⟩

def PWR_ACC_ERR_INFO : Nat := 0x80500044
def PWR_ACC_ERR_INFO_COUNT : Fld := ⟨PWR_ACC_ERR_INFO, 31, 24⟩
def PWR_ACC_ERR_INFO_WRITE : Fld := ⟨PWR_ACC_ERR_INFO, 20, 20⟩
def PWR_ACC_ERR_INFO_INITIATOR : Fld := ⟨PWR_ACC_ERR_INFO, 19, 16⟩

def PWR_ACC_SEL : Nat := 0x80500050
def PWR_ACC_SEL_INDEX : Fld := ⟨PWR_ACC_SEL, 5, 0⟩

def PWR_ACC_VAL : Nat := 0x80500054
def PWR_ACC_VAL_VALUE : Fld := ⟨PWR_ACC_VAL, 31, 0⟩

def SEC_STATUS : Nat := 0x80900000
def SEC_STATUS_SERVICE_EN : Fld := ⟨SEC_STATUS, 15, 15⟩
def SEC_STATUS_START_GIVEN : Fld := ⟨SEC_STATUS, 14, 14⟩
def SEC_STATUS_START_MODE : Fld := ⟨SEC_STATUS, 13, 13⟩
def SEC_STATUS_FRESH_OK : Fld := ⟨SEC_STATUS, 12, 12⟩
def SEC_STATUS_BANK : Fld := ⟨SEC_STATUS, 11, 11⟩
def SEC_STATUS_TRIAL : Fld := ⟨SEC_STATUS, 10, 10⟩
def SEC_STATUS_LC : Fld := ⟨SEC_STATUS, 9, 7⟩
def SEC_STATUS_MODE : Fld := ⟨SEC_STATUS, 2, 0⟩

def SEC_BOOT : Nat := 0x80900004
def SEC_BOOT_FAIL : Fld := ⟨SEC_BOOT, 31, 24⟩
def SEC_BOOT_STEP : Fld := ⟨SEC_BOOT, 23, 20⟩
def SEC_BOOT_LANES : Fld := ⟨SEC_BOOT, 19, 17⟩
def SEC_BOOT_REVERTED : Fld := ⟨SEC_BOOT, 16, 16⟩
def SEC_BOOT_BANK_TRIED : Fld := ⟨SEC_BOOT, 15, 15⟩
def SEC_BOOT_TIME_MS : Fld := ⟨SEC_BOOT, 14, 0⟩

def SEC_LC : Nat := 0x80900008
def SEC_LC_SVC_LEFT : Fld := ⟨SEC_LC, 21, 12⟩
def SEC_LC_ROOT_PROG : Fld := ⟨SEC_LC, 11, 8⟩
def SEC_LC_ROOT_REV : Fld := ⟨SEC_LC, 7, 4⟩

def SEC_IMAGE_DIGEST (n : Nat) : Nat := 0x80900010 + 0x4 * n
def SEC_IMAGE_DIGEST_DIGEST (n : Nat) : Fld := ⟨SEC_IMAGE_DIGEST n, 31, 0⟩

def SEC_BUILD_LO : Nat := 0x80900030
def SEC_BUILD_LO_BUILD : Fld := ⟨SEC_BUILD_LO, 31, 0⟩

def SEC_BUILD_HI : Nat := 0x80900034
def SEC_BUILD_HI_BUILD : Fld := ⟨SEC_BUILD_HI, 31, 0⟩

def SEC_VERSIONS : Nat := 0x80900038
def SEC_VERSIONS_SCHEMA : Fld := ⟨SEC_VERSIONS, 31, 16⟩
def SEC_VERSIONS_SEC_VERSION : Fld := ⟨SEC_VERSIONS, 15, 0⟩

def SEC_FLOOR : Nat := 0x8090003C
def SEC_FLOOR_FLOOR : Fld := ⟨SEC_FLOOR, 6, 0⟩

def SEC_KEYSET_A : Nat := 0x80900040
def SEC_KEYSET_A_KEYSET : Fld := ⟨SEC_KEYSET_A, 31, 0⟩

def SEC_KEYSET_B : Nat := 0x80900044
def SEC_KEYSET_B_KEYSET : Fld := ⟨SEC_KEYSET_B, 31, 0⟩

def SEC_KEYSET_C : Nat := 0x80900048
def SEC_KEYSET_C_KEYSET : Fld := ⟨SEC_KEYSET_C, 31, 0⟩

def SEC_CMD : Nat := 0x80900050
def SEC_CMD_END_SERVICE : Fld := ⟨SEC_CMD, 0, 0⟩

def SEC_START : Nat := 0x80900054
def SEC_START_GO : Fld := ⟨SEC_START, 0, 0⟩

def SEC_COMMIT : Nat := 0x80900060
def SEC_COMMIT_PENDING : Fld := ⟨SEC_COMMIT, 2, 2⟩
def SEC_COMMIT_BUSY : Fld := ⟨SEC_COMMIT, 1, 1⟩
def SEC_COMMIT_REQ : Fld := ⟨SEC_COMMIT, 0, 0⟩

def SEC_COMMIT_ERR : Nat := 0x80900064
def SEC_COMMIT_ERR_ERR : Fld := ⟨SEC_COMMIT_ERR, 31, 31⟩
def SEC_COMMIT_ERR_LSB : Fld := ⟨SEC_COMMIT_ERR, 28, 24⟩
def SEC_COMMIT_ERR_REASON : Fld := ⟨SEC_COMMIT_ERR, 23, 16⟩

def SEC_COMMIT_ERR_ADDR : Nat := 0x80900068
def SEC_COMMIT_ERR_ADDR_ADDR : Fld := ⟨SEC_COMMIT_ERR_ADDR, 31, 0⟩

def SEC_BANK : Nat := 0x80900070
def SEC_BANK_SELECTED : Fld := ⟨SEC_BANK, 11, 11⟩
def SEC_BANK_PENDING : Fld := ⟨SEC_BANK, 10, 10⟩
def SEC_BANK_VER_OK : Fld := ⟨SEC_BANK, 9, 9⟩
def SEC_BANK_VER_BUSY : Fld := ⟨SEC_BANK, 8, 8⟩
def SEC_BANK_VER_FAIL : Fld := ⟨SEC_BANK, 7, 0⟩

def SEC_BANK_CMD : Nat := 0x80900074
def SEC_BANK_CMD_OUTAGE : Fld := ⟨SEC_BANK_CMD, 3, 3⟩
def SEC_BANK_CMD_CONFIRM : Fld := ⟨SEC_BANK_CMD, 2, 2⟩
def SEC_BANK_CMD_SWITCH : Fld := ⟨SEC_BANK_CMD, 1, 1⟩
def SEC_BANK_CMD_VERIFY : Fld := ⟨SEC_BANK_CMD, 0, 0⟩

def SEC_NOR_CMD : Nat := 0x80900078
def SEC_NOR_CMD_OP : Fld := ⟨SEC_NOR_CMD, 31, 30⟩
def SEC_NOR_CMD_OFFSET : Fld := ⟨SEC_NOR_CMD, 27, 0⟩

def SEC_NOR_STAT : Nat := 0x8090007C
def SEC_NOR_STAT_REFUSED : Fld := ⟨SEC_NOR_STAT, 2, 2⟩
def SEC_NOR_STAT_ERR : Fld := ⟨SEC_NOR_STAT, 1, 1⟩
def SEC_NOR_STAT_BUSY : Fld := ⟨SEC_NOR_STAT, 0, 0⟩

def SEC_TOKEN_CMD : Nat := 0x80900080
def SEC_TOKEN_CMD_SUBMIT : Fld := ⟨SEC_TOKEN_CMD, 0, 0⟩

def SEC_TOKEN_STAT : Nat := 0x80900084
def SEC_TOKEN_STAT_TYPE : Fld := ⟨SEC_TOKEN_STAT, 31, 24⟩
def SEC_TOKEN_STAT_RESULT : Fld := ⟨SEC_TOKEN_STAT, 23, 16⟩
def SEC_TOKEN_STAT_BUSY : Fld := ⟨SEC_TOKEN_STAT, 0, 0⟩

def SEC_NONCE (n : Nat) : Nat := 0x80900090 + 0x4 * n
def SEC_NONCE_NONCE (n : Nat) : Fld := ⟨SEC_NONCE n, 31, 0⟩

def SEC_ATTEST_CMD : Nat := 0x809000A0
def SEC_ATTEST_CMD_QUOTE : Fld := ⟨SEC_ATTEST_CMD, 0, 0⟩

def SEC_ATTEST_STAT : Nat := 0x809000A4
def SEC_ATTEST_STAT_LEFT : Fld := ⟨SEC_ATTEST_STAT, 31, 11⟩
def SEC_ATTEST_STAT_EXHAUSTED : Fld := ⟨SEC_ATTEST_STAT, 1, 1⟩
def SEC_ATTEST_STAT_BUSY : Fld := ⟨SEC_ATTEST_STAT, 0, 0⟩

def SEC_IFV_REJ : Nat := 0x809000B0
def SEC_IFV_REJ_COUNT : Fld := ⟨SEC_IFV_REJ, 31, 24⟩
def SEC_IFV_REJ_RING : Fld := ⟨SEC_IFV_REJ, 23, 21⟩
def SEC_IFV_REJ_POS : Fld := ⟨SEC_IFV_REJ, 20, 13⟩
def SEC_IFV_REJ_IFV : Fld := ⟨SEC_IFV_REJ, 7, 0⟩

def SEC_ATTEST_NONCE (n : Nat) : Nat := 0x809000C0 + 0x4 * n
def SEC_ATTEST_NONCE_NONCE (n : Nat) : Fld := ⟨SEC_ATTEST_NONCE n, 31, 0⟩

def SEC_TOKEN_BUF (n : Nat) : Nat := 0x80901000 + 0x4 * n
def SEC_TOKEN_BUF_TOKEN (n : Nat) : Fld := ⟨SEC_TOKEN_BUF n, 31, 0⟩

def SEC_QUOTE_BUF (n : Nat) : Nat := 0x80902000 + 0x4 * n
def SEC_QUOTE_BUF_QUOTE (n : Nat) : Fld := ⟨SEC_QUOTE_BUF n, 31, 0⟩

def SEC_NOR_BUF (n : Nat) : Nat := 0x80904000 + 0x4 * n
def SEC_NOR_BUF_DATA (n : Nat) : Fld := ⟨SEC_NOR_BUF n, 31, 0⟩

def AST_LANE_CTRL (l : Lane) : Nat := laneKey l + 0x4050000
def AST_LANE_CTRL_LOGIC_INT_M1 (l : Lane) : Fld := ⟨AST_LANE_CTRL l, 27, 16⟩
def AST_LANE_CTRL_SRAM_INT_M1 (l : Lane) : Fld := ⟨AST_LANE_CTRL l, 10, 0⟩

def AST_LANE_STATUS (l : Lane) : Nat := laneKey l + 0x4050004
def AST_LANE_STATUS_SRAM_PROG (l : Lane) : Fld := ⟨AST_LANE_STATUS l, 31, 24⟩
def AST_LANE_STATUS_LOGIC_PROG (l : Lane) : Fld := ⟨AST_LANE_STATUS l, 23, 16⟩
def AST_LANE_STATUS_IX_PROG (l : Lane) : Fld := ⟨AST_LANE_STATUS l, 15, 8⟩
def AST_LANE_STATUS_IX_LATE (l : Lane) : Fld := ⟨AST_LANE_STATUS l, 3, 3⟩
def AST_LANE_STATUS_LOGIC_LATE (l : Lane) : Fld := ⟨AST_LANE_STATUS l, 2, 2⟩
def AST_LANE_STATUS_SRAM_LATE (l : Lane) : Fld := ⟨AST_LANE_STATUS l, 1, 1⟩
def AST_LANE_STATUS_DEFERRED (l : Lane) : Fld := ⟨AST_LANE_STATUS l, 0, 0⟩

def AST_LANE_ITEM (l : Lane) : Nat := laneKey l + 0x4050008
def AST_LANE_ITEM_SRAM_NEXT (l : Lane) : Fld := ⟨AST_LANE_ITEM l, 31, 22⟩
def AST_LANE_ITEM_LOGIC_NEXT (l : Lane) : Fld := ⟨AST_LANE_ITEM l, 21, 13⟩
def AST_LANE_ITEM_IX_NEXT (l : Lane) : Fld := ⟨AST_LANE_ITEM l, 12, 6⟩

def AST_LANE_SRAM (l : Lane) (n : Nat) : Nat := laneKey l + 0x4050010 + 0x4 * n
def AST_LANE_SRAM_RECORD (l : Lane) (n : Nat) : Fld := ⟨AST_LANE_SRAM l n, 31, 0⟩

def AST_LANE_LOGIC (l : Lane) (n : Nat) : Nat := laneKey l + 0x4050020 + 0x4 * n
def AST_LANE_LOGIC_RECORD (l : Lane) (n : Nat) : Fld := ⟨AST_LANE_LOGIC l n, 31, 0⟩

def AST_LANE_IX (l : Lane) (n : Nat) : Nat := laneKey l + 0x4050030 + 0x4 * n
def AST_LANE_IX_RECORD (l : Lane) (n : Nat) : Fld := ⟨AST_LANE_IX l n, 31, 0⟩

def AST_LANE_CNT (l : Lane) : Nat := laneKey l + 0x4050040
def AST_LANE_CNT_INCOMPLETE (l : Lane) : Fld := ⟨AST_LANE_CNT l, 31, 16⟩
def AST_LANE_CNT_DEFERRED (l : Lane) : Fld := ⟨AST_LANE_CNT l, 15, 0⟩

def AST_LANE_DEEP (l : Lane) : Nat := laneKey l + 0x4050044
def AST_LANE_DEEP_ELAPSED (l : Lane) : Fld := ⟨AST_LANE_DEEP l, 31, 24⟩
def AST_LANE_DEEP_PHASE (l : Lane) : Fld := ⟨AST_LANE_DEEP l, 7, 4⟩
def AST_LANE_DEEP_RESULT (l : Lane) : Fld := ⟨AST_LANE_DEEP l, 3, 2⟩

def AST_CTRL : Nat := 0x80A00000
def AST_CTRL_FX_INT_M1 : Fld := ⟨AST_CTRL, 12, 0⟩

def AST_STATUS : Nat := 0x80A00004
def AST_STATUS_FX_PROG : Fld := ⟨AST_STATUS, 31, 24⟩
def AST_STATUS_FX_NEXT : Fld := ⟨AST_STATUS, 17, 9⟩
def AST_STATUS_MAN_OK : Fld := ⟨AST_STATUS, 1, 1⟩
def AST_STATUS_FX_LATE : Fld := ⟨AST_STATUS, 0, 0⟩

def AST_FX_RES (n : Nat) : Nat := 0x80A00010 + 0x4 * n
def AST_FX_RES_RECORD (n : Nat) : Fld := ⟨AST_FX_RES n, 31, 0⟩

def AST_SERDES : Nat := 0x80A00020
def AST_SERDES_FAIL : Fld := ⟨AST_SERDES, 19, 0⟩

def AST_SERDES_IDLE : Nat := 0x80A00024
def AST_SERDES_IDLE_IDLE : Fld := ⟨AST_SERDES_IDLE, 19, 0⟩

def AST_MAN_CMD : Nat := 0x80A00030
def AST_MAN_CMD_START : Fld := ⟨AST_MAN_CMD, 0, 0⟩

def AST_MAN_STAT : Nat := 0x80A00034
def AST_MAN_STAT_REFUSED : Fld := ⟨AST_MAN_STAT, 31, 24⟩
def AST_MAN_STAT_FAIL_DIE : Fld := ⟨AST_MAN_STAT, 7, 4⟩
def AST_MAN_STAT_RESULT : Fld := ⟨AST_MAN_STAT, 3, 2⟩
def AST_MAN_STAT_BUSY : Fld := ⟨AST_MAN_STAT, 0, 0⟩

def CVU_CTRL (e : Engine) (n : Nat) : Nat := cvuKey e + 0x0 + 0x40 * n
def CVU_CTRL_RUN (e : Engine) (n : Nat) : Fld := ⟨CVU_CTRL e n, 31, 31⟩
def CVU_CTRL_ABORT (e : Engine) (n : Nat) : Fld := ⟨CVU_CTRL e n, 30, 30⟩
def CVU_CTRL_INIT (e : Engine) (n : Nat) : Fld := ⟨CVU_CTRL e n, 29, 29⟩
def CVU_CTRL_SPACE (e : Engine) (n : Nat) : Fld := ⟨CVU_CTRL e n, 25, 24⟩
def CVU_CTRL_RGN (e : Engine) (n : Nat) : Fld := ⟨CVU_CTRL e n, 23, 20⟩
def CVU_CTRL_POLY (e : Engine) (n : Nat) : Fld := ⟨CVU_CTRL e n, 1, 0⟩

def CVU_STAT (e : Engine) (n : Nat) : Nat := cvuKey e + 0x4 + 0x40 * n
def CVU_STAT_CTX_ERR (e : Engine) (n : Nat) : Fld := ⟨CVU_STAT e n, 3, 3⟩
def CVU_STAT_ERR (e : Engine) (n : Nat) : Fld := ⟨CVU_STAT e n, 2, 2⟩
def CVU_STAT_ABORTED (e : Engine) (n : Nat) : Fld := ⟨CVU_STAT e n, 1, 1⟩
def CVU_STAT_DONE (e : Engine) (n : Nat) : Fld := ⟨CVU_STAT e n, 0, 0⟩

def CVU_START (e : Engine) (n : Nat) : Nat := cvuKey e + 0x8 + 0x40 * n
def CVU_START_START (e : Engine) (n : Nat) : Fld := ⟨CVU_START e n, 31, 0⟩

def CVU_LEN (e : Engine) (n : Nat) : Nat := cvuKey e + 0xC + 0x40 * n
def CVU_LEN_LENGTH (e : Engine) (n : Nat) : Fld := ⟨CVU_LEN e n, 23, 0⟩

def CVU_RUN_LO (e : Engine) (n : Nat) : Nat := cvuKey e + 0x10 + 0x40 * n
def CVU_RUN_LO_RUN_LO (e : Engine) (n : Nat) : Fld := ⟨CVU_RUN_LO e n, 31, 0⟩

def CVU_RUN_HI (e : Engine) (n : Nat) : Nat := cvuKey e + 0x14 + 0x40 * n
def CVU_RUN_HI_RUN_HI (e : Engine) (n : Nat) : Fld := ⟨CVU_RUN_HI e n, 31, 0⟩

def CVU_RESULT_LO (e : Engine) (n : Nat) : Nat := cvuKey e + 0x18 + 0x40 * n
def CVU_RESULT_LO_RES_LO (e : Engine) (n : Nat) : Fld := ⟨CVU_RESULT_LO e n, 31, 0⟩

def CVU_RESULT_HI (e : Engine) (n : Nat) : Nat := cvuKey e + 0x1C + 0x40 * n
def CVU_RESULT_HI_RES_HI (e : Engine) (n : Nat) : Fld := ⟨CVU_RESULT_HI e n, 31, 0⟩

def CVU_DATA_W (e : Engine) (n : Nat) : Nat := cvuKey e + 0x20 + 0x40 * n
def CVU_DATA_W_DATA (e : Engine) (n : Nat) : Fld := ⟨CVU_DATA_W e n, 31, 0⟩

def CVU_DATA_B (e : Engine) (n : Nat) : Nat := cvuKey e + 0x24 + 0x40 * n
def CVU_DATA_B_DATA (e : Engine) (n : Nat) : Fld := ⟨CVU_DATA_B e n, 7, 0⟩

def REC_STATUS : Nat := 0x80800000
def REC_STATUS_QUEUE : Fld := ⟨REC_STATUS, 31, 16⟩
def REC_STATUS_STORE_FAULT : Fld := ⟨REC_STATUS, 2, 2⟩
def REC_STATUS_ERASING : Fld := ⟨REC_STATUS, 1, 1⟩
def REC_STATUS_FF_FULL : Fld := ⟨REC_STATUS, 0, 0⟩

def REC_NEWEST_LO : Nat := 0x80800004
def REC_NEWEST_LO_NEWEST_LO : Fld := ⟨REC_NEWEST_LO, 31, 0⟩

def REC_NEWEST_HI : Nat := 0x80800008
def REC_NEWEST_HI_NEWEST_HI : Fld := ⟨REC_NEWEST_HI, 15, 0⟩

def REC_CLR_LO : Nat := 0x8080000C
def REC_CLR_LO_CLR_LO : Fld := ⟨REC_CLR_LO, 31, 0⟩

def REC_CLR_HI : Nat := 0x80800010
def REC_CLR_HI_CLR_HI : Fld := ⟨REC_CLR_HI, 15, 0⟩

def REC_LAP : Nat := 0x80800014
def REC_LAP_LAP : Fld := ⟨REC_LAP, 31, 0⟩

def REC_CNT : Nat := 0x80800018
def REC_CNT_LOST : Fld := ⟨REC_CNT, 31, 16⟩
def REC_CNT_TORN : Fld := ⟨REC_CNT, 15, 0⟩

def REC_RD_SEQ_LO : Nat := 0x80800020
def REC_RD_SEQ_LO_SEQ_LO : Fld := ⟨REC_RD_SEQ_LO, 31, 0⟩

def REC_RD_SEQ_HI : Nat := 0x80800024
def REC_RD_SEQ_HI_SEQ_HI : Fld := ⟨REC_RD_SEQ_HI, 15, 0⟩

def REC_RD_STAT : Nat := 0x80800028
def REC_RD_STAT_RESULT : Fld := ⟨REC_RD_STAT, 2, 1⟩
def REC_RD_STAT_BUSY : Fld := ⟨REC_RD_STAT, 0, 0⟩

def REC_RD_DATA (n : Nat) : Nat := 0x80800040 + 0x4 * n
def REC_RD_DATA_DATA (n : Nat) : Fld := ⟨REC_RD_DATA n, 31, 0⟩

/-- A row of the access table: base, up to three counts with their strides, and the masks of the RW, SH, W1C and
RC bits (R6). Every other bit is RO, WO or reserved: a write to it stores nothing. -/
structure AccRow where
  base : Nat
  dims : List (Nat × Nat)
  rw : Word
  sh : Word
  w1c : Word
  rc : Word
  deriving DecidableEq, Repr

/-- Whether `off` is a sum of the dimensions' multiples. -/
def dimsHit : List (Nat × Nat) → Nat → Bool
  | [], off => off = 0
  | (cnt, st) :: r, off =>
    -- dimensions stand from the largest stride down
    decide (off / st < cnt) && dimsHit r (off % st)

/-- The bits of each access code in one register. -/
structure Acc where
  rw : Word
  sh : Word
  w1c : Word
  rc : Word
  deriving DecidableEq, Repr

def findAcc : List AccRow → Nat → Acc
  | [], _ => ⟨0, 0, 0, 0⟩
  | r :: t, off => if r.base ≤ off ∧ dimsHit r.dims (off - r.base) then ⟨r.rw, r.sh, r.w1c, r.rc⟩ else findAcc t off

def laneAccRows0 : List AccRow := [
  ⟨0x4000114, [], 0x0, 0x0, 0x0, 0xFF0000⟩,
  ⟨0x4000068, [], 0x0, 0x0, 0x0, 0xFFFFFF00⟩,
  ⟨0x4000070, [], 0x0, 0x1, 0x0, 0x0⟩,
  ⟨0x403000C, [], 0x0, 0x0, 0x0, 0xFFFFFFFF⟩,
  ⟨0x4032008, [], 0x1FFFF, 0x0, 0x0, 0x0⟩,
  ⟨0x4040028, [], 0xFFFFFFFF, 0x0, 0x0, 0x0⟩,
  ⟨0x4050000, [], 0x0, 0xFFF07FF, 0x0, 0x0⟩,
  ⟨0x4050004, [], 0x0, 0x0, 0xE, 0x0⟩,
  ⟨0x4050040, [], 0x0, 0x0, 0x0, 0xFFFFFFFF⟩]

def laneAccRows : List AccRow := laneAccRows0

def picAccRows0 : List AccRow := [
  ⟨0x0, [], 0x1, 0x0, 0x0, 0x0⟩,
  ⟨0x4, [], 0x0, 0x0, 0x0, 0xFF0000⟩,
  ⟨0x8, [], 0xFFFFFFF8, 0x0, 0x0, 0x0⟩,
  ⟨0x10, [(4, 0x4)], 0xFFFFFFFF, 0x0, 0x0, 0x0⟩,
  ⟨0x40, [(16, 0x4)], 0xFFFF, 0x0, 0x0, 0x0⟩,
  ⟨0x100, [(128, 0x4)], 0x0, 0x0, 0x100, 0x0⟩]

def picAccRows : List AccRow := picAccRows0

def cvuAccRows0 : List AccRow := [
  ⟨0x0, [(4, 0x40)], 0x83F00003, 0x0, 0x0, 0x0⟩,
  ⟨0x4, [(4, 0x40)], 0x0, 0x0, 0xF, 0x0⟩,
  ⟨0x8, [(4, 0x40)], 0xFFFFFFFF, 0x0, 0x0, 0x0⟩,
  ⟨0xC, [(4, 0x40)], 0xFFFFFF, 0x0, 0x0, 0x0⟩,
  ⟨0x10, [(4, 0x40)], 0xFFFFFFFF, 0x0, 0x0, 0x0⟩,
  ⟨0x14, [(4, 0x40)], 0xFFFFFFFF, 0x0, 0x0, 0x0⟩]

def cvuAccRows : List AccRow := cvuAccRows0

def fabricAccRows0 : List AccRow := [
  ⟨0x80010000, [], 0x100, 0xFE, 0x0, 0x0⟩,
  ⟨0x80010004, [], 0x0, 0x37F, 0x0, 0x0⟩,
  ⟨0x80010038, [], 0x0, 0x0, 0x7F, 0x0⟩,
  ⟨0x806080C8, [(3, 0x400)], 0x0, 0x0, 0xC0000, 0x0⟩,
  ⟨0x80100000, [(8, 0x10000)], 0xC0, 0xFF39, 0x0, 0x0⟩,
  ⟨0x80100018, [(8, 0x10000)], 0x0, 0x0, 0x0, 0xFFFFFFFF⟩,
  ⟨0x8010001C, [(8, 0x10000)], 0x0, 0x0, 0x3FF, 0x0⟩,
  ⟨0x80180000, [(8, 0x1000)], 0x3FF, 0x0, 0x0, 0x0⟩,
  ⟨0x80180004, [(8, 0x1000)], 0x0, 0x0, 0x0, 0xFF00⟩,
  ⟨0x8018000C, [(8, 0x1000)], 0xFFFFFFFF, 0x0, 0x0, 0x0⟩,
  ⟨0x80180010, [(8, 0x1000)], 0xFFFFFFFF, 0x0, 0x0, 0x0⟩,
  ⟨0x80180014, [(8, 0x1000)], 0xFFFFFFFF, 0x0, 0x0, 0x0⟩,
  ⟨0x8018001C, [(8, 0x1000)], 0x0, 0x0, 0x0, 0xFFFFFFFF⟩,
  ⟨0x80180800, [(8, 0x1000), (512, 0x4)], 0xFFFFFFFF, 0x0, 0x0, 0x0⟩,
  ⟨0x80100024, [(8, 0x10000)], 0xFF, 0x0, 0x0, 0x0⟩,
  ⟨0x80100034, [(8, 0x10000)], 0x0, 0x0, 0x0, 0xFFFF⟩,
  ⟨0x8010003C, [(8, 0x10000)], 0x0, 0x0, 0x0, 0xFFFFFFFF⟩,
  ⟨0x80100048, [(8, 0x10000)], 0x20, 0x0, 0x0, 0xFFFF0000⟩,
  ⟨0x8010004C, [(8, 0x10000)], 0x0, 0x0, 0x1FFF, 0x0⟩,
  ⟨0x80300000, [], 0x0, 0xFFFFFC01, 0x0, 0x0⟩,
  ⟨0x80300008, [], 0x0, 0x0, 0x0, 0xFFFFFFFF⟩,
  ⟨0x80301000, [(128, 0x40)], 0x0, 0xFFFFFFFC, 0x0, 0x0⟩,
  ⟨0x80301004, [(128, 0x40)], 0x0, 0xFFFFFF00, 0x0, 0x0⟩,
  ⟨0x80301008, [(128, 0x40)], 0x0, 0xFFFFFFFF, 0x0, 0x0⟩,
  ⟨0x8030100C, [(128, 0x40)], 0x0, 0xFFFFFFFF, 0x0, 0x0⟩]

def fabricAccRows1 : List AccRow := [
  ⟨0x80301010, [(128, 0x40)], 0x0, 0xFFFFFFFF, 0x0, 0x0⟩,
  ⟨0x80301014, [(128, 0x40)], 0x0, 0xFFFFFFFF, 0x0, 0x0⟩,
  ⟨0x80301018, [(128, 0x40)], 0x0, 0xFFFFFFFF, 0x0, 0x0⟩,
  ⟨0x8030102C, [(128, 0x40)], 0x0, 0x0, 0x0, 0xFFFFFFFF⟩,
  ⟨0x80301030, [(128, 0x40)], 0x0, 0x0, 0x0, 0xFFFFFFFF⟩,
  ⟨0x80310000, [(3, 0x10000)], 0x0, 0xF, 0x0, 0x0⟩,
  ⟨0x80310008, [(3, 0x10000)], 0x0, 0xFFFFFFFF, 0x0, 0x0⟩,
  ⟨0x8031000C, [(3, 0x10000)], 0x0, 0x3F, 0x0, 0x0⟩,
  ⟨0x80310010, [(3, 0x10000)], 0x0, 0xFFFFFFFF, 0x0, 0x0⟩,
  ⟨0x8031001C, [(3, 0x10000)], 0x0, 0x1EFFF, 0x0, 0x0⟩,
  ⟨0x80310020, [(3, 0x10000)], 0x0, 0x0, 0x0, 0xFFFFFFFF⟩,
  ⟨0x80310024, [(3, 0x10000)], 0x0, 0x0, 0x0, 0xFFFFFFFF⟩,
  ⟨0x80310028, [(3, 0x10000)], 0x0, 0x0, 0x0, 0xFFFFFFFF⟩,
  ⟨0x80200000, [], 0x0, 0xFFFFFFF1, 0x0, 0x0⟩,
  ⟨0x80200004, [], 0x0, 0x0, 0x80000000, 0x0⟩,
  ⟨0x80200014, [], 0x0, 0xFFF, 0x0, 0x0⟩,
  ⟨0x80200034, [], 0x0, 0x0, 0x0, 0xFFFFFFFF⟩,
  ⟨0x80200048, [], 0x0, 0x0, 0x80000000, 0x0⟩,
  ⟨0x80200100, [(64, 0x4)], 0x0, 0xFFFFFFFF, 0x0, 0x0⟩,
  ⟨0x80204000, [(8, 0x400), (255, 0x4)], 0x0, 0x0, 0xFF, 0x0⟩,
  ⟨0x80208004, [(4, 0x1000)], 0xFFFFFFFF, 0x0, 0x0, 0x0⟩,
  ⟨0x80208008, [(4, 0x1000)], 0x7FF, 0x0, 0x0, 0x0⟩,
  ⟨0x80210000, [(4096, 0x10)], 0x0, 0xFFFFE000, 0x0, 0x0⟩,
  ⟨0x80210004, [(4096, 0x10)], 0x0, 0xFFFFFFFF, 0x0, 0x0⟩,
  ⟨0x80210008, [(4096, 0x10)], 0x0, 0xFFFFFFFF, 0x0, 0x0⟩,
  ⟨0x8021000C, [(4096, 0x10)], 0x0, 0xFFFF001F, 0x0, 0x0⟩,
  ⟨0x80220000, [(8, 0x1000), (255, 0x10), (4, 0x4)], 0x0, 0xFFFFFF, 0x0, 0x0⟩,
  ⟨0x80B00000, [(48, 0x4)], 0x0, 0xFFFFC0FF, 0x0, 0x0⟩]

def fabricAccRows2 : List AccRow := [
  ⟨0x80B00100, [(24, 0x4)], 0x0, 0xFFFF8003, 0x0, 0x0⟩,
  ⟨0x80B00180, [(4, 0x4)], 0x0, 0xFFFEFFFF, 0x0, 0x0⟩,
  ⟨0x80B00190, [], 0x0, 0xFFFF00FF, 0x0, 0x0⟩,
  ⟨0x80B00194, [], 0x0, 0x7F1F, 0x0, 0x0⟩,
  ⟨0x80B001D0, [], 0x0, 0x0, 0x0, 0xFFFFFFFF⟩,
  ⟨0x80400000, [], 0x0, 0x7FF, 0x0, 0x0⟩,
  ⟨0x80400004, [], 0x0, 0xFFFFFFFF, 0x0, 0x0⟩,
  ⟨0x80400008, [], 0x0, 0xFFFF, 0x0, 0x0⟩,
  ⟨0x8040001C, [], 0x0, 0x0, 0x0, 0xFFFFFFFF⟩,
  ⟨0x80400028, [], 0x0, 0x0, 0x7F, 0x0⟩,
  ⟨0x80500108, [], 0x0, 0x0, 0x7, 0x0⟩,
  ⟨0x8050010C, [], 0x0, 0x0, 0x0, 0xFF0000⟩,
  ⟨0x80500000, [], 0xFFFF0003, 0x0, 0x0, 0x0⟩,
  ⟨0x80500004, [], 0xFFFF0003, 0x0, 0x0, 0x0⟩,
  ⟨0x80500008, [], 0xFFFF0003, 0x0, 0x0, 0x0⟩,
  ⟨0x8050000C, [], 0xFFFF0003, 0x0, 0x0, 0x0⟩,
  ⟨0x80500014, [], 0x0, 0x0, 0x80000, 0xFF00⟩,
  ⟨0x80500018, [], 0x0, 0x7FFF, 0x0, 0x0⟩,
  ⟨0x8050001C, [], 0x0, 0xF, 0x0, 0x0⟩,
  ⟨0x80500020, [], 0x0, 0xFFFFFFFF, 0x0, 0x0⟩,
  ⟨0x80500030, [], 0x3, 0x0, 0x0, 0x0⟩,
  ⟨0x80500034, [], 0x0, 0x0, 0x10, 0x0⟩,
  ⟨0x80500044, [], 0x0, 0x0, 0x0, 0xFF000000⟩,
  ⟨0x80500050, [], 0x3F, 0x0, 0x0, 0x0⟩,
  ⟨0x80900064, [], 0x0, 0x0, 0x80000000, 0x0⟩]

def fabricAccRows3 : List AccRow := [
  ⟨0x8090007C, [], 0x0, 0x0, 0x6, 0x0⟩,
  ⟨0x809000B0, [], 0x0, 0x0, 0x0, 0xFF000000⟩,
  ⟨0x809000C0, [(8, 0x4)], 0xFFFFFFFF, 0x0, 0x0, 0x0⟩,
  ⟨0x80A00000, [], 0x0, 0x1FFF, 0x0, 0x0⟩,
  ⟨0x80A00004, [], 0x0, 0x0, 0x1, 0x0⟩,
  ⟨0x80A00020, [], 0x0, 0x0, 0xFFFFF, 0x0⟩,
  ⟨0x80A00034, [], 0x0, 0x0, 0x0, 0xFF000000⟩,
  ⟨0x80800018, [], 0x0, 0x0, 0x0, 0xFFFFFFFF⟩,
  ⟨0x80800020, [], 0xFFFFFFFF, 0x0, 0x0, 0x0⟩,
  ⟨0x80800024, [], 0xFFFF, 0x0, 0x0, 0x0⟩]

def fabricAccRows : List AccRow := fabricAccRows0 ++ fabricAccRows1 ++ fabricAccRows2 ++ fabricAccRows3

def csAccRows0 : List AccRow := [
  ⟨0x1, [], 0x0, 0x0, 0x0, 0xFF00⟩,
  ⟨0x2, [], 0xFFFFFFFF, 0x0, 0x0, 0x0⟩,
  ⟨0x8, [], 0x0, 0x0, 0x0, 0xFFFF⟩,
  ⟨0x10, [(16, 0x2)], 0xFFFFFFFB, 0x0, 0x0, 0x0⟩,
  ⟨0x11, [(16, 0x2)], 0xFFFFFFF8, 0x0, 0x0, 0x0⟩]

def csAccRows : List AccRow := csAccRows0

/-- The engine-relative parts of a key: 0 the fabric, 1 to 3 the lane views, 16 to 19 the control spaces. -/
def keySpace (k : Nat) : Nat := k / 0x100000000
def keyOff (k : Nat) : Nat := k % 0x100000000

/-- The access bits of the register at a key. -/
def accOf (k : Nat) : Acc :=
  let o := keyOff k
  if keySpace k = 0 then
    if 0x80600000 ≤ o ∧ o < 0x80601000 then findAcc picAccRows (o - 0x80600000)
    else if 0x80700000 ≤ o ∧ o < 0x80700100 then findAcc cvuAccRows (o - 0x80700000)
    else findAcc fabricAccRows o
  else if keySpace k < 16 then
    if 0x04010000 ≤ o ∧ o < 0x04020000 then findAcc picAccRows (o - 0x04010000)
    else if 0x04020000 ≤ o ∧ o < 0x04030000 then findAcc cvuAccRows (o - 0x04020000)
    else findAcc laneAccRows o
  else findAcc csAccRows o

def fabricResets : List (Nat × List (Nat × Nat) × Word) := [
  (0x80010000, [], 0x20),
  (0x80100000, [(8, 0x10000)], 0xFF00),
  (0x80100004, [(8, 0x10000)], 0xFF000000),
  (0x80100008, [(8, 0x10000)], 0xFF0000),
  (0x80100040, [(8, 0x10000)], 0xFF0000),
  (0x80300000, [], 0xCACDB800),
  (0x80300004, [], 0x1C00000),
  (0x80310004, [(3, 0x10000)], 0x1),
  (0x80200000, [], 0xCACE1080),
  (0x80200004, [], 0x70000000),
  (0x80200014, [], 0x100)]

def laneResets : List (Nat × List (Nat × Nat) × Word) := [
  (0x4040008, [], 0x13000000),
  (0x4040014, [], 0xF),
  (0x4040020, [], 0xFFF00000)]

def fabricLos : List (Nat × List (Nat × Nat)) := [
  (0x80010010, []),
  (0x80010018, []),
  (0x80100028, [(8, 0x10000)]),
  (0x80310014, [(3, 0x10000)]),
  (0x80B001B8, []),
  (0x80400004, []),
  (0x80400010, []),
  (0x80900030, []),
  (0x80800004, []),
  (0x8080000C, []),
  (0x80800020, [])]

def laneLos : List (Nat × List (Nat × Nat)) := [
  (0x4000100, []),
  (0x4040000, []),
  (0x404000C, [])]

def cvuLos : List (Nat × List (Nat × Nat)) := [
  (0x10, [(4, 0x40)]),
  (0x18, [(4, 0x40)])]

def findHit : List (Nat × List (Nat × Nat)) → Nat → Bool
  | [], _ => false
  | (b, ds) :: t, off => (decide (b ≤ off) && dimsHit ds (off - b)) || findHit t off

/-- The register is the _LO of a pair, whose _HI stands 4 bytes above it (R401). -/
def isLoKey (k : Nat) : Bool :=
  let o := keyOff k
  if keySpace k = 0 then
    if 0x80700000 ≤ o ∧ o < 0x80700100 then findHit cvuLos (o - 0x80700000) else findHit fabricLos o
  else if keySpace k < 16 then
    if 0x04020000 ≤ o ∧ o < 0x04030000 then findHit cvuLos (o - 0x04020000) else findHit laneLos o
  else o = 6

def findReset : List (Nat × List (Nat × Nat) × Word) → Nat → Word
  | [], _ => 0
  | (b, ds, v) :: t, off => if b ≤ off ∧ dimsHit ds (off - b) then v else findReset t off

/-- The lane constants A (R50). -/
def laneA : Lane → Nat
  | .a => 58427 | .b => 60889 | .c => 63709

/-- The value a register holds after a module reset (the Reset columns; Image, MRAM, OTP, AON, Pin and Random fields:
log entries 3 and 4). LANE_ID and CS_TID are fixed in each die. -/
def regReset (k : Nat) : Word :=
  let o := keyOff k
  match keySpace k with
  | 0 => findReset fabricResets o
  | 1 => if o = 0x04000000 then 0x0000E43B else findReset laneResets o
  | 2 => if o = 0x04000000 then 0x0001EDD9 else findReset laneResets o
  | 3 => if o = 0x04000000 then 0x0002F8DD else findReset laneResets o
  | 17 => if o = 0 then 1 else 0
  | 18 => if o = 0 then 2 else 0
  | 19 => if o = 0 then 3 else 0
  | _ => 0

end Sys2Proof.Machine
end

