-- ==== Sys2Proof/Machine/Store.lean ====
section
/-!
DEFINITION. A sparse table in ONE canonical form: keys strictly rising, no entry equal to what an unlisted key
reads as. Every register file, buffer and memory of the model is one, so equal contents are equal data.
The value of an unlisted key is the table's own default function.
-/

namespace Sys2Proof.Machine

abbrev Store (α : Type) := List (Nat × α)

/-- The value at key `k`. -/
def Store.get {α : Type} (d : Nat → α) : Store α → Nat → α
  | [], k => d k
  | (k', v) :: r, k => if k = k' then v else if k < k' then d k else Store.get d r k

/-- The entries above key `k`. -/
def Store.above {α : Type} (k : Nat) : Store α → Store α
  | [] => []
  | (k', v) :: r => if k' ≤ k then Store.above k r else (k', v) :: r

/-- Write one key. Writing the default removes the entry. -/
def Store.put {α : Type} [DecidableEq α] (d : Nat → α) : Store α → Nat → α → Store α
  | [], k, v => if v = d k then [] else [(k, v)]
  | (k', v') :: r, k, v =>
    if k < k' then (if v = d k then (k', v') :: r else (k, v) :: (k', v') :: r)
    else if k = k' then (if v = d k then Store.above k r else (k, v) :: Store.above k r)
    else (k', v') :: Store.put d r k v

/-- The canonical form: keys above `lo`, strictly rising, no default listed. -/
def Store.wfFrom {α : Type} [DecidableEq α] (d : Nat → α) : Nat → Store α → Bool
  | _, [] => true
  | lo, (k, v) :: r => decide (lo ≤ k) && decide (v ≠ d k) && Store.wfFrom d (k + 1) r

def Store.wf {α : Type} [DecidableEq α] (d : Nat → α) (m : Store α) : Bool := Store.wfFrom d 0 m

/-- Apply `f` to the value at `k`. -/
def Store.modify {α : Type} [DecidableEq α] (d : Nat → α) (m : Store α) (k : Nat) (f : α → α) : Store α :=
  Store.put d m k (f (Store.get d m k))

/-- Write a run of values from key `k` on. -/
def Store.putList {α : Type} [DecidableEq α] (d : Nat → α) : Store α → Nat → List α → Store α
  | m, _, [] => m
  | m, k, v :: vs => Store.putList d (Store.put d m k v) (k + 1) vs

/-- The table that holds a run of values from key `k` on, and nothing else. -/
def Store.run {α : Type} [DecidableEq α] (d : Nat → α) (k : Nat) (vs : List α) : Store α :=
  (vs.zipIdx k).filterMap fun p => if p.1 = d p.2 then none else some (p.2, p.1)

/-- Put `x` in place of what stands at keys `lo` to `hi - 1`. -/
def Store.replace {α : Type} (m : Store α) (lo hi : Nat) (x : Store α) : Store α :=
  (m.filter fun p => decide (p.1 < lo)) ++ x ++ m.filter fun p => decide (hi ≤ p.1)

/-- The values of `n` keys from `k` on. -/
def Store.getList {α : Type} (d : Nat → α) (m : Store α) (k : Nat) : Nat → List α
  | 0 => []
  | n + 1 => Store.get d m k :: Store.getList d m (k + 1) n

end Sys2Proof.Machine
end

