-- ==== Sys2Proof/Machine/State.lean ====
section
/-!
DEFINITION. The state of the block as plain data, and the state right after reset. Registers live in ONE register
file (`regs`, the values in force) beside their shadows (`shadow`, R6 SH, R8), keyed by the register map; what the
spec gives the module beside its registers stands in the records below.

Readings and choices: log entries 1 (DESIGN CHOICE), 3 (DESIGN CHOICE), 46 (DESIGN CHOICE).
-/

namespace Sys2Proof.Machine

/-- Whether a thread issues instructions (R34, R72, R93, R100, R104). -/
inductive Run
  | stopped   -- the thread has not been started, or its lane is not running it
  | running
  | ended     -- SAFE after EPOCHEND, until the next tick 0 strobe (R34)
  | waiting   -- at WAITI (R104)
  | faulted   -- a group 0 source is pending for delivery; nothing more issues (R93)
  | restarting -- restarted: the entry sequence of source 0 is under way (R94, R100)
  | dead      -- the entry of source 0 failed: nothing until a module reset (R100)
  deriving DecidableEq, Repr

/-- One thread's own files (R87, R109, R130) and flow. `ctag` and `ptag` are the signature tags of the SAFE thread:
none is the unwritten mark. -/
structure ThreadSt where
  run : Run
  c : Store DWord
  p : Store DWord
  a : Store Word
  ctag : Store (Option Word)
  ptag : Store (Option Word)
  pc : Word
  rstack : List Word
  handler : Bool
  deriving DecidableEq, Repr

def ThreadSt.init : ThreadSt := ⟨.stopped, [], [], [], [], [], 0, [], false⟩

/-- A record of the output vector (R57, R58). -/
inductive OutRec
  | slice (ring pos : Nat) (payload : List Byte)
  | hexlo (session seq : Nat) (payload : List Byte)
  deriving DecidableEq, Repr

/-- A record with the lane's code, in the lane's plane of the staging store (R67). -/
structure Plane where
  out : OutRec
  code : List Byte
  deriving DecidableEq, Repr

/-- What a lane knows of the vote of an epoch (R60, R61): the digests and reports that reached it. -/
structure VoteSt where
  digest : Option (BitVec 256)
  rx : PerLane (Option (BitVec 256))
  rxShadow : PerLane Bool
  report : PerLane (Option Nat)
  voter : Bool                    -- the lane was STARTING or VOTING at the tick 16 strobe
  agreeRun : Nat                  -- consecutive votes with mutual agreement (R73)
  deriving DecidableEq, Repr

def VoteSt.init : VoteSt := ⟨none, .all none, .all false, .all none, false, 0⟩

/-- The anneal in progress in a lane (R76, R77): the step (0 none, 1 C1, 2 C2, 3 S1, 4 S2), the donor, the dirty
map of the donor's objects, and whether the shadow digest of S1 agreed. -/
structure AnnealSt where
  step : Nat
  donor : Lane
  dirty : List Nat
  passed : Bool                   -- a deep assay PASS waits for the next tick 0 (R73, R82)
  deriving DecidableEq, Repr

/-- A lane's timebase (R36, R37, R38): the counter as last latched, the steering to spread over the next tick, the
lane's own epoch and tick numbers, the sum of its own unsteered advance over the epoch, the last tick's skew, and the
clean-epoch marks of R430. -/
structure LaneTime where
  t : Nat
  steer : Int
  epoch : Nat
  tick : Nat
  ownAdv : Nat
  skewLast : Bool
  cleanEpoch : Bool
  causeClean : Bool
  samples : Nat
  deriving DecidableEq, Repr

def LaneTime.init : LaneTime := ⟨0, 0, 0, 0, 0, false, false, false, 0⟩

/-- A down-slice as FX sends it until the next publication (R68): payload, the two codes and the pair. -/
structure FxSlice where
  ring : Nat
  pos : Nat
  payload : List Byte
  code1 : List Byte
  code2 : List Byte
  pair : Nat
  topo : Nat                      -- the counter it was built under (R163, R180)
  deriving DecidableEq, Repr

/-- A Hexlo message chosen at tick 17 (R68, R226). -/
structure FxMsg where
  ses : Nat
  seq : Nat
  payload : List Byte
  code1 : List Byte
  code2 : List Byte
  pair : Nat
  deriving DecidableEq, Repr

/-- What FX published at the last tick 17: E of the publication, the down-slices and the messages (R32, R68). -/
structure FxSt where
  pubE : Nat
  slices : List FxSlice
  msgs : List FxMsg
  pairLast : Nat
  topo : Store Nat                -- each ring's topology counter at the freeze (R203)
  cmp : PerLane (Option (List Plane)) -- the voters' planes as compared in tick 16 (R68)
  deriving DecidableEq, Repr

/-- A lane: its power, its state, its two threads and memories (R83, R87, R134, R149), its timebase, its epoch's
publications (R57, R67), its vote and its history (R75, R76). -/
structure LaneSt where
  powered : Bool
  st : LState
  safe : ThreadSt
  sys : ThreadSt
  mem : List Host.Cell            -- PMEM, OMEM, CMX and LMEM by lane-view byte address (R404)
  typeMap : Store Nat             -- R134
  locked : BitVec 4096            -- R149, route 0 first: route r is bit 4095 - r (R58)
  osum : BitVec 256               -- R56
  time : LaneTime
  frozenE : Nat                   -- E of the latest freeze (R31, R126)
  carried : Nat                   -- fields carried so far in this epoch (OBJ_CARRY)
  localWord : Option Word         -- the local output word published this epoch (R129)
  lastKey : Option (Nat × Nat × Nat) -- the last key of R57 in this epoch
  recs : List OutRec              -- the records of this epoch, oldest first
  staged : List Plane             -- planes staged, not released (R67)
  slBuild : Store Word            -- build buffers (R127), keyed (ring * 256 + position) * 256 + word
  hxBuild : Store Word            -- keyed session * 256 + word
  pub : Word                      -- local output word of the latest tick 17 (R70)
  frozenTopo : Store Nat          -- the topology counter of each ring at the freeze (R203)
  dirty : List Nat                -- objects whose v changed, while the lane is an anneal's donor (R77)
  tinDirty : List Nat             -- objects stored since tinning last took them (R301)
  keys : Store (Option (BitVec 256)) -- the keys in force (R65, R354); none: a slot never loaded
  keyNv : Store (Option (BitVec 256)) -- the non-volatile key store, in force from the next module reset (R353)
  keysetId : Word                 -- KEYSET_ID (R353), non-volatile
  slotInvalid : Bool              -- SLOT_INVALID of the lane TAP (R354)
  snap : Store Word               -- LANE_SNAP, the front: the snapshot window by address (R31, R123)
  snapBack : Store Word           -- LANE_SNAP, the back
  vote : VoteSt
  anneal : AnnealSt
  wdrHist : List Nat              -- E of each counted withdrawal (R75)
  annHist : List Nat              -- E of each anneal started (R76)
  retireReq : Nat                 -- the target this lane has requested, 1 to 3; 0 none (R81)
  deep : Option Nat               -- a deep assay running: the epoch it started in (R380)
  justOut : Bool                  -- it has withdrawn since this strobe began: an anneal starts at the next tick 0 (R76)
  deriving DecidableEq, Repr

def LaneSt.init : LaneSt :=
  { powered := true, st := .off, safe := ThreadSt.init, sys := ThreadSt.init, mem := [], typeMap := [], locked := 0,
    osum := 0, time := LaneTime.init, frozenE := 0, carried := 0, localWord := none, lastKey := none, recs := [],
    staged := [], slBuild := [], hxBuild := [], pub := 0, frozenTopo := [], dirty := [], tinDirty := [], keys := [], keyNv := [], keysetId := 0, slotInvalid := false, snap := [], snapBack := [], vote := VoteSt.init,
    anneal := ⟨0, .a, [], false⟩, wdrHist := [], annHist := [], retireReq := 0, deep := none, justOut := false }

/-- A mailbox (R95): the staging words and the queue of each direction, and the overflow bits. -/
structure Mbx where
  upStage : Store Word
  upQ : List (List Word)
  upOvf : Bool
  dnStage : Store Word
  dnQ : List (List Word)
  dnOvf : Bool
  deriving DecidableEq, Repr

def Mbx.init : Mbx := ⟨[], [], false, [], [], false⟩

/-- The time unit (R36, R41 to R45): the tick generator's timebase T at the last strobe, its epoch and tick numbers,
whether it has been set and has delivered its first strobe (R45), the servo, the phase each source shows. -/
structure TimeSt where
  t : Nat
  epoch : Nat
  tick : Nat
  isSet : Bool
  started : Bool
  offs : Store (Option Int)       -- source minus timebase in ns: 1 PTP_A, 2 PTP_B, 3 PAIR, 4 RING
  ptpPort : Nat                   -- the port of the last Sync: 1 ETH-A, 2 ETH-B
  servo : Int                     -- the servo's frequency correction for the grandmaster's rate, parts per 10^9
  rate : Int                      -- the correction the timebase applies (R43)
  goodRun : Nat                   -- consecutive Syncs within 1 µs (R43)
  badRun : Nat                    -- consecutive Syncs beyond 10 µs
  ptpLocked : Bool
  stepped : Bool                  -- a forward step of R44 not yet shown in a crown (R161)
  grdHold : Bool                  -- bands held closed until the guardian was clean for one epoch (R40)
  ppsAt : Option Nat              -- the epoch of the last PPS_OUT pulse (R47)
  deriving DecidableEq, Repr

def TimeSt.init : TimeSt := ⟨0, 0, 0, false, false, [], 0, 0, 0, 0, 0, false, false, false, none⟩

/-- An event on its way to the recorder (R387, R392). -/
structure Event where
  src : Nat
  code : Nat
  aux : Nat
  data : List Byte
  time : Nat
  late : Bool
  deriving DecidableEq, Repr

/-- The event recorder (R387 to R397). `store` holds the 64 bytes of each slot written; the REC_ registers hold
REC_CLR, the newest SEQ, the lap and the counts. `lost` is the run of lost events not yet told: count, SRC and CODE of the
first and of the last. -/
structure RecSt where
  queue : List Event
  lost : Option (Nat × Nat × Nat × Nat × Nat)
  store : Store (List Byte)
  readBusy : Bool
  erasing : Bool
  nextSeq : Nat
  checkpoint : Nat                -- MRAM system region (R393)
  deriving DecidableEq, Repr

def RecSt.init : RecSt := ⟨[], none, [], false, false, 0, 0⟩


/-- An entry of a layout (R197). -/
structure LayEntry where
  uid : Nat
  pos : Nat
  verRej : Bool
  isModule : Bool
  headElig : Bool
  silent : Bool
  allocDn : Nat
  allocUp : Nat
  credit : Nat
  deriving DecidableEq, Repr

/-- A layout (R197). `offs`: DN_OFS, UP_OFS, WIN_OFS and DLY of an ENTRY. -/
structure Layout where
  verMaj : Nat
  lastPos : Nat
  topo : Nat
  brimLen : Nat
  frameLen : Nat
  dirCrc : Nat
  entries : List LayEntry
  offs : Option (Nat × Nat × Nat × Nat)
  deriving DecidableEq, Repr

/-- What a head keeps of its ring (R165, R175, R192, R196 to R213). -/
structure HeadSt where
  returned : Option RunFrame      -- the frame of the previous cycle, back complete
  launched : Bool                 -- a RUN frame has been launched since the last inauguration
  late : Nat                      -- consecutive launches at which the returned frame was late (R206)
  stop : Bool                     -- stop launching at the next strobe (R207, R208)
  cause : Nat                     -- cause pending for an inauguration; 0 none
  phaseOk : Bool                  -- the last INAUG frame is back complete and good
  arrived : Bool                  -- the launched frame has come back
  ebBack : Byte                   -- EB of the frame that came back, 0 while none has (R165)
  backoff : Option Nat            -- strobes of silence since the third failed attempt (R201)
  obRun : Nat                     -- strobes since the last inauguration, while over budget (R201)
  roll : List RollRec
  layout : Option Layout          -- computed from the roll, not in force yet
  measured : List (Nat × Int × Int)
  loop : Nat
  tR : Nat
  ePos : Nat
  overBudget : Bool               -- R201: only crown, join area and own window
  absent : Store Nat              -- consecutive returns without a fresh window, by position (R205)
  silent : List Nat
  wrapNews : Bool                 -- a wrap report since the inauguration (R205)
  cycle : Nat                     -- CYCLE of the last frame launched (R187)
  entryFor : List Nat             -- unique IDs to answer with an ENTRY layout at the next launch (R192)
  smId : Nat                      -- what the head writes into its crowns (R212)
  smPos : Nat
  former : Nat                    -- holder before the inauguration (R213)
  notFresh : Nat                  -- consecutive returns without the holder's fresh up-slice
  mreq : List Nat                 -- positions whose last status block read MREQ = 1
  stepNext : Bool                 -- STEP in the next crown (R161)
  deriving DecidableEq, Repr

def HeadSt.init : HeadSt :=
  { returned := none, launched := false, late := 0, stop := false, cause := 0, phaseOk := false, arrived := false, ebBack := 0, backoff := none, obRun := 0, roll := [],
    layout := none, measured := [], loop := 0, tR := 0, ePos := 0, overBudget := false, absent := [], silent := [],
    wrapNews := false, cycle := 0, entryFor := [], smId := 0, smPos := 255, former := 0, notFresh := 0, mreq := [], stepNext := false }

/-- A ring controller and its band, beside their registers (R156 to R217). Two-port fields are (east, west). -/
structure RingSt where
  layout : Option Layout          -- the layout the node holds, in force
  next : Option Layout            -- inaugurated or sent as an ENTRY, not in force yet
  acked : Bool
  lastTopo : Nat                  -- the last counter the node held (R192)
  lastCycle : Option Nat
  validRun : Nat                  -- good RUN crowns in unbroken order (R190)
  noCrown : Nat                   -- own strobes without a good crown (R189, R432)
  noRun : Nat                     -- the same without an INAUG or RUN frame
  noFrame : Nat                   -- the same without any frame (R207)
  sawCrown : Bool
  sawRun : Bool
  sawFrame : Bool
  dirBad : Nat                    -- consecutive cycles under the DIR_CRC row of R180
  dirSeen : Bool                  -- the present cycle is one of them
  usableRun : Nat × Nat           -- strobes for which each port has been usable (R186)
  quietRun : Nat × Nat            -- strobes since a good frame arrived on each port (R186)
  smSeen : Nat                    -- SM_ID of the last good crown
  ebDemand : Bool                 -- the last crown carried a demand (R168)
  claimBack : Bool × Bool         -- ports on which the own claim came back in this cycle (R194)
  claimRound : Nat
  claimSent : Option ClaimFrame   -- the own claim of this cycle, as launched (R194)
  claimEb : Byte                  -- EB of the own claim that last returned (R193)
  mergeHold : Bool                -- no claim before 4 cycles without a frame (R207)
  foreign : (Nat × Bool) × (Nat × Bool) -- for each port: consecutive cycles with foreign frames; one seen in this cycle (R207)
  merge : Option (Nat × Nat)      -- the MERGE it writes: HEAD_ID and TOPO of the foreign ring
  rollAt : Option (Nat × Nat)     -- CYCLE and guardian time of the first ROLL passage (R202)
  echoAt : Option (Nat × Nat)     -- CYCLE and guardian time of the last ECHO passage
  delta1 : Int
  iso : Option Port               -- the port isolated for test (R214)
  isoFrom : Nat                   -- E at which a port isolation began (R214)
  staged : Bool                   -- a band table awaits confirms (R177)
  suppr : List Nat                -- suppressed attempts of the last 16 cycles (R179)
  txq : List BrimMsg              -- messages queued for the brim window (R171)
  txSeq : Nat
  goodOn : Bool × Bool            -- ports on which a good frame arrived since the last strobe (R186)
  taken : Bool                    -- a cycle has been taken since the last freeze (R31, R215)
  closedRun : Nat                 -- consecutive closed cycles (R178)
  crownAge : Nat                  -- strobes since the last good crown, saturating at 255 (R299)
  headSeen : Nat                  -- HEAD_ID of the last good crown of the own ring (R207)
  peerSeen : Bool                 -- the pair partner's up-slice was fresh since the last strobe (R306, R307)
  peerStale : Nat                 -- consecutive cycles without it
  peerBlock : Option (Nat × Nat)  -- MODE and MSFLAGS of the partner's last status block (R298)
  attnPrev : Store Byte           -- attention bits last read, by position (R257)
  head : HeadSt
  out : List (Port × RingFrame)   -- what the ring's ports sent at the last event
  deriving DecidableEq, Repr

def RingSt.init : RingSt :=
  { layout := none, next := none, acked := false, lastTopo := 0, lastCycle := none, validRun := 0, noCrown := 0, noRun := 0, noFrame := 0,
    sawCrown := false, sawRun := false, sawFrame := false, dirBad := 0, dirSeen := false, usableRun := (0, 0), quietRun := (0, 0),
    smSeen := 0, ebDemand := false, claimBack := (false, false), claimRound := 0, claimSent := none, claimEb := 0, mergeHold := false,
    foreign := ((0, false), (0, false)), merge := none, rollAt := none, echoAt := none, delta1 := 0, iso := none, isoFrom := 0, staged := false, suppr := [],
    txq := [], txSeq := 0, goodOn := (false, false), taken := false, closedRun := 0, crownAge := 255, headSeen := 0, peerSeen := false, peerStale := 255,
    peerBlock := none, attnPrev := [], head := HeadSt.init, out := [] }

/-- Who takes the answers of a bridge message: the ingress port, the ring position or IPv4 address it came from, RID (R243), and the UDP
port of its datagram (R245). -/
structure BrgFrom where
  port : Nat
  src : Nat
  rid : Nat
  udp : Nat
  deriving DecidableEq, Repr

/-- A message accepted in a domain (R248). `age`: strobes since it was first sent (none: not sent yet); `out`: outstanding, that is,
sent and not answered; `queued`: released to the window of its ring, not written yet; `behind`: the DSEQ of the earlier message to the same
target that it waits for after SEQ_GAP (R249). -/
structure BrgHeld where
  dseq : Nat
  route : Nat
  sender : BrgFrom
  msg : BrgMsg
  age : Option Nat
  out : Bool
  lock : Option Nat               -- LTAG of the lock a LOCK asks for
  queued : Bool
  behind : Option Nat
  deriving DecidableEq, Repr

structure BrgDom where
  nextSeq : Nat
  msgs : List BrgHeld             -- in DSEQ order
  deriving DecidableEq, Repr

def BrgDom.init : BrgDom := ⟨0, []⟩

/-- An engine's message port (R247). -/
structure BrgPort where
  rx : List BrgMsg
  an : List BrgMsg
  deriving DecidableEq, Repr

def BrgPort.init : BrgPort := ⟨[], []⟩

/-- A lock (R255). `left`: ticks left of the 8 since the grant. -/
structure BrgLock where
  ltag : Nat
  route : Nat
  ring : Nat
  target : Nat
  sender : BrgFrom
  tag : Nat
  granted : Bool
  left : Nat
  token : Bool                    -- a token was written in the present cycle
  deriving DecidableEq, Repr

/-- A prefetched block (R259). -/
structure BrgBlock where
  route : Nat
  domain : Nat
  inId : Nat
  outId : Nat
  data : List Byte
  age : Nat
  deriving DecidableEq, Repr

/-- The protocol bridge (R239 to R263). `lseq`: the next LSEQ of each target, keyed 2^32 * port + target; `lseqKnown`: the targets to
which no message with LSEQ_SET is due. `seq`: the next brim SEQ of ports 8 to 11 (R171). `sent`: what left ETH_A, ETH_B, MGT and PAIR since
the last strobe. -/
structure BridgeSt where
  doms : Store BrgDom
  fq : List (List Word)
  ports : Store BrgPort
  locks : List BrgLock
  ltagNext : Nat
  blocks : List BrgBlock
  lseq : Store Nat
  lseqKnown : Store Bool
  seq : Store Nat
  sent : List BrgOut
  deriving DecidableEq, Repr

def BridgeSt.init : BridgeSt := ⟨[], [], [], [], 0, [], [], [], [], []⟩

/-- One lane's partition of IX (R267 to R279). Masks have bit n for CH n, group masks bit 0 group 1, bit 1 group 2. -/
structure IoPart where
  cnt : Store Nat                 -- filter counters
  st : Nat                        -- filtered states
  grpFault : Nat                  -- groups with a latched fault
  chFault : Nat                   -- channels with a latched fault
  disc : Nat                      -- channels with DISCREPANCY latched
  miss : Store Nat                -- consecutive readback mismatches of an output (R277)
  settle : Store Nat              -- samples for which the comparison of an output is still suspended
  uv : Nat                        -- supplies in undervoltage
  ov : Nat                        -- supplies in overvoltage
  frame : Nat                     -- the gate word of the lane's latest frame (R70)
  test : Nat                      -- channels whose test command the lane's frames carried (R273)
  deriving DecidableEq, Repr

def IoPart.init : IoPart := ⟨[], 0, 0, 0, 0, [], [], 0, 0, 0, 0⟩

/-- A test pulse running (R273 to R276): channel, dark or bright, the readback of all outputs at its start, whether undervoltage or
overcurrent came in it, and the partitions that hold the test command and switch their gate. -/
structure Pulse where
  ch : Nat
  dark : Bool
  start : Nat
  spoilt : Bool
  by3 : Nat
  deriving DecidableEq, Repr

/-- IX beside its registers. -/
structure IxSt where
  parts : PerLane IoPart
  maj : Nat                       -- majority of the comparators at the last sample
  discRun : Store Nat             -- R269, keyed 3 * channel + the odd comparator
  ready : Store Nat               -- samples since power-good or the last change of FLT (R268)
  sensed : Nat                    -- groups sensed closed
  pulse : Option Pulse
  lastTest : Store (Option Nat)   -- E of each output's last test (R273)
  deriving DecidableEq, Repr

def IxSt.init : IxSt := ⟨.all IoPart.init, 0, [], [], 0, none, []⟩

/-- A brake test of one channel in one lane (R287): phase 1 APPLY, 2 HOLD, 3 RELEASE; ticks in it; ticks of it with the gate on. -/
structure BrkTest where
  phase : Nat
  ticks : Nat
  gateOn : Nat
  deriving DecidableEq, Repr

/-- A lane's brake fast path (R284 to R288). Masks have bit k for CH20 + k. -/
structure BrkSt where
  gate : Nat
  req : Nat
  eb : Nat
  reqSeen : Nat
  ebSeen : Nat
  ask : Bool                      -- own demand: the rings of TX_RINGS carry it (R286)
  tests : Store (Option BrkTest)
  pass : Store (Option Nat)       -- E of the PASS on which validity stands
  fail : Nat                      -- BRK_TEST_FAIL latched
  due : Nat                       -- BRK_TEST_DUE latched
  testReq : Option Nat            -- the last mask written to BRK_TEST_REQ in this epoch
  fltClr : Option Nat             -- the last mask written to IO_FLT_CLR in this epoch (R280)
  deriving DecidableEq, Repr

def BrkSt.init : BrkSt := ⟨0, 0, 0, 0, 0, false, [], [], 0, 0, none, none⟩

/-- The crowns as the fast paths see them (R169, R285), common to the lanes: EB and EB_PRIOR of the newest crown of each ring that
passed at least 49 µs before the next strobe; of one that passed later; rings with a crown since the last strobe; the crown-lost
count. -/
structure CrownSt where
  cur : Store (Byte × Byte)
  late : Store (Option (Byte × Byte))
  seen : Nat
  lost : Nat
  deriving DecidableEq, Repr

def CrownSt.init : CrownSt := ⟨[], [], 0, 0⟩

/-- What the active counts of its partner's reports (R314). -/
structure PeerWatch where
  age : Nat                       -- epochs since a report
  lastE : Option Nat              -- E of the last good report (R296)
  down : PerLane Nat              -- reports in a row with the lane not VOTING
  prog : List Nat                 -- the rotation figures of the last report
  still : List Nat                -- epochs for which each has not moved
  behind : Nat                    -- reports in a row with COMMITTED behind
  view : List Nat                 -- reports in a row with a differing view, by ring
  notReady : Nat
  deriving DecidableEq, Repr

def PeerWatch.init : PeerWatch := ⟨0, none, .all 0, [], [], 0, [], 0⟩

/-- The pair controller beside its registers (R294 to R316). -/
structure PairSt where
  hbAge : Nat                     -- strobes since a valid heartbeat (R297)
  last : Option Heartbeat         -- the last valid heartbeat
  echo : Option Nat               -- the T that the last heartbeat from the partner carried (T_ECHO)
  lastAt : Nat                    -- T at its receipt
  modeRun : Nat                   -- ticks for which the partner has reported a mode other than STANDBY and ACTIVE (R298)
  withdraw : Bool                 -- the last valid heartbeat carried WITHDRAW (R307)
  handover : Bool                 -- a marker carrying HANDOVER has been committed (R307)
  decided : Option Bool           -- the conditions hold: takeover cold (true) or copied (false); none: not, or refused (R308)
  takeCause : Nat                 -- PAIR_TAKE.CAUSE of the takeover under way
  coldWait : Nat                  -- tick 17 strobes that still pass before a cold publication (R308)
  mreqOld : Bool                  -- MREQ was set before the last tick 0 strobe (R299)
  coldStart : Bool                -- the SAFE thread starts at the cold entry point (R300)
  otherRun : Nat                  -- cycles for which most running rings named another master (R299)
  giveUp : Bool                   -- STANDBY at the next tick 0 (R299)
  switchSt : Nat                  -- 0 none, 1 accepted, 2 in its epoch, 3 MREQ cleared (R311)
  resync : Nat                    -- 0 none, 1 from the next epoch, 2 in progress (R304)
  tinLane : Option Lane           -- the tinning lane of this epoch's stream
  stream : List TinRec            -- this epoch's records (R301)
  marker : Option Marker          -- its marker, not sent yet
  bank : List TinRec              -- records collected at the standby (R305)
  epochDone : Bool                -- this epoch has been committed, or has failed
  watch : PeerWatch
  sent : List PairFrame           -- what left on both links since the last strobe
  deriving DecidableEq, Repr

def PairSt.init : PairSt :=
  { hbAge := 0, last := none, echo := none, lastAt := 0, modeRun := 0, withdraw := false, handover := false, decided := none, takeCause := 0,
    coldWait := 0, mreqOld := false, coldStart := false, otherRun := 0, giveUp := false, switchSt := 0, resync := 0, tinLane := none,
    stream := [], marker := none, bank := [], epochDone := true, watch := PeerWatch.init, sent := [] }

/-- A feed's runs of samples below 16.8 V, below 14.0 V, above 137.5 V and within the normal range (R318). -/
structure FeedRun where
  low : Nat
  lost : Nat
  high : Nat
  ok : Nat
  deriving DecidableEq, Repr

/-- The power-feed monitors: samples since both feeds were LOST (none: not), and since the last interruption (R319, R320). -/
structure FeedSt where
  a : FeedRun
  b : FeedRun
  holdup : Option Nat
  charged : Nat
  deriving DecidableEq, Repr

def FeedSt.init : FeedSt := ⟨⟨0, 0, 0, 0⟩, ⟨0, 0, 0, 0⟩, none, 0⟩

/-- Which power state the module is in (R322). `held`: OFF after a power failure, or only PD_AON after a second wake failure. -/
inductive Power | run | stabled | dormant | off | reset
  deriving DecidableEq, Repr

/-- The power controller beside its registers (R322 to R339). Wake sources are bits of a mask. -/
structure PwrSt where
  power : Power
  asked : Nat                     -- the block being asked, 9 once accepted; 0 none (R325)
  stood : Option Word             -- the request that stood at the last tick 17 (R323)
  dormLeft : Option Nat           -- minutes of DORM_AFTER; none: no such time
  entryE : Nat                    -- E at which the state was reached
  reaching : Bool                 -- the entry has taken effect, the state is not reached yet
  heldWake : Nat                  -- wake sources that became active meanwhile (R328)
  wakeHigh : Nat                  -- CH44 + n has stood at 1 for 10 ms (R329)
  wakeLow : Nat                   -- CH44 + n has stood at 0 for 10 ms
  wakeLine : Nat                  -- rings with line activity for 10 ms
  waking : Nat                    -- the state the wake in progress leaves: 1 STABLED, 2 DORMANT; 0 none
  groups : List (List (Nat × List Nat)) -- domains still to be woken, in order, and the steps each still has (R331)
  failed : Bool                   -- the wake has failed once (R333)
  dead : Bool                     -- only PD_AON after the second failure
  failNews : Bool                 -- a WAKE_FAIL not yet in the recorder
  acc : Store Nat                 -- the counters of R335 (MRAM)
  rstHeld : Bool                  -- RST_N asserted since a qualified assertion
  failHold : Bool                 -- held in reset by the power-fail sequence (R320)
  txLatch : Nat                   -- SerDes ports latched with TX_DISABLE high (R334)
  auxLatch : Nat                  -- PWR_AUX as latched
  deriving DecidableEq, Repr

def PwrSt.init : PwrSt :=
  { power := .run, asked := 0, stood := none, dormLeft := none, entryE := 0, reaching := false, heldWake := 0, wakeHigh := 0, wakeLow := 0, wakeLine := 0,
    waking := 0, groups := [], failed := false, dead := false, failNews := false, acc := [], rstHeld := false, failHold := false,
    txLatch := 0, auxLatch := 0 }

/-- The image in force, as the hallmark gives it (R341). -/
structure ImageSt where
  schema : Nat
  imports : List Nat
  keyset : Nat
  root : Nat
  pairOk : Bool
  entries : List Nat              -- main, standby, cold and SYS entry points
  required : Nat                  -- rings the ring plan marks required, bit n for ring n (R363)
  digests : List (Nat × Nat × List Byte) -- section types, lengths and digests (R342)
  deriving DecidableEq, Repr

def ImageSt.init : ImageSt := ⟨0, [], 0, 0, false, [], 0, []⟩

/-- The security unit beside its registers (R340 to R368): OTP, NOR, boot, buffers. -/
structure SecSt where
  img : ImageSt
  bootStep : Nat                  -- 0 no boot in progress, 3 lanes loading (R360)
  freshIn : PerLane Bool          -- each lane's judgement of the last freeze (R363)
  startOk : Bool                  -- the output start conditions held at the last tick 17
  started : Bool                  -- STARTING at the next tick 0 (R73)
  noCommit : Bool                 -- no COMMIT has come into force since the module reset (R189)
  nextMode : Option Mode          -- mode change at the next tick 0 (R22)
  snapshot : Option (Store Word)  -- a snapshot that passed its checks (R358)
  commitReq : Bool
  nor : Store Byte                -- both banks, 2 × 2^28 bytes (R340)
  selected : Nat                  -- MRAM: bank selected, previous, trial (R361)
  previous : Nat
  trial : Bool
  norBusy : Option (Nat × Nat)    -- operation and offset in progress
  roots : List (Nat × BitVec 256) -- OTP: programmed slots and their key hashes (R344)
  revoked : List Nat
  lcBits : Nat                    -- OTP: highest life-cycle pair, 0 BLANK to 3 OPERATE, 4 RETIRED (R349)
  enters : Nat
  exits : Nat
  tokenBuf : Store Byte
  token : Option (List Byte × List Byte) -- a token being checked: its bytes, and SEC_NONCE at its submission
  maint : Bool                    -- a maintenance session is open (R362)
  norBuf : Store Byte
  quote : List Byte               -- the quote buffer
  attNext : Nat                   -- MRAM: attestation indexes (R356)
  attReserved : Nat
  hxKeys : Store (Option (BitVec 256)) -- Hexlo authentication keys in force (R222), keyed 2 * session, + 1 for receiving
  hxKeysNv : Store (Option (BitVec 256)) -- as entered, in force from the next module reset (R353)
  tap : List Byte                 -- what a TAP last shifted out (R353)
  deriving DecidableEq, Repr

def SecSt.init : SecSt :=
  { img := ImageSt.init, bootStep := 0, freshIn := .all false, startOk := false, started := false,
    noCommit := true, nextMode := none, snapshot := none, commitReq := false, nor := [], selected := 0, previous := 0,
    trial := false, norBusy := none, roots := [], revoked := [], lcBits := 0, enters := 0, exits := 0, tokenBuf := [], token := none,
    maint := false, norBuf := [], quote := [], attNext := 0, attReserved := 0, hxKeys := [], hxKeysNv := [], tap := [] }

/-- One rotation of the assay (R370, R375): the item under test, whether its network conducted at its start, a due slice that waits, when the
last slice started (E, or 20 E + tick in IX), the items passed. -/
structure AstSt where
  running : Option Nat
  wasOn : Bool
  waits : Bool
  lastE : Option Nat
  passed : Nat
  deriving DecidableEq, Repr

def AstSt.init : AstSt := ⟨none, false, false, none, 0⟩

/-- How the number of a Hexlo copy stands (R230, R231). -/
inductive HexRes | waiting | single | pair | gap
  deriving DecidableEq, Repr

/-- A copy of a Hexlo message held by the engine, or a number resolved as a gap by a divergence. `age`: strobes since the first copy
arrived. -/
structure HexCopy where
  seq : Nat
  bytes : List Byte
  onB : Bool
  age : Nat
  res : HexRes
  deriving DecidableEq, Repr

/-- A delivered message waiting for a freeze. -/
structure HexWait where
  bytes : List Byte
  gap : Nat
  resync : Bool
  single : Bool
  deriving DecidableEq, Repr

/-- A Hexlo session beside its registers (R225 to R234); the state is HXL_SSTAT.STATE, NEXP is HXL_SNEXP. -/
structure HexSes where
  copies : List HexCopy           -- in order of arrival
  wait : List HexWait
  lastStamp : Nat
  carryGap : Nat                  -- numbers passed as gaps since the last delivery (R231)
  staleGap : Nat                  -- messages discarded as STALE since the last delivery (R233)
  divs : List Nat                 -- E of each divergence of the last 100 epochs
  closedE : Nat
  command : Nat                   -- HXL_CMD waiting for tick 0
  reopen : Bool                   -- REOPEN_T has passed
  got : Bool                      -- a delivery since the last freeze
  frozenAgo : Option Nat          -- freezes since one that carried a message
  pathA : Option Nat              -- E of the last valid copy on each network
  pathB : Option Nat
  noPair : Nat                    -- epochs since the last identical pair
  delivered : Bool                -- a delivery since then
  netLast : Nat                   -- network of the last delivery: 1 ETH-A, 2 ETH-B
  done : List (Nat × List Byte)   -- messages delivered since the last RESYNC delivery, by number (R230)
  deriving DecidableEq, Repr

def HexSes.init : HexSes :=
  { copies := [], wait := [], lastStamp := 0, carryGap := 0, staleGap := 0, divs := [], closedE := 0, command := 0, reopen := false, got := false,
    frozenAgo := none, pathA := none, pathB := none, noPair := 0, delivered := false, netLast := 0, done := [] }

/-- The Ethernet ports: ARP entries (R226), keyed 2^32 * port + address; echo requests answered, by port: second and count (R219); what
left the ports at the last event. -/
structure NetSt where
  arp : Store (Option Nat)
  echo : Store (Nat × Nat)
  out : List EthSent              -- what the ports sent at the last event
  toMgmt : List (Nat × IpPacket)  -- what they passed whole to the management engine's IP stack then, by port (R245)
  deriving DecidableEq, Repr

def NetSt.init : NetSt := ⟨[], [], [], []⟩


/-- The machine. -/
structure State where
  pending : List Instr            -- commands waiting, first in, first out
  freeCnt : Nat                   -- how many values the spec leaves open have been drawn (log entry 2)
  mode : Mode                     -- R19
  regs : Store Word
  shadow : Store Word
  rdData : Store Word             -- what each initiator's last register read returned, by Init.num
  latch : Store (Option Word)     -- the _HI latches (R401), keyed Init.num * 2^40 + key
  lanes : PerLane LaneSt
  mgmt : ThreadSt
  mmem : List Host.Cell           -- MMEM (R83)
  holds : Store Bool              -- hold-off timers running (R102), keyed 16 * engine + group
  mbx : PerLane Mbx
  time : TimeSt
  recorder : RecSt
  planDn : Store Bool             -- down-slices of the ring plan in force (R342), keyed ring * 256 + position
  fx : FxSt
  ixGates : PerLane Nat           -- gates as IX drives them for each lane: CH0 to CH23, then the two groups (R70, R71, R271)
  ix : IxSt
  brk : PerLane BrkSt
  crowns : CrownSt
  rings : Store RingSt            -- ring controllers and bands 0 to 7
  bridge : BridgeSt
  planReq : Store Nat             -- R431: ALLOC_DN, ALLOC_UP, credit requested, keyed 4 * ring + 0, 1, 2
  planIfv : Store Nat             -- R367: IFV of a down-slice; low and 256 * high of an up-slice; keyed 512 * ring + 2 * position + up
  pair : PairSt
  feed : FeedSt
  pwr : PwrSt
  sec : SecSt
  hex : Store HexSes              -- Hexlo sessions 1 to 127
  net : NetSt
  ast : Store AstSt               -- rotations: 3 * lane + 0 SRAM, 1 logic, 2 IX; 9 FX
  fxSpare : Nat                   -- spares of FX memories in use for good: bit 0 bridge buffer, 1 MMEM, 2 the others (R378)
  imgRgn : Store Word             -- region descriptors, entry points and PIC_VEC_BASE as the image gives them (R90, R94)
  deriving DecidableEq, Repr

/-- Why a step stops the machine. NO command raises one: every fault the spec describes is a next state (R93). The
type is closed and empty of any reachable case; `none` stands for it. Safe: a stop proves nothing about the hardware. -/
inductive Fault
  | unreachable
  deriving DecidableEq, Repr

/-- Why a command has no meaning. notModelled: raised by exec's arm of a command not modelled; safe. -/
inductive Refusal
  | notModelled (mnemonic : String)
  deriving DecidableEq, Repr

/-- The machine right after a module reset: mode BOOT, every lane OFF, every register at its reset value. -/
def State.reset : State :=
  { pending := [], freeCnt := 0, mode := .boot, regs := [], shadow := [], rdData := [], latch := [],
    lanes := .all LaneSt.init, mgmt := ThreadSt.init, mmem := [], holds := [], mbx := .all Mbx.init,
    time := TimeSt.init, recorder := RecSt.init, planDn := [], fx := ⟨0, [], [], 0, [], .all none⟩, ixGates := .all 0,
    imgRgn := [], ix := IxSt.init, brk := .all BrkSt.init, crowns := CrownSt.init, rings := [], bridge := BridgeSt.init, planReq := [], planIfv := [],
    pair := PairSt.init, feed := FeedSt.init, pwr := PwrSt.init, sec := SecSt.init, hex := [], net := NetSt.init, ast := [], fxSpare := 0 }

end Sys2Proof.Machine
end

