-- ==== Sys2Proof/Machine/Ops.lean ====
section
/-!
DEFINITION. The shared operations: registers and fields, free values, interrupt sources (R98), event records
(R392), lanes. Every meaning reads and writes the state through them.

Readings and choices: log entries 2 (DESIGN CHOICE), 37 (DEDUCED).
-/

namespace Sys2Proof.Machine

/-! ### Registers and fields -/

/-- The value in force of the register at key `k`. -/
def State.rd (s : State) (k : Nat) : Word := Store.get regReset s.regs k

def State.wr (s : State) (k : Nat) (w : Word) : State := { s with regs := Store.put regReset s.regs k w }

/-- The shadow of the register at key `k` (R6 SH); only its SH bits are meaningful. -/
def State.shRd (s : State) (k : Nat) : Word := Store.get regReset s.shadow k

def State.shWr (s : State) (k : Nat) (w : Word) : State := { s with shadow := Store.put regReset s.shadow k w }

/-- A field in force, as a number. -/
def State.fv (s : State) (f : Fld) : Nat := getBits (s.rd f.key) f.hi f.lo

/-- A field in force, as a flag. -/
def State.fb (s : State) (f : Fld) : Bool := s.fv f ≠ 0

def State.setF (s : State) (f : Fld) (v : Nat) : State := s.wr f.key (setBits (s.rd f.key) f.hi f.lo v)

def State.setB (s : State) (f : Fld) (b : Bool) : State := s.setF f (b2n b)

/-- Add `k` to a field that saturates at its largest value. -/
def State.incF (s : State) (f : Fld) (k : Nat := 1) : State := s.setF f (satAdd (2 ^ (f.hi + 1 - f.lo) - 1) (s.fv f) k)

def State.fvSh (s : State) (f : Fld) : Nat := getBits (s.shRd f.key) f.hi f.lo

def State.setFSh (s : State) (f : Fld) (v : Nat) : State := s.shWr f.key (setBits (s.shRd f.key) f.hi f.lo v)

/-- Set an SH field in force and in its shadow, as the image does at load (R359, R360). -/
def State.loadF (s : State) (f : Fld) (v : Nat) : State := (s.setF f v).setFSh f v

/-! ### Free values (log entry 2) -/

/-- The next value the spec leaves open. -/
def State.freeVal (s : State) : DWord := Config.freeValue s.freeCnt

def State.drawn (s : State) : State := { s with freeCnt := s.freeCnt + 1 }

/-- Nanoseconds passed inside the present tick: open between 0 and 499,999 (log entry 2). -/
def State.subTick (s : State) : Nat := s.freeVal.toNat % 500000

/-! ### Lanes -/

def State.lane (s : State) (l : Lane) : LaneSt := s.lanes.get l

def State.setLane (s : State) (l : Lane) (x : LaneSt) : State := { s with lanes := s.lanes.set l x }

def State.updLane (s : State) (l : Lane) (f : LaneSt → LaneSt) : State := s.setLane l (f (s.lane l))

/-- The lanes that are STARTING or VOTING (R61, R62). -/
def State.counted (s : State) : List Lane := allLanes.filter fun l => (s.lane l).st.counted

def State.voting (s : State) : List Lane := allLanes.filter fun l => (s.lane l).st = .voting

/-- The lanes other than `l`. -/
def otherLanes (l : Lane) : List Lane := allLanes.filter fun m => m ≠ l

/-- E of the module's timebase (R29). -/
def State.E (s : State) : Nat := s.time.epoch

/-- Fold over the lanes, A first (the order of R402). -/
def State.forLanes (s : State) (f : State → Lane → State) : State := f (f (f s .a) .b) .c

/-- In CONFIG_HOLD the recovery service acts only within a maintenance session (R362). -/
def serviceAllows (s : State) : Bool := s.mode ≠ .configHold || s.sec.maint

/-! ### Interrupt sources (R98) -/

/-- More than PD_AON is powered and out of reset (R17, R322). -/
def State.alive (s : State) : Bool := s.pwr.power = .run || s.pwr.power = .stabled

/-- STABLED, from the entry to the end of the wake's domains (R17, R322, R410). -/
def State.stabled (s : State) : Bool := s.pwr.power = .stabled

/-- Block `b` has acknowledged the entry handshake and prepares (R325); 9: the entry is accepted. -/
def State.prepared (s : State) (b : Nat) : Bool := decide (b < s.pwr.asked)

/-- Whether an engine runs, so that its interrupt controller counts events (R17). -/
def State.engineOn (s : State) : Engine → Bool
  | .lane l => s.alive && (s.lane l).powered
  | .mgmt => s.alive

/-- One event on source `n` of one controller: the count saturates at 255, an event at 255 sets OVF (R98). -/
def State.raise (s : State) (e : Engine) (n : Nat) : State :=
  if s.engineOn e then
    if s.fv (PIC_COUNT_COUNT e n) = 255 then s.setF (PIC_COUNT_OVF e n) 1
    else s.setF (PIC_COUNT_COUNT e n) (s.fv (PIC_COUNT_COUNT e n) + 1)
  else s

/-- One event on source `n` of every lane controller. -/
def State.raiseLanes (s : State) (n : Nat) : State := s.forLanes fun s l => s.raise (.lane l) n

/-- One event on source `n` of every interrupt controller. -/
def State.raiseAll (s : State) (n : Nat) : State := (s.raiseLanes n).raise .mgmt n

/-! ### Event records (R392) -/

/-- Write an event record: the event enters the recorder's 1,024-entry queue with T at the event (R48, R387), or is counted lost
when the queue is full (R392). -/
def State.record (s : State) (src code aux : Nat) (data : List Byte) : State :=
  let r := s.recorder
  let ev : Event := ⟨src, code, aux, data, s.time.t + s.subTick, !s.time.isSet⟩
  if ¬ s.alive then s
  else if r.queue.length < 1024 ∧ r.lost = none then
    { s with freeCnt := s.freeCnt + 1, recorder := { r with queue := r.queue ++ [ev] } }
  else
    let lost := match r.lost with
      | none => (1, src, code, src, code)
      | some (n, s0, c0, _, _) => (n + 1, s0, c0, src, code)
    { s.incF REC_CNT_LOST with freeCnt := s.freeCnt + 1, recorder := { r with lost := some lost } }

/-- The event record whose DATA is register words (the codes marked "(regs)" of R398). -/
def State.recordRegs (s : State) (src code aux : Nat) (keys : List Nat) : State :=
  s.record src code aux (wordsBytes (keys.map s.rd))

/-- Set a bit that records an event: the bit, its source in the controllers given, its record. -/
def State.setEvt (s : State) (f : Fld) : State := s.setF f 1

/-! ### Memories (R404, R407): bytes by address, 8-byte words most significant byte first (R429) -/

/-- Memory reads as zero where nothing has been written (R331: every SRAM is initialised to zero). -/
def memDefault : Nat → Byte := fun _ => 0

def memRead (m : List Host.Cell) (a : Nat) : Byte := Store.get memDefault m a

def memWrite (m : List Host.Cell) (a : Nat) (b : Byte) : List Host.Cell := Store.put memDefault m a b

def memBytes (m : List Host.Cell) (a n : Nat) : List Byte := Store.getList memDefault m a n

def memWriteBytes (m : List Host.Cell) (a : Nat) (bs : List Byte) : List Host.Cell := Store.putList memDefault m a bs

/-- The 8-byte word at address `a`. -/
def memWord (m : List Host.Cell) (a : Nat) : DWord := BitVec.ofNat 64 (ofBytes (memBytes m a 8))

def memSetWord (m : List Host.Cell) (a : Nat) (w : DWord) : List Host.Cell :=
  memWriteBytes m a (beBytes 8 w.toNat)

/-! ### Threads -/

def State.thread (s : State) : Thr → ThreadSt
  | .safe l => (s.lane l).safe
  | .sys l => (s.lane l).sys
  | .mgmt => s.mgmt

def State.setThread (s : State) (t : Thr) (x : ThreadSt) : State :=
  match t with
  | .safe l => s.updLane l fun y => { y with safe := x }
  | .sys l => s.updLane l fun y => { y with sys := x }
  | .mgmt => { s with mgmt := x }

def State.updThread (s : State) (t : Thr) (f : ThreadSt → ThreadSt) : State := s.setThread t (f (s.thread t))

end Sys2Proof.Machine
end

