-- ==== Sys2Proof/Machine/LaneCodes.lean ====
section
/-!
DEFINITION. Lane codes and key slots (R65, R66, R164, R223, R354).
-/

namespace Sys2Proof.Machine

/-- The first 4 bytes of HMAC-SHA-256 (R66). -/
def code4 (key : BitVec 256) (m : List Byte) : List Byte := (hmacSha256 (beBytes 32 key.toNat) m).take 4

def State.laneKeyAt (s : State) (l : Lane) (slot : Nat) : Option (BitVec 256) :=
  Store.get (fun _ => none) (s.lane l).keys slot

/-- A code made under a slot: a slot never loaded holds zero (R354). -/
def State.makeCode (s : State) (l : Lane) (slot : Nat) (m : List Byte) : List Byte :=
  code4 ((s.laneKeyAt l slot).getD 0) m

/-- A code verified under a slot: under a slot never loaded every verification fails (R354). -/
def State.verifyCode (s : State) (l : Lane) (slot : Nat) (m code : List Byte) : Bool :=
  match s.laneKeyAt l slot with
  | some k => code4 k m = code
  | none => false

/-- The slots of R354. -/
def slotDown (ring : Nat) : Nat := ring
def slotIn1 (ring : Nat) : Nat := 0x008 + ring
def slotIn2 (ring : Nat) : Nat := 0x010 + ring
def slotPair (letter : Nat) : Nat := 0x018 + letter
def slotOut (ses : Nat) : Nat := 0x080 + ses
def slotInSes (letter ses : Nat) : Nat := 0x100 + 0x80 * letter + ses

/-- Whether KEYLOAD's table names the slot (R354). -/
def slotNamed (n : Nat) : Bool :=
  decide (n ≤ 0x01A) || (decide (0x080 < n) && decide (n < 0x280) && n % 0x80 ≠ 0)

/-- The string of a ring down-slice code (R66). -/
def downString (ring pos topo e : Nat) (payload : List Byte) : List Byte :=
  [0x01] ++ beBytes 1 ring ++ beBytes 1 pos ++ [0x00] ++ beBytes 2 topo ++ beBytes 6 e ++ beBytes 2 payload.length ++ payload

/-- The string of a Hexlo message code (R66). -/
def hexloString (ses topo e seq src dst : Nat) (payload : List Byte) : List Byte :=
  [0x02] ++ beBytes 1 ses ++ [0x00, 0x00] ++ beBytes 2 topo ++ beBytes 6 e ++ beBytes 4 seq ++ beBytes 4 src ++ beBytes 4 dst ++
  beBytes 2 payload.length ++ payload

/-- The string of an up-slice code (R164). -/
def upString (ring pos topo cycle : Nat) (payload : List Byte) : List Byte :=
  [0x03] ++ beBytes 1 ring ++ beBytes 1 pos ++ [0x00] ++ beBytes 2 topo ++ beBytes 4 cycle ++ beBytes 2 payload.length ++ payload

/-- The lane letters a lane-pair ID names, first-named first (R68): 1 AB, 2 BC, 3 CA. -/
def pairLanes : Nat → Option (Lane × Lane)
  | 1 => some (.a, .b)
  | 2 => some (.b, .c)
  | 3 => some (.c, .a)
  | _ => none

/-- The rotation pair of epoch E (R68). -/
def rotationPair (e : Nat) : Nat := e % 3 + 1

end Sys2Proof.Machine
end

