-- ==== Sys2Proof/Machine/Flags.lean ====
section
/-!
DEFINITION. Coded words and every check computation (R49, R54, R110 to R112). All arithmetic is mod P, on exact
integers reduced at the end.
-/

namespace Sys2Proof.Machine

/-- P = 2^32 - 5 (R49). -/
def codeP : Nat := 4294967291

/-- v of a coded word: bits [63:32] (R49). -/
def wordV (w : DWord) : Nat := w.toNat / 4294967296

/-- The check c of a coded word: bits [31:0]. -/
def wordC (w : DWord) : Nat := w.toNat % 4294967296

/-- The word v:c. -/
def mkWord (v c : Nat) : DWord := BitVec.ofNat 64 (v % 4294967296 * 4294967296 + c % 4294967296)

/-- c = (A·v + B + D) mod P (R49). -/
def checkOf (l : Lane) (v b d : Nat) : Nat := (laneA l * v + b + d) % codeP

/-- The coded word of v under signature b, coded for d. -/
def codeWord (l : Lane) (v b d : Nat) : DWord := mkWord v (checkOf l v b d)

/-- The word's check fits v, the lane, the signature and D; a check of P or more never does (R49, R52). -/
def codeOk (l : Lane) (w : DWord) (b d : Nat) : Bool := wordC w = checkOf l (wordV w) b d

/-- D of epoch `e` (R29). -/
def dOf (e : Nat) : Nat := e % 4294967296

/-- D_prev of epoch `e`: the low 32 bits of E - 1 (R54). -/
def dPrev (e : Nat) : Nat := (e + 4294967295) % 4294967296

/-- An integer reduced to 0 ≤ c < P. -/
def modP (z : Int) : Nat := (z % (codeP : Int)).toNat

/-! ### The check path (R112) -/

/-- A + B: the carry k out of bit 31 weighs 2^32 ≡ 5, so 5A·k comes off. -/
def chkAdd (a c1 c2 b1 b2 bd d v1 v2 : Nat) : Nat :=
  modP ((c1 : Int) + c2 - b1 - b2 - d + bd - 5 * a * ((v1 + v2) / 4294967296 : Nat))

/-- A - B: the borrow b puts 5A·b back. -/
def chkSub (a c1 c2 b1 b2 bd d v1 v2 : Nat) : Nat :=
  modP ((c1 : Int) - c2 - b1 + b2 + d + bd + 5 * a * (if v1 < v2 then 1 else 0))

/-- A · B with product h·2^32 + v: 5A·h comes off. -/
def chkMul (a c1 b1 bd d v1 v2 : Nat) : Nat :=
  modP (((c1 : Int) - b1 - d) * v2 - 5 * a * ((v1 * v2) / 4294967296 : Nat) + bd + d)

/-- Bitwise NOT: 2^32 - 1 ≡ 4. -/
def chkNot (a c1 b1 bd d : Nat) : Nat := modP (4 * (a : Int) - c1 + b1 + bd + 2 * d)

/-- Logical NOT of a predicate. -/
def chkNotP (a c1 b1 bd d : Nat) : Nat := modP ((a : Int) - c1 + b1 + bd + 2 * d)

/-- Move under a new signature. -/
def chkMov (c1 b1 bd : Nat) : Nat := modP ((c1 : Int) - b1 + bd)

/-- The check path's own decoding of a predicate: 0 or A for a valid one. -/
def chkPred (cp bp d : Nat) : Nat := modP ((cp : Int) - bp - d)

/-- The twin form: A·v_t + Bd + D, with v_t from the twin unit. -/
def chkTwin (a vt bd d : Nat) : Nat := (a * vt + bd + d) % codeP

/-! ### The twin unit: the dual operation on complemented operands (R112, R118, R119) -/

def not32 (v : Nat) : Nat := 4294967295 - v % 4294967296

def twinAnd (v1 v2 : Nat) : Nat := not32 (not32 v1 ||| not32 v2)
def twinOr (v1 v2 : Nat) : Nat := not32 (not32 v1 &&& not32 v2)
def twinXor (v1 v2 : Nat) : Nat := not32 v1 ^^^ not32 v2

/-- Shift left on the complement, ones shifted in. -/
def twinShl (v n : Nat) : Nat := not32 ((not32 v * 2 ^ n + (2 ^ n - 1)) % 4294967296)

/-- Shift right on the complement, ones shifted in. -/
def twinShr (v n : Nat) : Nat := not32 (not32 v / 2 ^ n + (4294967296 - 2 ^ (32 - n)))

/-- The conditions of CCMP (R119): EQ NE LTU GEU LT GE on `n`-bit values. -/
def cmpHolds (n cond v1 v2 : Nat) : Bool :=
  match cond with
  | 0 => v1 = v2
  | 1 => v1 ≠ v2
  | 2 => v1 < v2
  | 3 => v2 ≤ v1
  | 4 => signedOf n v1 < signedOf n v2
  | _ => signedOf n v2 ≤ signedOf n v1

/-- The dual compare on the complements: v1 < v2 exactly when NOT v2 < NOT v1. -/
def twinCmp (cond v1 v2 : Nat) : Bool :=
  match cond with
  | 0 => cmpHolds 32 0 (not32 v1) (not32 v2)
  | 1 => cmpHolds 32 1 (not32 v1) (not32 v2)
  | 2 => cmpHolds 32 2 (not32 v2) (not32 v1)
  | 3 => cmpHolds 32 3 (not32 v2) (not32 v1)
  | 4 => cmpHolds 32 4 (not32 v2) (not32 v1)
  | _ => cmpHolds 32 5 (not32 v2) (not32 v1)

/-- A short signature's B: (SS · 2,097,152 + W) mod P (R110). -/
def shortSig (ss w : Nat) : Nat := (ss * 2097152 + w) % codeP

end Sys2Proof.Machine
end

