-- ==== Sys2Proof/Machine/AssayCut.lean ====
section
/-!
DEFINITION. The assay's rotations and result records (R370 to R376), and the ways a slice is cut short (R369, R376, R382).

Readings and choices: log entries 2 (DESIGN CHOICE), 41 (DESIGN CHOICE).
-/

namespace Sys2Proof.Machine

/-- The key of a rotation. -/
def assayKey : AssayUnit → Nat
  | .sram l => 3 * l.num
  | .logic l => 3 * l.num + 1
  | .ix l => 3 * l.num + 2
  | .fx => 9

def laneUnits (l : Lane) : List AssayUnit := [.sram l, .logic l, .ix l]

def assayUnits : List AssayUnit := allLanes.flatMap laneUnits ++ [.fx]

def State.asy (s : State) (u : AssayUnit) : AstSt := Store.get (fun _ => AstSt.init) s.ast (assayKey u)

def State.updAsy (s : State) (u : AssayUnit) (f : AstSt → AstSt) : State :=
  { s with ast := Store.put (fun _ => AstSt.init) s.ast (assayKey u) (f (s.asy u)) }

/-- The lanes' IX sequences are staggered (R373): lane B stands 10 and lane C 20 items on. -/
def ixItem (l : Lane) (i : Nat) : Nat := (i + 10 * l.num) % 100

/-- TARGET of R376. -/
def assayTarget : AssayUnit → Nat → Nat
  | .sram _, _ => 1
  | .logic _, _ => 2
  | .ix l, i => if ixItem l i < 48 then 3 else 4
  | .fx, i => if i < 384 then 5 else 6

/-- ITEM of R376. -/
def assayItem : AssayUnit → Nat → Nat
  | .fx, i => if i < 384 then i else i - 384
  | _, i => i

/-- SerDes k is idle (R374). -/
def serdesIdle (s : State) (k : Nat) : Bool :=
  if k < 16 then !s.fb (RING_CTRL_EN (k / 2)) else if k < 18 then !s.fb (ETH_CTRL_EN (k - 16)) else !s.fb PAIR_CFG_EN

/-- Items per rotation (R375). -/
def assayTotal (s : State) : AssayUnit → Nat
  | .sram _ => 1024
  | .logic _ => 512
  | .ix _ => 100
  | .fx => 384 + ((List.range 20).filter (serdesIdle s)).length

/-- Where the four words of the last result record stand. -/
def resultKey : AssayUnit → Nat → Nat
  | .sram l, n => AST_LANE_SRAM l n
  | .logic l, n => AST_LANE_LOGIC l n
  | .ix l, n => AST_LANE_IX l n
  | .fx, n => AST_FX_RES n

/-- How a slice ended (R376): RESULT 1 PASS, 2 FAIL, 3 INCOMPLETE. -/
structure SliceEnd where
  result : Nat
  preempt : Bool
  pcause : Nat
  signature : Word
  patterns : Word
  us : Nat

/-- The four words of a result record. -/
def resultWords (s : State) (u : AssayUnit) (i : Nat) (r : SliceEnd) : List Word :=
  [BitVec.ofNat 32 (r.result * 2 ^ 30 + 2 ^ 29 + b2n r.preempt * 2 ^ 28 + r.pcause * 2 ^ 24 + assayTarget u i * 2 ^ 16 + assayItem u i),
   r.signature, BitVec.ofNat 32 (65536 / assayTotal s u * 2 ^ 16 + min 65535 r.us), r.patterns]

/-- The result words in their registers; the slice is over. -/
def putResult (s : State) (u : AssayUnit) (ws : List Word) : State :=
  let s := (List.range 4).foldl (fun s n => s.wr (resultKey u n) (ws.getD n 0)) s
  s.updAsy u fun x => { x with running := none }

/-- The source of a FAIL or an INCOMPLETE: 96 to 98 for a lane's SRAM and logic, 99 FX, 100 IX. -/
def assaySource (s : State) : AssayUnit → State
  | .sram l => (s.raise (.lane l) 96).raise .mgmt (96 + l.num)
  | .logic l => (s.raise (.lane l) 96).raise .mgmt (96 + l.num)
  | .ix _ => s.raiseAll 100
  | .fx => s.raiseAll 99

/-- Codes of the assay's event records (R398): 1 FAIL, 2 INCOMPLETE, 3 rotation complete, 4 rotation late. -/
def assayRecord (s : State) (u : AssayUnit) (i code : Nat) (ws : List Word) : State :=
  s.record 0x0C code (assayTarget u i) (wordsBytes ws)

/-- A slice is cut short: INCOMPLETE, to be repeated (R377); signature, patterns and duration are open (log entry 2). -/
def cutSlice (cause : Nat) (s : State) (u : AssayUnit) : State :=
  match (s.asy u).running with
  | some i =>
    let v := s.freeVal
    let us := s.drawn.freeVal.toNat % 65536
    let ws := resultWords s u i ⟨3, true, cause, v.truncate 32, (v >>> 32).truncate 32, us⟩
    let s := putResult s.drawn.drawn u ws
    let s := match u with
      | .sram l => s.incF (AST_LANE_CNT_INCOMPLETE l)
      | .logic l => s.incF (AST_LANE_CNT_INCOMPLETE l)
      | .ix l => s.incF (AST_LANE_CNT_INCOMPLETE l)
      | .fx => s
    assayRecord (assaySource s u) u i 2 ws
  | none => s

/-- PCAUSE 2: the lane leaves STARTING, VOTING and SHADOW. -/
def cutLane (s : State) (l : Lane) : State := (laneUnits l).foldl (cutSlice 2) s

def cutAll (s : State) (cause : Nat) : State := assayUnits.foldl (cutSlice cause) s

end Sys2Proof.Machine
end

