-- ==== Sys2Proof/Machine/Withdraw.lean ====
section
/-!
DEFINITION. Withdrawal of a lane and of the module (R62, R71, R74, R75), shared by every rule that withdraws.

Readings and choices: log entries 2 (DESIGN CHOICE), 7 (DEDUCED), 23 (DEDUCED), 48 (DEDUCED).
-/

namespace Sys2Proof.Machine

/-- The epochs of the last 360,000 (R75, R76). -/
def lastHour (e : Nat) (h : List Nat) : List Nat := h.filter fun x => decide (e < x + 360000)

/-- The data of a withdrawal record: the cause and E (R74, R398). -/
def withdrawData (c : Cause) (e : Nat) : List Byte := beBytes 1 c.code ++ beBytes 6 e

/-- The state a withdrawing lane takes (R73): LOCKED_OUT for the fourth counted withdrawal in the hour or for a cause marked
"No", otherwise WITHDRAWN. -/
def withdrawnState (c : Cause) (counted : Nat) : LState :=
  if c.anneal = .no ∨ 4 ≤ counted then .lockedOut else .withdrawn

/-- The network of a gate conducts: at least two lanes drive it (R70). -/
def conducts (s : State) (bit : Nat) : Bool :=
  decide (2 ≤ (allLanes.filter fun l => natBit (s.ixGates.get l) bit).length)

/-- No frame of a lane stands in its partition, and no test command: a test pulse goes on without it (R71, R273). -/
def dropFrame (s : State) (l : Lane) : State :=
  { s with ix := { s.ix with
    parts := s.ix.parts.set l { s.ix.parts.get l with frame := 0, test := 0 },
    pulse := s.ix.pulse.map fun p => { p with by3 := natSetBit p.by3 l.num false } } }

/-- Every gate of a lane goes off (R71); source 33 when a group's switch opens by it. -/
def gatesOff (s : State) (l : Lane) : State :=
  let s' := { dropFrame s l with ixGates := s.ixGates.set l 0 }
  if conducts s 24 ≠ conducts s' 24 ∨ conducts s 25 ≠ conducts s' 25 then s'.raiseAll 33 else s'

/-- One lane withdraws with a cause (R74): the cause register, source 8 in every controller, the event record, the
history, every gate off (R71), nothing staged; its assay slices end (R382); an anneal in progress ends (R78). A lane that is OFF, WITHDRAWN or
LOCKED_OUT has nothing to withdraw from. A RETIRED lane withdraws too: R93 withdraws a lane whose SYS thread meets an uncorrectable error in
any state, and the table of R73 lists no such step for RETIRED; the model's choice (log entry 48). -/
def laneWithdraw (s : State) (lc : Lane × Cause) : State :=
  let l := lc.1
  let c := lc.2
  let x := s.lane l
  if x.st = .off ∨ x.st = .withdrawn ∨ x.st = .lockedOut then s
  else
    let s := cutLane s l
    let e := s.E
    let hist := if c = .retire then lastHour e x.wdrHist else lastHour e x.wdrHist ++ [e]
    let s := s.setLane l { x with
      st := withdrawnState c hist.length, wdrHist := hist, staged := [], recs := [],
      safe := { x.safe with run := .stopped }, anneal := { x.anneal with step := 0, dirty := [] }, justOut := true,
      time := { x.time with causeClean := false, cleanEpoch := false } }
    let s := (s.setF (LANE_CAUSE_CAUSE l) c.code).setF (LANE_CAUSE_EPOCH l) (e % 16777216)
    let s := gatesOff s l
    let s := (s.raiseAll 8).record 0x01 0x01 l.num (withdrawData c e)
    if x.st = .copy ∨ x.st = .shadow then
      let s := s.setF (LANE_ANNEAL_STEP l) 0
      let s := match c with
        | .annealFail => s.setF (LANE_ANNEAL_RESULT l) 2
        | .staticMismatch => s.setF (LANE_ANNEAL_RESULT l) 3
        | _ => s
      (s.raiseLanes 16).recordRegs 0x01 0x03 l.num [LANE_ANNEAL l]
    else s

/-- Add to a counter of R335; each saturates at 32 bits. -/
def accAdd (s : State) (i k : Nat) : State :=
  { s with pwr := { s.pwr with acc := Store.put (fun _ => 0) s.pwr.acc i (min 4294967295 (Store.get (fun _ => 0) s.pwr.acc i + k)) } }

/-- The entry handshake ends without entry (R326): the preparations are lifted. -/
def handshakeEnd (s : State) : State :=
  ({ s with pwr := { s.pwr with asked := 0 } }.setF PWR_STATE_STATE 0).setF PWR_STATE_STEP 0

/-- Block `b` refuses (R326): its counter, REFUSER, RESULT, source 81, the record. -/
def entryRefused (s : State) (b : Nat) : State :=
  let s := accAdd (handshakeEnd s) (7 + b) 1
  (((s.setF PWR_ENTRY_REFUSER b).setF PWR_ENTRY_RESULT 2).raiseAll 81).record 0x0A 0x03 b []

/-! ### Heartbeats (R297), which a withdrawal sends too -/

def ownId : Nat := Config.uniqueId.toNat

/-- The module is paired (R294). -/
def paired (s : State) : Bool := s.fb PAIR_CFG_EN

def committedE (s : State) : Nat := s.fv PAIR_COMMITTED_HI_E_HI * 2 ^ 32 + s.fv PAIR_COMMITTED_LO_E_LO

def State.updPair (s : State) (f : PairSt → PairSt) : State := { s with pair := f s.pair }

/-- T at the sending of a heartbeat, at most `span` ns after an event `since` ns from the latest strobe; where in it is open (log entry 2). It
does not lie before the receipt it echoes. -/
def sendTime (s : State) (since span : Nat) : Nat := max s.pair.lastAt (s.time.t + since + s.freeVal.toNat % span)

/-- A heartbeat on both links. -/
def sendHeartbeat (s : State) (since span : Nat) : State :=
  let p := s.pair
  let t := sendTime s since span
  let h : Heartbeat := {
    crcOk := true, mode := s.mode.code, mreq := s.fb PAIR_STATUS_MREQ, withdraw := s.mode = .withdrawn, handover := p.switchSt = 2,
    readiness := s.fv PAIR_STATUS_READINESS, rank := s.fv PAIR_CFG_RANK, tick := s.time.tick, id := ownId, e := s.time.epoch, t := t,
    tEcho := p.echo.getD 0, echoAge := if p.echo.isSome then t - p.lastAt else 0, committed := committedE s }
  if paired s then s.drawn.updPair fun p => { p with sent := p.sent ++ [.heartbeat h] } else s

/-- The module withdraws (R62): the remaining lane with LAST_LANE, a lane in COPY or SHADOW with ANNEAL_FAIL, since no two
voting lanes are left to compare with (R78, log entry 7); mode WITHDRAWN at once (R22), mastership no longer requested
(R213); a heartbeat within 10 µs, at a time inside the tick that is open (R297). -/
def moduleWithdraw (s : State) : State :=
  let s := (s.counted.map fun l => (l, Cause.lastLane)).foldl laneWithdraw s
  let s := ((allLanes.filter fun l => (s.lane l).st = .copy ∨ (s.lane l).st = .shadow).map
    fun l => (l, Cause.annealFail)).foldl laneWithdraw s
  let s := sendHeartbeat ({ s with mode := .withdrawn }.setF PAIR_STATUS_MREQ 0) 0 510000
  -- R339: a handshake under way, or an entry accepted and not in effect, ends as a refusal by the lanes
  if s.pwr.asked ≠ 0 then entryRefused s 8 else s

/-- Lanes withdraw together, and the module with them when fewer than two remain STARTING or VOTING (R62). -/
def withdrawMany (s : State) (cs : List (Lane × Cause)) : State :=
  let s' := cs.foldl laneWithdraw s
  if (s.mode = .standby ∨ s.mode = .active) ∧ 2 ≤ s.counted.length ∧ s'.counted.length < 2 then moduleWithdraw s'
  else s'

def withdraw (s : State) (l : Lane) (c : Cause) : State := withdrawMany s [(l, c)]

end Sys2Proof.Machine
end

