-- ==== Sys2Proof/Machine/Interrupt.lean ====
section
/-!
DEFINITION. Interrupt selection, handler entry, thread restart and fault delivery (R93, R94, R98 to R105).

Readings and choices: log entries 17 (DEDUCED), 50 (DEDUCED).
-/

namespace Sys2Proof.Machine

/-- The program memory of an engine: PMEM or MMEM (R100, R116). -/
def progSize : Engine → Nat
  | .lane _ => 0x400000
  | .mgmt => 0x100000

def State.progMem (s : State) : Engine → List Host.Cell
  | .lane l => (s.lane l).mem
  | .mgmt => s.mmem

def State.enabled (s : State) (e : Engine) (n : Nat) : Bool :=
  n < 8 || natBit (s.rd (PIC_ENABLE e (n / 32))).toNat (n % 32)

def holdKey (e : Engine) (g : Nat) : Nat := 16 * e.num + g

def State.held (s : State) (e : Engine) (g : Nat) : Bool := Store.get (fun _ => false) s.holds (holdKey e g)

def State.setHold (s : State) (e : Engine) (g : Nat) (b : Bool) : State :=
  { s with holds := Store.put (fun _ => false) s.holds (holdKey e g) b }

/-- Source `n` is pending, enabled and outside hold-off, whatever GDIS is (R99, R104). -/
def State.ready (s : State) (e : Engine) (n : Nat) : Bool :=
  decide (0 < s.fv (PIC_COUNT_COUNT e n)) && s.enabled e n && (n < 8 || !s.held e (n / 8))

/-- Source `n` is eligible (R99). -/
def State.eligible (s : State) (e : Engine) (n : Nat) : Bool :=
  s.ready e n && (n < 8 || !s.fb (PIC_CTRL_GDIS e))

/-- The eligible source with the lowest number. -/
def State.lowestEligible (s : State) (e : Engine) : Option Nat := (List.range 128).find? fun n => s.eligible e n

/-- Some source of groups 1 to 15 is eligible, or would be but for GDIS (R104). -/
def State.readyAny (s : State) (e : Engine) : Bool := (List.range 128).any fun n => 8 ≤ n && s.ready e n

/-- The controller takes source `n` (R100): CS_ESRC, the count, the group's hold-off timer, the handler state. -/
def selectSource (s : State) (e : Engine) (n : Nat) : State :=
  let s := s.setF (CS_ESRC_SRC e) n
  let s := s.setF (PIC_COUNT_COUNT e n) (s.fv (PIC_COUNT_COUNT e n) - 1)
  let s := (s.setF (PIC_STATUS_CUR_SRC e) n).setF (PIC_STATUS_LAST_SRC e) n
  let s := if 8 ≤ n ∧ s.fv (PIC_HOLDOFF_HOLDOFF e (n / 8)) ≠ 0 then s.setHold e (n / 8) true else s
  s.updThread e.thr fun t => { t with handler := true }

/-- Where the vector of source `n` lies. -/
def vectorAddr (s : State) (e : Engine) (n : Nat) : Nat := s.fv (PIC_VEC_BASE_BASE e) * 8 + 8 * n

/-- The vector table entry of source `n`: none where it lies outside the program memory (R100). -/
def vectorEntry (s : State) (e : Engine) (n : Nat) : Option Word :=
  let a := vectorAddr s e n
  if a + 8 ≤ progSize e then some ((memWord (s.progMem e) a).truncate 32) else none

/-- A thread that issues nothing more until the next module reset, with its event record (R100). -/
def threadDead (s : State) (e : Engine) : State :=
  (s.updThread e.thr fun t => { t with run := .dead }).recordRegs 0x02 0x01 e.num
    [CS_EPC e, CS_EADDR e, CS_EINFO e, CS_ESRC e]

/-- Where the image keeps an engine's entry point, beside its descriptors (R94). -/
def entryKey (e : Engine) : Nat := csKey e + 0x100

/-- Thread restart (R94): files cleared, descriptors reloaded from the image, GDIS 0, RESTARTS counted, source 0 selected at once with CS_EPC
at the entry point. Nothing issues until its entry sequence, which reads the vector, has ended (INTERRUPT_ENTRY, R100). -/
def threadRestart (s : State) (e : Engine) : State :=
  let s := s.updThread e.thr fun t => { ThreadSt.init with run := .restarting, pc := t.pc }
  let s := (List.range 32).foldl (fun s k => s.wr (csKey e + 0x10 + k) (Store.get (fun _ => 0) s.imgRgn (csKey e + 0x10 + k))) s
  let s := (s.setF (PIC_CTRL_GDIS e) 0).incF (CS_STATUS_RESTARTS e)
  let s := s.setF (PIC_COUNT_COUNT e 0) 1
  let s := s.setF (CS_EPC_EPC e) (Store.get (fun _ => 0) s.imgRgn (entryKey e)).toNat
  (selectSource s e 0).recordRegs 0x02 0x01 e.num [CS_EPC e, CS_EADDR e, CS_EINFO e, CS_ESRC e]

/-- What CS_EADDR and CS_EINFO show of a fault (R93, R94). -/
def faultRegs (s : State) (e : Engine) (opc : Nat) (ea : Word) : State :=
  (s.setF (CS_EADDR_EADDR e) ea.toNat).setF (CS_EINFO_OPC e) opc

/-- The entry sequence of a selected source (R100): the handler address from the vector table; a failed entry restarts
the thread, or stops it when it is source 0's own. `bad`: the read met an uncorrectable ECC error. The fault it is has the vector's address, and
no instruction's opcode: 0, which the map lacks (log entry 50). -/
def entrySequence (s : State) (e : Engine) (n : Nat) (bad : Bool) : State :=
  match (if bad then none else vectorEntry s e n) with
  | some a => s.updThread e.thr fun t => { t with pc := a, run := .running }
  | none =>
    let s := faultRegs s e 0 (BitVec.ofNat 32 (vectorAddr s e n))
    if n = 0 then threadDead s e else threadRestart s e

/-- Selection at a selection point in normal flow: CS_EPC takes the address to return to. -/
def enterHandler (s : State) (e : Engine) (n : Nat) (bad : Bool) : State :=
  let s := s.setF (CS_EPC_EPC e) (s.thread e.thr).pc.toNat
  entrySequence (selectSource s e n) e n bad

/-- The faults of R93 and R57. -/
inductive PFault | undef | prot | code | bounds | offline | ecc | vpubOrder | halt | syscall
  deriving DecidableEq, Repr

/-- The cause with which a SAFE fault withdraws its lane (R93). -/
def PFault.cause : PFault → Cause
  | .undef => .illegalOp | .prot => .bounds | .code => .codeFault | .bounds => .bounds | .offline => .offlineAccess
  | .ecc => .eccUncorr | .vpubOrder => .vpubOrder | .halt => .halt | .syscall => .illegalOp

/-- The group 0 source of a SYS or management fault (R93). -/
def PFault.source : PFault → Nat
  | .undef => 1 | .offline => 2 | .bounds => 3 | .syscall => 5 | _ => 4

/-- A group 0 source arises for a plain thread: delivered at the next selection point, or by a restart when the thread is
already in a handler (R93, R94, R105). -/
def plainFault (s : State) (e : Engine) (f : PFault) (opc : Nat) (ea : Word) : State :=
  let s := faultRegs s e opc ea
  match f with
  | .ecc =>
    let s := match e with
      | .lane l => withdraw s l .eccUncorr
      | .mgmt => s
    threadRestart s e
  | f =>
    let s := s.raise e f.source
    if (s.thread e.thr).handler then threadRestart s e
    else s.updThread e.thr fun t => { t with run := .faulted }

/-- Fault delivery (R93): a SAFE fault withdraws the lane; a plain thread's raises its source. -/
def deliverFault (s : State) (t : Thr) (f : PFault) (opc : Nat) (ea : Word) : State :=
  match t with
  | .safe l => withdraw s l f.cause
  | .sys l => plainFault s (.lane l) f opc ea
  | .mgmt => plainFault s .mgmt f opc ea

end Sys2Proof.Machine
end

