-- ==== Sys2Proof/Machine/Rights.lean ====
section
/-!
DEFINITION. Who may reach what: the targets of the address maps (R404 to R408), the rights of R91, the registers the
owning chapters open to the SYS threads (R408), and the blocks that are powered and clocked (R17, R336, R410).

Readings and choices: log entries 18 (DEDUCED), 40 (DEDUCED), 47 (DEDUCED).
-/

namespace Sys2Proof.Machine

/-- What an address names in a thread's view (R143, R404, R407, R408). -/
inductive Target
  | pmem | omem | cmx | routeRegion | lmemSafe | lmemSys | laneReg | snapWin | fabric | mmem | unassigned
  deriving DecidableEq, Repr

/-- The spans of fabric space (R408): contiguous but for the gaps below the time unit, after the target records and after
IX. -/
def inFabricSpan (a : Nat) : Bool :=
  (decide (0x80010000 ≤ a) && decide (a < 0x80228000)) || (decide (0x80300000 ≤ a) && decide (a < 0x80B10000))

/-- LANE_LMEM_SPLIT as an address (R143). -/
def State.lmemSplit (s : State) (l : Lane) : Nat := s.fv (LANE_LMEM_SPLIT_SPLIT l) * 65536

def laneTarget (s : State) (l : Lane) (a : Nat) : Target :=
  if a < 0x400000 then .pmem
  else if 0x01000000 ≤ a ∧ a < 0x01800000 then .omem
  else if 0x02000000 ≤ a ∧ a < 0x02200000 then .cmx
  else if 0x02800000 ≤ a ∧ a < 0x02900000 then .routeRegion
  else if 0x02900000 ≤ a ∧ a < 0x02A00000 then (if a < s.lmemSplit l then .lmemSafe else .lmemSys)
  else if 0x04000000 ≤ a ∧ a < 0x04060000 then .laneReg
  else if 0x06000000 ≤ a ∧ a < 0x06400000 then .snapWin
  else if inFabricSpan a then .fabric
  else .unassigned

def mgmtTarget (a : Nat) : Target :=
  if a < 0x100000 then .mmem else if inFabricSpan a then .fabric else .unassigned

def target (s : State) (t : Thr) (a : Nat) : Target :=
  match t with
  | .safe l => laneTarget s l a
  | .sys l => laneTarget s l a
  | .mgmt => mgmtTarget a

/-- Register space: accesses are 4 bytes wide (R89). -/
def inRegSpace (a : Nat) : Bool := (decide (0x04000000 ≤ a) && decide (a < 0x08000000)) || decide (0x80000000 ≤ a)

/-- The mailbox an address lies in (R408): 0x8060_8000 + 0x400 L. -/
def mbxOf (a : Nat) : Option Lane :=
  if 0x80608000 ≤ a ∧ a < 0x80608400 then some .a
  else if 0x80608400 ≤ a ∧ a < 0x80608800 then some .b
  else if 0x80608800 ≤ a ∧ a < 0x80608C00 then some .c
  else none

/-- The bridge engine port an address lies in: 0 to 2 the lanes', 3 the management engine's (R247, R408). -/
def brgPortOf (a : Nat) : Option Nat :=
  if 0x80208000 ≤ a ∧ a < 0x8020C000 then some ((a - 0x80208000) / 0x1000) else none

def hasShBits (a : Nat) : Bool := decide ((accOf a).sh ≠ 0)

/-- Registers and commands of fabric space that the owning chapters open to lane `l`'s SYS thread (R408). An address that
names nothing ignores the write (R400). -/
def sysOpen (l : Lane) (a : Nat) : Bool :=
  let o := a % 0x10000
  if a < 0x80100000 then
    o = 0x00 || o = 0x04 || o = 0x38 || decide (0x3C ≤ o)
  else if a < 0x80180000 then true
  else if a < 0x80200000 then
    -- another lane's confirm register takes no value from the write, and BAD_CONF counts it (R177)
    a % 0x1000 = 0x0C || a % 0x1000 = 0x10 || a % 0x1000 = 0x14
  else if a < 0x80204000 then o = 0x10 || o = 0x30
  else if a < 0x80206000 then true
  else if a < 0x80208000 then false
  else if a < 0x8020C000 then (a - 0x80208000) / 0x1000 = l.num
  else if a < 0x80300000 then false
  else if a < 0x80301000 then o = 0x0C
  else if a < 0x80310000 then hasShBits a
  else if a < 0x80400000 then hasShBits a
  else if a < 0x80500000 then hasShBits a || o = 0x24 || o = 0x28
  else if a < 0x80600000 then
    -- a request register of another owner is open and ignores the write (R323)
    decide (o < 0x10) || (o = 0x28 && l = .a) || o = 0x2C
  else if a < 0x80608000 then false
  else if a < 0x80700000 then mbxOf a = some l
  else if a < 0x80800000 then false
  else if a < 0x80900000 then o = 0x20 || o = 0x24
  else if a < 0x80A00000 then o = 0x60
  else if a < 0x80B00000 then false
  else hasShBits a

/-- What R91 allows a thread: none where it is allowed; a SAFE access beyond it is a bounds fault, a plain one a protection
fault; an unassigned address is a bounds fault for every thread (R400). -/
def rights (s : State) (t : Thr) (a : Nat) (isWrite : Bool) : Option PFault :=
  match t, target s t a with
  | _, .unassigned => some .bounds
  | .safe _, .lmemSafe => none
  | .safe l, .fabric => if isWrite || (mbxOf a).isSome || ((brgPortOf a).isSome && brgPortOf a ≠ some l.num) then some .bounds else none
  | .safe _, _ => if isWrite then some .bounds else none
  | .sys _, .lmemSys => none
  | .sys _, .laneReg => none
  | .sys _, .snapWin => none
  | .sys l, .fabric =>
    if isWrite then (if sysOpen l a then none else some .prot)
    else if ((mbxOf a).isSome ∧ mbxOf a ≠ some l) ∨ ((brgPortOf a).isSome ∧ brgPortOf a ≠ some l.num) then some .prot else none
  | .sys _, _ => if isWrite then some .prot else none
  | .mgmt, .fabric =>
    if (brgPortOf a).isSome ∧ brgPortOf a ≠ some 3 then some .prot else none
  | .mgmt, _ => none

/-- The rights of the host port (R411): the management view without MMEM, the management interrupt controller and the
mailboxes, and without PWR_RESTART and PWR_REQ_M; a request beyond them is refused by the firmware. -/
def hostRights (a : Nat) (isWrite : Bool) : Bool :=
  inFabricSpan a && !(decide (0x80600000 ≤ a) && decide (a < 0x80609000)) &&
  !(isWrite && (a = 0x80500038 || a = 0x8050000C)) &&
  !((brgPortOf a).isSome && brgPortOf a ≠ some 3)

/-- What MGT serves in each mode (R19, R411): in BOOT the boot status, in WITHDRAWN reads and what the reading of the recorder needs, in every
other mode all that the rights allow (log entry 47). -/
def hostServed (m : Mode) (a : Nat) (isWrite : Bool) : Bool :=
  match m with
  | .boot => !isWrite && (a = SEC_STATUS || a = SEC_BOOT)
  | .withdrawn => !isWrite || a = REC_RD_SEQ_LO || a = REC_RD_SEQ_HI
  | _ => true

/-- The ring whose registers or band an address names. -/
def ringOfAddr (a : Nat) : Option Nat :=
  if 0x80100000 ≤ a ∧ a < 0x80180000 then some ((a - 0x80100000) / 0x10000)
  else if 0x80180000 ≤ a ∧ a < 0x80188000 then some ((a - 0x80180000) / 0x1000)
  else none

/-- Whether the block at a fabric address is powered and clocked (R410). A mailbox of a lane without power is offline, except
LANE_MBX_STAT (R336). -/
def fabricOn (s : State) (a : Nat) : Bool :=
  if s.stabled then
    match mbxOf a with
    | some l => (s.lane l).powered || a % 0x400 = 0xC8
    | none =>
      match ringOfAddr a with
      | some n => s.fb (RING_CTRL_KEEP n)
      | none =>
        decide (a < 0x80100000) || (decide (0x80500000 ≤ a) && decide (a < 0x80700000)) ||
        (decide (0x80800000 ≤ a) && decide (a < 0x80900000)) || decide (0x80B00000 ≤ a) ||
        (decide (0x80330000 ≤ a) && decide (a < 0x80340000))
  else
    match mbxOf a with
    | some l => (s.lane l).powered || a % 0x400 = 0xC8
    | none => true

/-- The ACC_ERR log of an offline access (R336). -/
def accErr (s : State) (i : Init) (a : Nat) (isWrite : Bool) : State :=
  let s := s.setF PWR_ACC_ERR_ADDR_ADDR a
  let s := (s.setF PWR_ACC_ERR_INFO_INITIATOR i.num).setB PWR_ACC_ERR_INFO_WRITE isWrite
  (s.incF PWR_ACC_ERR_INFO_COUNT).raise .mgmt 85

end Sys2Proof.Machine
end

