-- ==== Sys2Proof/Machine/Operands.lean ====
section
/-!
DEFINITION. Operand forms of the Pervo instructions: register operands and their checks (R52, R87, R88, R109), results
and their writeback (R110, R111, R113), effective addresses and region descriptors (R89), object references (R108),
and the frame every instruction runs in (R92, R93, R115, R116).

Readings and choices: log entries 8 (DEDUCED), 15 (DESIGN CHOICE), 17 (DEDUCED).
-/

namespace Sys2Proof.Machine

/-- How an instruction ends: it completes and the next one follows, it completes and control goes elsewhere, or it faults.
In `settled` the next pc already stands. `fail` carries the state in which the fault is delivered (an OSCN keeps the fields already carried, R122). -/
inductive PRes
  | done (s : State)
  | jump (s : State) (pc : Word)
  | settled (s : State)
  | fail (s : State) (f : PFault) (ea : Word)
  deriving Repr

/-- A register operand: which file, which number. -/
structure Reg where
  isP : Bool
  n : Nat
  deriving DecidableEq, Repr

def dst (op : PervoOp) : Reg := ⟨op.x.getLsbD 8, op.d.toNat⟩
def src1 (op : PervoOp) : Reg := ⟨op.x.getLsbD 7, op.s1.toNat⟩
def src2 (op : PervoOp) : Reg := ⟨op.x.getLsbD 6, op.s2.toNat⟩

/-- A P register number is 0 to 15 (R107, R115). -/
def Reg.legal (r : Reg) : Bool := !r.isP || decide (r.n < 16)

def regWord (t : ThreadSt) (r : Reg) : DWord :=
  if r.isP then Store.get (fun _ => 0) t.p r.n else Store.get (fun _ => 0) t.c r.n

def regTag (t : ThreadSt) (r : Reg) : Option Word :=
  if r.isP then Store.get (fun _ => none) t.ptag r.n else Store.get (fun _ => none) t.ctag r.n

/-- The word in a register of a thread. -/
def State.reg (s : State) (t : Thr) (r : Reg) : DWord := regWord (s.thread t) r

/-- The B under which the word was written (R109); 0 where unwritten. -/
def State.tag (s : State) (t : Thr) (r : Reg) : Nat :=
  match regTag (s.thread t) r with
  | some b => b.toNat
  | none => 0

def State.areg (s : State) (t : Thr) (n : Nat) : Word := Store.get (fun _ => 0) (s.thread t).a n

/-- D of the present epoch for a lane: the E of its latest freeze (R29, R126). -/
def State.dNow (s : State) (l : Lane) : Nat := dOf (s.lane l).frozenE

/-- The operand check (R52, R87, R88): written in this epoch, check good, and 0 or 1 in a predicate. Plain operands are
not checked. -/
def opndOk (s : State) (t : Thr) (r : Reg) : Bool :=
  match t with
  | .safe l =>
    match regTag (s.thread t) r with
    | none => false
    | some b => codeOk l (s.reg t r) b.toNat (s.dNow l) && (!r.isP || decide (wordV (s.reg t r) ≤ 1))
  | _ => true

/-- A 32-bit quantity of an operand: v, or bits [63:32] in plain mode (R113). -/
def State.val (s : State) (t : Thr) (r : Reg) : Nat := wordV (s.reg t r)

/-- A predicate operand. -/
def State.pred (s : State) (t : Thr) (r : Reg) : Bool :=
  if t.isSafe then wordV (s.reg t r) = 1 else natBit (s.reg t r).toNat 0

def putReg (t : ThreadSt) (r : Reg) (w : DWord) (tag : Option Word) : ThreadSt :=
  if r.isP then
    { t with p := Store.put (fun _ => 0) t.p r.n w, ptag := Store.put (fun _ => none) t.ptag r.n tag }
  else { t with c := Store.put (fun _ => 0) t.c r.n w, ctag := Store.put (fun _ => none) t.ctag r.n tag }

/-- A plain result: 64 bits into a C register, bit 0 into a P register (R113). -/
def writePlain (s : State) (t : Thr) (r : Reg) (w : DWord) : State :=
  s.updThread t fun x => putReg x r (if r.isP then w &&& 1 else w) none

/-- Writeback of a coded result (R111): the check from the check path against the recomputation, 0 or 1 for a predicate;
the tag becomes the B of the word (R109). -/
def writeback (s : State) (l : Lane) (r : Reg) (v c bd : Nat) : PRes :=
  if c = checkOf l v bd (s.dNow l) ∧ (r.isP → v ≤ 1) then
    .done (s.updThread (.safe l) fun x => putReg x r (mkWord v c) (some (BitVec.ofNat 32 bd)))
  else .fail s .code 0

/-- A result in either mode: `v`, `c` and `bd` for SAFE, `w` for a plain thread. -/
def result (s : State) (t : Thr) (r : Reg) (v c bd : Nat) (w : DWord) : PRes :=
  match t with
  | .safe l => writeback s l r v c bd
  | _ => .done (writePlain s t r w)

/-- A value the lane's code unit codes (R86, R110), or puts in bits [63:32] in plain mode. -/
def codedResult (s : State) (t : Thr) (r : Reg) (v bd : Nat) : PRes :=
  match t with
  | .safe l => writeback s l r v (checkOf l v bd (s.dNow l)) bd
  | _ => .done (writePlain s t r (mkWord v 0))

/-- A predicate result (R124 to R126): v 0 or 1, or bit 0 in plain mode. -/
def predResult (s : State) (t : Thr) (n : Nat) (b : Bool) (bd : Nat) : PRes :=
  match t with
  | .safe l => writeback s l ⟨true, n⟩ (b2n b) (chkTwin (laneA l) (b2n b) bd (s.dNow l)) bd
  | _ => .done (writePlain s t ⟨true, n⟩ (BitVec.ofNat 64 (b2n b)))

/-- IMM as a signature (R110, R115). In plain mode every signature field is ignored (R113, log entry 8). -/
def sigBad (op : PervoOp) : Bool := op.thr.isSafe && decide (codeP ≤ op.imm.toNat)

/-- The 11-bit short signature {S2, X[5:0]} (R110). -/
def shortSS (op : PervoOp) : Nat := op.s2.toNat * 64 + op.x.toNat % 64

/-- X bits `hi..lo`. -/
def xBits (op : PervoOp) (hi lo : Nat) : Nat := op.x.toNat / 2 ^ lo % 2 ^ (hi + 1 - lo)

def immBits (op : PervoOp) (hi lo : Nat) : Nat := getBits op.imm hi lo

/-- Object index and field of an object reference (R108). -/
def objIdx (op : PervoOp) : Nat := immBits op 31 15
def objFld (op : PervoOp) : Nat := immBits op 14 12

/-- An object reference of an instruction other than OBIT: no bit index, IMM[5:0] zero (R115). -/
def objRefBad (op : PervoOp) : Bool := immBits op 11 0 ≠ 0

/-! ### Region descriptors (R89, R90) -/

/-- The key of descriptor n's BASE; its LAST is the next one. -/
def rgnKey : Thr → Nat → Nat
  | .safe l, n => csKey (.lane l) + 0x30 + 2 * n
  | .sys l, n => csKey (.lane l) + 0x10 + 2 * n
  | .mgmt, n => csKey .mgmt + 0x10 + 2 * n

def rgnBase (s : State) (t : Thr) (n : Nat) : Nat := (s.rd (rgnKey t n)).toNat / 8 * 8
def rgnLast (s : State) (t : Thr) (n : Nat) : Nat := (s.rd (rgnKey t n + 1)).toNat / 8 * 8
def rgnR (s : State) (t : Thr) (n : Nat) : Bool := natBit (s.rd (rgnKey t n)).toNat 0
def rgnW (s : State) (t : Thr) (n : Nat) : Bool := natBit (s.rd (rgnKey t n)).toNat 1

/-- EA = An + offset, the offset sign-extended (R89). -/
def effAddr (s : State) (op : PervoOp) : Nat := (s.areg op.thr op.s1.toNat + op.imm).toNat

/-- 8 bytes in memory, 4 in register space (R89). -/
def accSize (a : Nat) : Nat := if inRegSpace a then 4 else 8

/-- The three conditions of R89. -/
def rgnOk (s : State) (t : Thr) (n a size : Nat) (isRead isWrite : Bool) : Bool :=
  decide (rgnBase s t n ≤ a) && decide (a + size - 1 ≤ rgnLast s t n + 7) && a % size = 0 &&
  (!isRead || rgnR s t n) && (!isWrite || rgnW s t n)

/-- W of a short signature (R110). -/
def sigW (s : State) (t : Thr) (n a size : Nat) : Nat := (a - rgnBase s t n) / size

/-- The first fault of an access in the order of R116: protection, bounds, offline. `none` where it may proceed. -/
def accessFault (s : State) (t : Thr) (n a : Nat) (isRead isWrite : Bool) : Option PFault :=
  let r := if isWrite then rights s t a true else rights s t a false
  if r = some .prot then r
  else if !rgnOk s t n a (accSize a) isRead isWrite ∨ r = some .bounds then some .bounds
  else if target s t a = .fabric ∧ !fabricOn s a then some .offline
  else none

/-- A failing access, with the ACC_ERR log of an offline one (R336). -/
def accessFail (s : State) (t : Thr) (f : PFault) (a : Nat) (isWrite : Bool) : PRes :=
  .fail (if f = .offline then accErr s (.thr t) a isWrite else s) f (BitVec.ofNat 32 a)

/-! ### Restrictions by thread (R92) -/

/-- SAFE only; protection in SYS; undefined in the management thread. -/
def onlySafe (t : Thr) : Option PFault :=
  match t with
  | .safe _ => none
  | .sys _ => some .prot
  | .mgmt => some .undef

/-- SAFE and SYS; undefined in the management thread. -/
def notMgmt (t : Thr) : Option PFault :=
  match t with
  | .mgmt => some .undef
  | _ => none

/-- Undefined in SAFE (CSRR, CSRW, SYSCALL, IRET, WAITI). -/
def notSafe (t : Thr) : Option PFault :=
  match t with
  | .safe _ => some .undef
  | _ => none

/-! ### The frame of an instruction -/

/-- A corrected ECC error: source 12 of the engine, CS_ECC counted (R93). -/
def eccCorrected (s : State) (e : Engine) : State := (s.raise e 12).incF (CS_ECC_CORR_CNT e)

def nextPc (s : State) (t : Thr) (pc : Word) : State := s.updThread t fun x => { x with pc := pc }

/-- A fetch must lie in the program memory at a multiple of 8 (R107, R116). -/
def fetchOk (e : Engine) (pc : Word) : Bool := decide (pc.toNat + 8 ≤ progSize e) && pc.toNat % 8 = 0

/-- The end of an instruction. A target outside the program memory faults at its fetch, with CS_EPC there (R116, R130). -/
def retire (s : State) (op : PervoOp) (opc : Nat) (r : PRes) : State :=
  let pc := (s.thread op.thr).pc
  match r with
  | .done s' => nextPc s' op.thr (pc + 8)
  | .settled s' => s'
  | .jump s' a =>
    let s' := nextPc s' op.thr a
    if fetchOk op.thr.engine a then s' else deliverFault s' op.thr .bounds opc 0
  | .fail s' .syscall ea => deliverFault (nextPc s' op.thr (pc + 8)) op.thr .syscall opc ea
  | .fail s' f ea => deliverFault s' op.thr f opc ea

/-- The opcode of an instruction word: its row's, or the one that the map lacks (R117). -/
def opcOf (op : PervoOp) (opc : Nat) : Nat :=
  match op.other with
  | some o => o.toNat
  | none => opc

/-- One instruction of a thread, its faults in the order of R116: fetch, undefined encoding, protection, operand checks, then
what the body meets. An OPC outside the map is an undefined encoding (R115). A thread that is not running issues nothing (R34, R93). -/
def issue (op : PervoOp) (opc : Nat) (und : Bool) (restr : Option PFault) (ops : List Reg)
    (body : State → PRes) (s : State) : State :=
  let t := s.thread op.thr
  if t.run ≠ .running then s
  else
    let s := if op.ecc = .corrected then eccCorrected s op.thr.engine else s
    let r :=
      if !fetchOk op.thr.engine t.pc then .fail s .bounds 0
      else if op.ecc = .fetchUncorr then .fail s .ecc 0
      else if op.other.isSome ∨ und ∨ restr = some .undef then .fail s .undef 0
      else if restr = some .prot then .fail s .prot 0
      else if ops.any fun r => !opndOk s op.thr r then .fail s .code 0
      else body s
    retire s op (opcOf op opc) r

/-- A word read with an uncorrectable error faults after offline and before writeback (R116). -/
def eccGuard (op : PervoOp) (s : State) (ea : Nat) (k : PRes) : PRes :=
  if op.ecc = .dataUncorr then .fail s .ecc (BitVec.ofNat 32 ea) else k

end Sys2Proof.Machine
end

