-- ==== Sys2Proof/Machine/Objects.lean ====
section
/-!
DEFINITION. The object store and the route region (R56, R134 to R136, R138, R143 to R146, R429): field addresses and
signatures, the store path with its sum S and change epoch, the route records and lists.
-/

namespace Sys2Proof.Machine

/-- The lane of a lane thread; object and route instructions never run in the management engine (R92). -/
def laneOf : Thr → Lane
  | .safe l => l | .sys l => l | .mgmt => .a

/-- The lane-view address of field f of object i (R134). -/
def omemAddr (i f : Nat) : Nat := 0x01000000 + 64 * i + 8 * f

def omemWord (s : State) (l : Lane) (i f : Nat) : DWord := memWord (s.lane l).mem (omemAddr i f)

/-- The type map entry of an object (R134). -/
def objType (s : State) (l : Lane) (i : Nat) : Nat := Store.get (fun _ => 0) (s.lane l).typeMap i

/-- B of field f of object i: (SIG(t, f) + i) mod P (R135). -/
def fieldSig (s : State) (l : Lane) (i f : Nat) : Nat :=
  ((s.rd (OBJ_FD_SIG l (8 * objType s l i + f))).toNat + i) % codeP

/-- The element hash H(i, f, v) (R56). -/
def elemHash (i f v : Nat) : BitVec 256 := sha256Num (beBytes 3 i ++ beBytes 1 f ++ beBytes 4 v)

/-- The word of a field passes its check under the field signature for `d`. -/
def fieldOk (s : State) (l : Lane) (i f d : Nat) : Bool := codeOk l (omemWord s l i f) (fieldSig s l i f) d

/-- Write the word of a field. S follows the functional value (R56); the object enters the anneal and tinning dirty maps
(R77, R301). -/
def fieldWrite (s : State) (l : Lane) (i f : Nat) (w : DWord) : State :=
  let old := wordV (omemWord s l i f)
  s.updLane l fun x => { x with
    mem := memSetWord x.mem (omemAddr i f) w,
    osum := if wordV w = old then x.osum else x.osum - elemHash i f old + elemHash i f (wordV w),
    dirty := if wordV w = old ∨ i ∈ x.dirty then x.dirty else x.dirty ++ [i],
    tinDirty := if wordV w = old ∨ i ∈ x.tinDirty then x.tinDirty else x.tinDirty ++ [i] }

/-- The store path of OST (R120, R138): field f of object i takes v under its field signature and the present D; a changed v of
fields 0 to 6 puts CHG = E mod 2,048 into field 7, which must stand at the present D. `none`: a code fault at
writeback, nothing written. -/
def objStore (s : State) (l : Lane) (i f v : Nat) : Option State :=
  let d := s.dNow l
  let w := codeWord l v (fieldSig s l i f) d
  if f ≤ 6 ∧ v ≠ wordV (omemWord s l i f) then
    if fieldOk s l i 7 d then
      let v7 := wordV (omemWord s l i 7) % 2097152 + (s.lane l).frozenE % 2048 * 2097152
      some (fieldWrite (fieldWrite s l i f w) l i 7 (codeWord l v7 (fieldSig s l i 7) d))
    else none
  else some (fieldWrite s l i f w)

/-- One carry of a field (R54, R121): accepted only at D_prev, recoded to the present D, counted in OBJ_CARRY. -/
def carryField (s : State) (l : Lane) (i f : Nat) : Option State :=
  let w := omemWord s l i f
  let e := (s.lane l).frozenE
  if codeOk l w (fieldSig s l i f) (dPrev e) then
    let c := modP ((wordC w : Int) + (dOf e : Int) - dPrev e)
    some ((fieldWrite s l i f (mkWord (wordV w) c)).updLane l fun x => { x with carried := x.carried + 1 })
  else none

/-! ### The route region (R143 to R146) -/

/-- W of a word of the route region, and its address. -/
def routeWordAddr (w : Nat) : Nat := 0x02800000 + 8 * w

/-- A word of the route region: its v, where its static check (D = 0) is good (R144). -/
def routeWord (s : State) (l : Lane) (w : Nat) : Option Nat :=
  let x := memWord (s.lane l).mem (routeWordAddr w)
  if codeOk l x (shortSig (s.fv (RTE_RSS_RSS l)) w) 0 then some (wordV x) else none

/-- Word k of route r's record. -/
def routeRec (s : State) (l : Lane) (r k : Nat) : Option Nat := routeWord s l (16 * r + k)

/-- A list of the list area: pointer and count to entries (object, REQ) (R146). -/
def routeList (s : State) (l : Lane) (ptr : Nat) : Nat → Option (List (Nat × Nat))
  | 0 => some []
  | n + 1 =>
    match routeWord s l (65536 + ptr % 65536), routeList s l (ptr + 1) n with
    | some v, some r => some ((v / 32768, v / 8192 % 4) :: r)
    | _, _ => none

/-- List `k` of route r: word 1 elements, word 2 overlap, word 3 flank set. -/
def routeListOf (s : State) (l : Lane) (r k : Nat) : Option (List (Nat × Nat)) :=
  match routeRec s l r k with
  | some v => routeList s l (v / 65536) (v % 256)
  | none => none

/-- Row r of the conflict matrix, CMX(r, 0) first (R429). -/
def cmxRow (s : State) (l : Lane) (r : Nat) : BitVec 4096 :=
  BitVec.ofNat 4096 (ofBytes (memBytes (s.lane l).mem (0x02000000 + 512 * r) 512))

/-- The locked-route vector is kept route 0 first, as R58 orders it: route r is bit 4095 - r of the number. -/
def lockedAt (v : BitVec 4096) (r : Nat) : Bool := v.getMsbD r

def lockBit (r : Nat) : BitVec 4096 := BitVec.ofNat 4096 (2 ^ (4095 - r))

/-- The RTREQ test (R150): not locked, and no conflicting route locked. -/
def routeFree (s : State) (l : Lane) (r : Nat) : Bool :=
  !lockedAt (s.lane l).locked r && (cmxRow s l r &&& (s.lane l).locked) = 0

/-- The twin unit's test from the complemented row and vector (R124): no position where both complements are 0. -/
def routeFreeTwin (s : State) (l : Lane) (r : Nat) : Bool :=
  !lockedAt (s.lane l).locked r && (~~~ (cmxRow s l r) ||| ~~~ (s.lane l).locked) = BitVec.allOnes 4096

/-! ### Element flags (R136, R140) -/

def hdrFresh (v : Nat) : Bool := natBit v 7
def hdrStale (v : Nat) : Bool := natBit v 6
def hdrForced (v : Nat) : Bool := natBit v 5
def hdrBlocked (v : Nat) : Bool := natBit v 4

/-- v of a field as the route engine reads it: for the SAFE thread with its check at the present D (R153), for SYS plain
(R85). -/
def fieldV (s : State) (t : Thr) (l : Lane) (i f : Nat) : Option Nat :=
  if t.isSafe ∧ ¬ fieldOk s l i f (s.dNow l) then none else some (wordV (omemWord s l i f))

end Sys2Proof.Machine
end

