-- ==== Sys2Proof/Machine/PervoMsg.lean ====
section
/-!
DEFINITION. The snapshot reads, the build buffers and the publications of the SAFE thread (R57, R66, R67, R127 to R129).

Readings and choices: log entries 17 (DEDUCED), 50 (DEDUCED).
-/

namespace Sys2Proof.Machine

/-- SLRD and HXRECV: the 4-byte word at EA of the snapshot window, coded at the load. `lo`, `hi`: where EA shall lie; elsewhere it is a
bounds fault, which comes after protection and before offline (R116, R127). -/
def snapRead (op : PervoOp) (lo hi : Nat) (s : State) : PRes :=
  let t := op.thr
  let a := effAddr s op
  let r := accessFault s t op.s1.toNat a true false
  match (if r ≠ some .prot ∧ (a < lo ∨ hi < a) then some .bounds else r) with
  | some f => accessFail s t f a false
  | none =>
    eccGuard op s a (
      let v := Store.get (fun _ => 0) (s.lane (laneOf t)).snap a
      codedResult s t ⟨false, op.d.toNat⟩ v.toNat (shortSig (shortSS op) (sigW s t op.s1.toNat a 4)))

def execSlrd (op : PervoOp) (s : State) : Host.Outcome State Fault Refusal :=
  .next (issue op 0x50 (xBits op 8 6 ≠ 0 || decide (16 ≤ op.s1.toNat)) (notMgmt op.thr) []
    (snapRead op 0x06000000 0x062FFFFF) s)

def execHxrecv (op : PervoOp) (s : State) : Host.Outcome State Fault Refusal :=
  .next (issue op 0x53 (xBits op 8 6 ≠ 0 || decide (16 ≤ op.s1.toNat)) (notMgmt op.thr) []
    (snapRead op 0x06300000 0x063FFFFF) s)

/-- A slice record of this epoch for (ring, position). -/
def slicePublished (x : LaneSt) (ring pos : Nat) : Bool :=
  x.recs.any fun r => match r with
    | .slice g p _ => g = ring && p = pos
    | .hexlo _ _ _ => false

/-- A Hexlo record of this epoch for the session. -/
def hexloPublished (x : LaneSt) (ses : Nat) : Bool :=
  x.recs.any fun r => match r with
    | .hexlo n _ _ => n = ses
    | .slice _ _ _ => false

/-- The image's ring plan gives (ring, position) a down-slice (R127, R342). -/
def State.hasDownSlice (s : State) (ring pos : Nat) : Bool :=
  Store.get (fun _ => false) s.planDn (ring * 256 + pos)

/-- The word index: the field of IMM, plus v of S2 when X[0] = 1 (R127). -/
def buildIndex (s : State) (op : PervoOp) (field : Nat) : Nat :=
  field + (if op.x.getLsbD 0 then s.val op.thr ⟨false, op.s2.toNat⟩ else 0)

/-- Operands of SLWR and HXSEND: the source, and the index register when used. -/
def buildOpnds (op : PervoOp) : List Reg :=
  ⟨false, op.d.toNat⟩ :: (if op.x.getLsbD 0 then [⟨false, op.s2.toNat⟩] else [])

def buildUnd (op : PervoOp) : Bool := op.s1 ≠ 0 || xBits op 8 1 ≠ 0 || (!op.x.getLsbD 0 && op.s2 ≠ 0)

def slwrBody (op : PervoOp) (s : State) : PRes :=
  let l := laneOf op.thr
  let ring := immBits op 31 29
  let pos := immBits op 28 21
  let k := buildIndex s op (immBits op 20 13)
  if 256 ≤ k ∨ ¬ s.hasDownSlice ring pos ∨ slicePublished (s.lane l) ring pos then .fail s .bounds 0
  else .done (s.updLane l fun x => { x with
    slBuild := Store.put (fun _ => 0) x.slBuild ((ring * 256 + pos) * 256 + k)
      (BitVec.ofNat 32 (s.val op.thr ⟨false, op.d.toNat⟩)) })

def execSlwr (op : PervoOp) (s : State) : Host.Outcome State Fault Refusal :=
  .next (issue op 0x51 (buildUnd op || immBits op 12 0 ≠ 0 || immBits op 28 21 = 255) (onlySafe op.thr) (buildOpnds op)
    (slwrBody op) s)

def hxsendBody (op : PervoOp) (s : State) : PRes :=
  let l := laneOf op.thr
  let ses := immBits op 31 25
  let k := buildIndex s op (immBits op 24 17)
  if 256 ≤ k ∨ ¬ s.fb (HXL_SCFG0_EN ses) ∨ hexloPublished (s.lane l) ses then .fail s .bounds 0
  else .done (s.updLane l fun x => { x with
    hxBuild := Store.put (fun _ => 0) x.hxBuild (ses * 256 + k)
      (BitVec.ofNat 32 (s.val op.thr ⟨false, op.d.toNat⟩)) })

def execHxsend (op : PervoOp) (s : State) : Host.Outcome State Fault Refusal :=
  .next (issue op 0x52 (buildUnd op || immBits op 16 0 ≠ 0 || immBits op 31 25 = 0) (onlySafe op.thr) (buildOpnds op)
    (hxsendBody op) s)

/-! ### Publication -/

/-- Keys of R57 in their order. -/
def keyLt (a b : Nat × Nat × Nat) : Bool :=
  decide (a.1 < b.1) || (a.1 = b.1 && (decide (a.2.1 < b.2.1) || (a.2.1 = b.2.1 && decide (a.2.2 < b.2.2))))

/-- A record's key is greater than the previous key of the epoch (R57). -/
def keyOk (x : LaneSt) (k : Nat × Nat × Nat) : Bool :=
  match x.lastKey with
  | none => true
  | some p => keyLt p k

/-- The first n bytes of a build buffer (R128). -/
def buildPayload (b : Store Word) (base n : Nat) : List Byte :=
  (wordsBytes (Store.getList (fun _ => 0) b base 256)).take n

def vpubLocalBody (op : PervoOp) (s : State) : PRes :=
  let l := laneOf op.thr
  if ¬ keyOk (s.lane l) (0, 0, 0) then .fail s .vpubOrder 0
  else .done (s.updLane l fun x => { x with
    localWord := some (BitVec.ofNat 32 (s.val op.thr ⟨false, op.s1.toNat⟩)), lastKey := some (0, 0, 0) })

/-- X[1:0] reads 0 here but in a word of the kind 3, which is undefined (R128). -/
def execVpubLocal (op : PervoOp) (s : State) : Host.Outcome State Fault Refusal :=
  .next (issue op 0x58 (op.d ≠ 0 || op.s2 ≠ 0 || op.x ≠ 0 || op.imm ≠ 0) (onlySafe op.thr) [⟨false, op.s1.toNat⟩]
    (vpubLocalBody op) s)

/-- The record enters the output vector and its plane the staging store, with the lane's code (R66, R67). -/
def publish (s : State) (l : Lane) (k : Nat × Nat × Nat) (r : OutRec) (slot : Nat) (str : List Byte) : State :=
  let code := s.makeCode l slot str
  s.updLane l fun x => { x with recs := x.recs ++ [r], lastKey := some k, staged := x.staged ++ [⟨r, code⟩] }

/-- Kind 1: L from S2, the payload from the build buffer; L = 0 publishes nothing (R10, R128), and where BND holds too, the fault comes first
(log entry 50). -/
def vpubSliceBody (op : PervoOp) (s : State) : PRes :=
  let l := laneOf op.thr
  let ring := immBits op 31 29
  let pos := immBits op 28 21
  let len := s.val op.thr ⟨false, op.s2.toNat⟩
  if 1024 < len ∨ ¬ s.hasDownSlice ring pos then .fail s .bounds 0
  else if len = 0 then .done s
  else if ¬ keyOk (s.lane l) (1, ring, pos) then .fail s .vpubOrder 0
  else
    let p := buildPayload (s.lane l).slBuild ((ring * 256 + pos) * 256) len
    let topo := Store.get (fun _ => 0) (s.lane l).frozenTopo ring
    .done (publish s l (1, ring, pos) (.slice ring pos p) (slotDown ring) (downString ring pos topo (s.lane l).frozenE p))

def execVpubSlice (op : PervoOp) (s : State) : Host.Outcome State Fault Refusal :=
  .next (issue op 0x58 (op.d ≠ 0 || op.s1 ≠ 0 || xBits op 8 2 ≠ 0 || immBits op 20 0 ≠ 0 || immBits op 28 21 = 255)
    (onlySafe op.thr) [⟨false, op.s2.toNat⟩] (vpubSliceBody op) s)

/-- The topology counter of a session's codes: of its ring when TOPO_USE is set, else 0 (R66, R223). -/
def sessionTopo (s : State) (l : Lane) (ses : Nat) : Nat :=
  if s.fb (HXL_SCFG0_TOPO_USE ses) then Store.get (fun _ => 0) (s.lane l).frozenTopo (s.fv (HXL_SCFG0_TOPO_RING ses)) else 0

/-- Kind 2: S1 the sequence number, S2 the length; one record for each session and epoch (R128); BND before L = 0, as for kind 1. -/
def vpubHexloBody (op : PervoOp) (s : State) : PRes :=
  let l := laneOf op.thr
  let ses := immBits op 31 25
  let seq := s.val op.thr ⟨false, op.s1.toNat⟩
  let len := s.val op.thr ⟨false, op.s2.toNat⟩
  if 1024 < len ∨ ¬ s.fb (HXL_SCFG0_EN ses) ∨ hexloPublished (s.lane l) ses then .fail s .bounds 0
  else if len = 0 then .done s
  else if ¬ keyOk (s.lane l) (2, ses, seq) then .fail s .vpubOrder 0
  else
    let p := buildPayload (s.lane l).hxBuild (ses * 256) len
    let str := hexloString ses (sessionTopo s l ses) (s.lane l).frozenE seq (s.rd (HXL_SLOCAL_ID ses)).toNat
      (s.rd (HXL_SPEER_ID ses)).toNat p
    .done (publish s l (2, ses, seq) (.hexlo ses seq p) (slotOut ses) str)

def execVpubHexlo (op : PervoOp) (s : State) : Host.Outcome State Fault Refusal :=
  .next (issue op 0x58 (op.d ≠ 0 || xBits op 8 2 ≠ 0 || immBits op 24 0 ≠ 0 || immBits op 31 25 = 0) (onlySafe op.thr)
    [⟨false, op.s1.toNat⟩, ⟨false, op.s2.toNat⟩] (vpubHexloBody op) s)

/-! ### The epoch digest (R58) -/

def recordBytes : OutRec → List Byte
  | .slice ring pos p => [0x01] ++ beBytes 1 ring ++ beBytes 1 pos ++ beBytes 2 p.length ++ p
  | .hexlo ses seq p => [0x02] ++ beBytes 1 ses ++ beBytes 4 seq ++ beBytes 2 p.length ++ p

/-- The local output word: 0 where none was published (R129). -/
def localWordOf (x : LaneSt) : Word := x.localWord.getD 0

/-- The image digest of the hallmark in force (R58). -/
def imageDigestBytes (s : State) : List Byte := wordsBytes ((List.range 8).map fun k => s.rd (SEC_IMAGE_DIGEST k))

/-- The string the vote unit hashes (R58). -/
def digestString (s : State) (l : Lane) : List Byte :=
  let x := s.lane l
  [0x01, 0x00] ++ beBytes 6 x.frozenE ++ imageDigestBytes s ++ beBytes 4 (localWordOf x).toNat ++
  x.recs.flatMap recordBytes ++ beBytes 32 x.osum.toNat ++ beBytes 512 x.locked.toNat

def epochDigest (s : State) (l : Lane) : BitVec 256 := sha256Num (digestString s l)

end Sys2Proof.Machine
end

