-- ==== Sys2Proof/Machine/Vote.lean ====
section
/-!
DEFINITION. The epoch digest exchange and the vote (R33, R58 to R64), the lane links (R63), plane release and selection
(R67, R68), deliberate retirement and the deep assay's end (R81, R82, R380).

Readings and choices: log entries 21 (DEDUCED), 22 (DESIGN CHOICE).
-/

namespace Sys2Proof.Machine

/-! ### Lane links (R63) -/

/-- The link between two lanes is up. -/
def linkUp (s : State) (l m : Lane) : Bool :=
  if m = l.succ then s.fb (LANE_LINK_STAT_UP_NEXT l) else s.fb (LANE_LINK_STAT_UP_PREV l)

/-- Set the link from lane l to the next one, at both ends. -/
def setLink (s : State) (l : Lane) (up : Bool) : State :=
  (s.setB (LANE_LINK_STAT_UP_NEXT l) up).setB (LANE_LINK_STAT_UP_PREV l.succ) up

/-- A link event reaches both lanes and the recorder; the link is named by its first lane: 0 A-B, 1 B-C, 2 C-A. -/
def linkEvent (s : State) (l : Lane) : State :=
  ((s.raise (.lane l) 13).raise (.lane l.succ) 13).record 0x01 0x04 l.num []

/-- The anneal in progress: the annealer. -/
def annealer (s : State) : Option Lane := allLanes.find? fun l => (s.lane l).anneal.step ≠ 0

/-- LANE_LINK_DOWN (R63): the down bit, the record; the donor link going down ends an anneal (R78). -/
def execLaneLinkDown (l : Lane) (s : State) : Host.Outcome State Fault Refusal :=
  .next (
    if ¬ linkUp s l l.succ then s
    else
      let s := setLink s l false
      let s := (s.incF (LANE_LINK_STAT_DOWN_CNT l)).incF (LANE_LINK_STAT_DOWN_CNT l.succ)
      let s := linkEvent s l
      match annealer s with
      | some m =>
        let d := (s.lane m).anneal.donor
        if (m = l ∧ d = l.succ) ∨ (m = l.succ ∧ d = l) then withdraw s m .annealFail else s
      | none => s)

/-- LANE_LINK_UP (R63). -/
def execLaneLinkUp (l : Lane) (s : State) : Host.Outcome State Fault Refusal :=
  .next (if linkUp s l l.succ then s else linkEvent (setLink s l true) l)

/-! ### The vote at tick 16 (R33, R58, R60) -/

/-- A lane that takes part in the exchange (R60). -/
def takesPart (x : LaneSt) : Bool := x.st.counted || x.st = .shadow

/-- R33: the SAFE thread has not retired EPOCHEND. -/
def overran (x : LaneSt) : Bool := takesPart x && x.safe.run ≠ .ended

/-- The digest of 32 bytes in LANE_DIGEST_0 to _7. -/
def showDigest (s : State) (l : Lane) (d : BitVec 256) : State :=
  (List.range 8).foldl (fun s k => s.wr (LANE_DIGEST l k) (BitVec.ofNat 32 (d.toNat / 2 ^ (32 * (7 - k))))) s

/-- Finalise one lane's digest at the tick 16 strobe (R58); a lane that takes no part has none. -/
def finalise (s : State) (l : Lane) : State :=
  let x := s.lane l
  let run := x.vote.agreeRun
  let s := s.wr (LANE_VOTE l) 0
  if takesPart x then
    let d := epochDigest s l
    showDigest (s.setLane l { x with vote := { VoteSt.init with digest := some d, voter := x.st.counted, agreeRun := run } }) l d
  else s.setLane l { x with vote := VoteSt.init }

/-- FX compares the planes of the voters in tick 16 (R68): what they have staged. -/
def comparePlanes (s : State) : State :=
  let p := fun (l : Lane) => if (s.lane l).vote.voter then some (s.lane l).staged else none
  { s with fx := { s.fx with cmp := ⟨p .a, p .b, p .c⟩ } }

/-- The tick 16 strobe: overruns withdraw (R33), digests are finalised (R58), planes are compared (R68). -/
def voteTick16 (s : State) : State :=
  let late := (allLanes.filter fun l => overran (s.lane l)).map fun l => (l, Cause.overrun)
  comparePlanes ((withdrawMany s late).forLanes finalise)

/-- Round 1 lasts until the first report of round 2 (R60). -/
def round1Open (s : State) : Bool :=
  allLanes.all fun l => allLanes.all fun m => (s.lane l).vote.report.get m = none

/-- A message of the exchange can pass: the module is between the tick 16 and tick 17 strobes, both lanes take part, their link
is up. -/
def exchangeOpen (s : State) (src dst : Lane) : Bool :=
  s.time.tick = 16 && src ≠ dst && takesPart (s.lane src) && takesPart (s.lane dst) && linkUp s src dst

/-- L's own agreement bit for M (R60, R64): M's digest, not a shadow one, arrived and equals L's. -/
def agreeBit (s : State) (l m : Lane) : Bool :=
  let v := (s.lane l).vote
  match v.rx.get m, v.digest with
  | some d, some own => !v.rxShadow.get m && d = own
  | _, _ => false

/-- Lane m's bit in a three-lane field. -/
def laneBit (m : Lane) : Nat := 2 ^ m.num

/-- A Boolean for each lane as a field, lane A in bit 0. -/
def laneMask (f : Lane → Bool) : Nat := bitsOf (allLanes.map f)

/-- VOTE_ROUND1_DIGEST (R60): a digest reaches another lane; a shadow digest is marked and never counted (R64). -/
def execVoteRound1Digest (src dst : Lane) (s : State) : Host.Outcome State Fault Refusal :=
  .next (
    if ¬ (exchangeOpen s src dst ∧ round1Open s) then s
    else
      let sh : Bool := (s.lane src).st = .shadow
      let d := (s.lane src).vote.digest
      let s := s.updLane dst fun x => { x with
        vote := { x.vote with rx := x.vote.rx.set src d, rxShadow := x.vote.rxShadow.set src sh } }
      if sh then s.setF (LANE_VOTE_SHADOW_IN dst) (Nat.lor (s.fv (LANE_VOTE_SHADOW_IN dst)) (laneBit src))
      else
        (s.setF (LANE_VOTE_DIGEST_RX dst) (Nat.lor (s.fv (LANE_VOTE_DIGEST_RX dst)) (laneBit src))).setF
          (LANE_VOTE_AGREE dst) (laneMask fun m => agreeBit s dst m))

/-- The agreement bits lane l reports (R60). -/
def agreement (s : State) (l : Lane) : Nat := laneMask fun m => agreeBit s l m

/-- VOTE_ROUND2_AGREEMENT (R60): a lane's agreement bits reach another lane. -/
def execVoteRound2Agreement (src dst : Lane) (s : State) : Host.Outcome State Fault Refusal :=
  .next (
    if ¬ exchangeOpen s src dst then s
    else
      let r := agreement s src
      s.updLane dst fun x => { x with vote := { x.vote with report := x.vote.report.set src (some r) } })

/-! ### The decision at tick 17 (R61) -/

/-- The report of lane m, as lane l received it, has lane k's bit. -/
def reportBit (s : State) (l m k : Lane) : Bool :=
  match (s.lane l).vote.report.get m with
  | some r => natBit r k.num
  | none => false

/-- Mutual agreement of L with M (R61). -/
def mutualWith (s : State) (l m : Lane) : Bool := l ≠ m && agreeBit s l m && reportBit s l m l

/-- The lanes that were STARTING or VOTING at the vote. -/
def voters (s : State) : List Lane := allLanes.filter fun l => (s.lane l).vote.voter

/-- The digest of M as L received it, counted ones only. -/
def heard (s : State) (l m : Lane) : Option (BitVec 256) :=
  let v := (s.lane l).vote
  if v.rxShadow.get m then none else v.rx.get m

/-- What R61 decides for lane l: the first row that applies. `none`: it continues. -/
def voteCause (s : State) (l : Lane) : Option Cause :=
  let own := (s.lane l).vote.digest
  let n := (voters s).length
  let m := l.succ
  let k := l.prev
  if mutualWith s l m ∨ mutualWith s l k then none
  else if reportBit s l m k ∧ reportBit s l k m then some .minority
  else if n = 3 ∧ heard s l m ≠ none ∧ heard s l k ≠ none ∧ heard s l m ≠ own ∧ heard s l k ≠ own ∧
      heard s l m ≠ heard s l k then some .noMajority
  else if n = 2 ∧ (((s.lane m).vote.voter ∧ heard s l m ≠ none ∧ heard s l m ≠ own) ∨
      ((s.lane k).vote.voter ∧ heard s l k ≠ none ∧ heard s l k ≠ own)) then some .disagree
  else some .noPeer

/-- The voters that continue. -/
def continuing (s : State) : List Lane := (voters s).filter fun l => (s.lane l).st.counted ∧ voteCause s l = none

/-- The vote found all three lanes in agreement (R81). -/
def allThreeAgree (s : State) : Bool := (continuing s).length = 3

/-- LANE_VOTE of a voter: MUTUAL and OUTCOME. -/
def showVote (s0 s : State) (l : Lane) : State :=
  if (s0.lane l).vote.voter then
    let out := if l ∉ continuing s0 then 4 else if allThreeAgree s0 then 1 else if (voters s0).length = 3 then 2 else 3
    (s.setF (LANE_VOTE_MUTUAL l) (laneMask fun m => mutualWith s0 l m)).setF (LANE_VOTE_OUTCOME l) out
  else s

/-- Two consecutive agreements make a STARTING lane VOTING (R73). -/
def countAgreement (s : State) (l : Lane) : State :=
  s.updLane l fun x =>
    if x.vote.voter ∧ x.st.counted then
      let n := x.vote.agreeRun + 1
      { x with st := if 2 ≤ n ∧ x.st = .starting then .voting else x.st, vote := { x.vote with agreeRun := n } }
    else { x with vote := { x.vote with agreeRun := 0 } }

/-- The shadow digest reached both VOTING lanes and equals theirs (R73, R78). -/
def shadowAgrees (s : State) (l : Lane) : Bool :=
  (s.voting.length = 2) && s.voting.all fun m =>
    (s.lane m).vote.rxShadow.get l && ((s.lane m).vote.rx.get l = (s.lane m).vote.digest) &&
    ((s.lane l).vote.digest = (s.lane m).vote.digest)

/-- The withdrawals of the vote: every voter without mutual agreement, and a shadow that disagrees (R61, R78). -/
def voteWithdrawals (s : State) : List (Lane × Cause) :=
  allLanes.filterMap fun l =>
    let x := s.lane l
    if x.vote.voter ∧ x.st.counted then (voteCause s l).map fun c => (l, c)
    else if x.st = .shadow ∧ x.vote.digest ≠ none ∧ ¬ shadowAgrees s l then some (l, .annealFail)
    else none

/-- R73, R79: after the second agreeing shadow epoch the annealer is VOTING. -/
def rejoin (s : State) (l : Lane) : State :=
  let x := s.lane l
  if x.st = .shadow ∧ x.anneal.step = 4 ∧ x.vote.digest ≠ none then
    let s := s.setLane l { x with st := .voting, anneal := { x.anneal with step := 0, dirty := [] } }
    let s := (s.setF (LANE_ANNEAL_STEP l) 0).setF (LANE_ANNEAL_RESULT l) 1
    (s.raiseLanes 16).recordRegs 0x01 0x03 l.num [LANE_ANNEAL l]
  else s

/-! ### Retirement (R81) -/

/-- What a reader of LANE_RETIRE learns: STATUS and REFUSE in every lane, source 17, the record for the lane named. -/
def retireStatus (s : State) (l : Lane) (status refuse : Nat) : State :=
  let s := s.forLanes fun s m => (s.setF (LANE_RETIRE_STATUS m) status).setF (LANE_RETIRE_REFUSE m) refuse
  (s.raiseLanes 17).recordRegs 0x01 0x05 l.num [LANE_RETIRE l]

def clearRequests (s : State) : State := s.forLanes fun s l => s.updLane l fun x => { x with retireReq := 0 }

/-- Why a retirement of lane t that both peers have requested is refused; 0: it is accepted. -/
def retireRefusal (s : State) (agreed : Bool) (t : Lane) : Nat :=
  bitsOf [!(agreed && s.voting.length = 3), !s.fb (LANE_CTRL_RETIRE_OK t), !(s.mode = .standby || s.mode = .active),
    (annealer s).isSome || s.prepared 8]

/-- The lane that both other lanes have requested. -/
def requestedBoth (s : State) : Option Lane :=
  allLanes.find? fun t => (otherLanes t).all fun m => (s.lane m).retireReq = t.num + 1

/-- Two lanes have requested different targets, neither its own retirement. -/
def requestsDiffer (s : State) : Bool :=
  allLanes.any fun l => allLanes.any fun m =>
    let x := (s.lane l).retireReq
    let y := (s.lane m).retireReq
    x ≠ 0 && y ≠ 0 && x ≠ y && x ≠ l.num + 1 && y ≠ m.num + 1

/-- RETIREMENT_ACCEPT (R81) at the tick 17 strobe, after the vote: the target releases nothing and its gates go off. `agreed`:
the vote found all three in agreement. -/
def retireTick17 (s : State) (agreed : Bool) : State :=
  match requestedBoth s with
  | some t =>
    let r := retireRefusal s agreed t
    let s := clearRequests s
    if r ≠ 0 then retireStatus s t 3 r
    else
      let s := s.updLane t fun x => { x with
        st := .retired, staged := [], recs := [], pub := 0, safe := { x.safe with run := .stopped }, deep := none, anneal := { x.anneal with passed := false } }
      let s := gatesOff s t
      retireStatus s t 2 0
  | none =>
    if requestsDiffer s then
      let l := (allLanes.find? fun l => (s.lane l).retireReq ≠ 0).getD .a
      retireStatus (clearRequests s) l 3 16
    else s

/-- LANE_RETIRE_REQUEST (R81): the SYS thread of a lane writes TARGET; 0b00 withdraws the lane's request. -/
def retireRequest (s : State) (l : Lane) (target : Nat) : State :=
  if (s.lane l).powered then
    let s := s.updLane l fun x => { x with retireReq := target }
    (s.setF (LANE_RETIRE_STATUS l) (if target = 0 then 0 else 1)).setF (LANE_RETIRE_REFUSE l) 0
  else s

def execLaneRetireRequest (l : Lane) (target : BitVec 2) (s : State) : Host.Outcome State Fault Refusal :=
  .next (retireRequest s l target.toNat)

/-- The end of a deep assay (R82, R377, R380): PASS leads to an anneal at the next tick 0 (R73), FAIL latches the lane out, INCOMPLETE
leaves it WITHDRAWN with RETIRE. -/
def deepEnd (s : State) (l : Lane) (r : AssayResult) : State :=
  let x := s.lane l
  if x.st ≠ .retired ∨ x.deep = none then s
  else
    let s := s.setLane l { x with deep := none, anneal := { x.anneal with passed := r = .pass } }
    let e0 := x.deep.getD 0
    let s := (s.setF (AST_LANE_DEEP_ELAPSED l) (min 255 ((s.E - e0) / 100))).setF (AST_LANE_DEEP_PHASE l) 4
    let s := s.setF (AST_LANE_DEEP_RESULT l) (match r with | .pass => 1 | .fail => 2 | .incomplete => 3)
    let s := retireStatus s l (match r with | .pass => 5 | .fail => 6 | .incomplete => 7) 0
    let s := (s.raise (.lane l) 103).raise .mgmt 103
    match r with
    | .pass => s
    | .fail => withdraw s l .assayFail
    | .incomplete => withdraw s l .retire

def execDeepAssayEnd (l : Lane) (r : AssayResult) (s : State) : Host.Outcome State Fault Refusal := .next (deepEnd s l r)

/-- The 120 s limit cuts the deep assay short: INCOMPLETE (R82, R380). -/
def execDeepAssayTimeout (l : Lane) (s : State) : Host.Outcome State Fault Refusal := .next (deepEnd s l .incomplete)

/-! ### Release and selection (R67, R68) -/

/-- What names a plane: a slice's (ring, position), a message's session. -/
inductive PlaneKey | slice (ring pos : Nat) | hexlo (ses : Nat)
  deriving DecidableEq, Repr

def OutRec.key : OutRec → PlaneKey
  | .slice r p _ => .slice r p
  | .hexlo n _ _ => .hexlo n

def OutRec.payload : OutRec → List Byte
  | .slice _ _ p => p
  | .hexlo _ _ p => p

def OutRec.seq : OutRec → Nat
  | .slice _ _ _ => 0
  | .hexlo _ n _ => n

/-- The plane a lane releases under a key: only a STARTING or VOTING lane releases (R67, R72). -/
def releasedPlane (s : State) (k : PlaneKey) (l : Lane) : Option Plane :=
  if (s.lane l).st.counted then (s.lane l).staged.find? fun p => p.out.key = k else none

/-- The released planes of a pair match byte for byte (R68). -/
def pairMatches (s : State) (k : PlaneKey) (pair : Nat) : Bool :=
  match pairLanes pair with
  | some (l, m) =>
    match releasedPlane s k l, releasedPlane s k m with
    | some p, some q => p.out.payload = q.out.payload
    | _, _ => false
  | none => false

/-- The pair FX sends with: the rotation pair when it matches, otherwise the first match in the order AB, BC, CA (R68). -/
def choosePair (s : State) (e : Nat) (k : PlaneKey) : Nat :=
  ((rotationPair e :: [1, 2, 3]).find? fun p => pairMatches s k p).getD 0

/-- A lane's plane under a key as FX compared it in tick 16: none where the lane did not vote; a plane that is missing is `some none`. -/
def comparedPlane (s : State) (k : PlaneKey) (l : Lane) : Option (Option (List Byte)) :=
  (s.fx.cmp.get l).map fun ps => (ps.find? fun p => p.out.key = k).map fun p => p.out.payload

/-- The lanes whose plane equals the payload sent. -/
def agreeWith (s : State) (k : PlaneKey) (pl : List Byte) : Nat := laneMask fun l => comparedPlane s k l = some (some pl)

/-- The planes under a key differ (R68): a voter's plane differs from another's, or is missing. A lane that the vote puts in the minority
releases nothing, and its plane was compared (worked example of the chapter). -/
def planesDiffer (s : State) (k : PlaneKey) : Bool :=
  let ps := allLanes.filterMap (comparedPlane s k)
  ps.any fun x => ps.any fun y => x ≠ y

/-- BRG_FX_PLANE_MISMATCH, its source in the management controller and its record (R68). -/
def planeMismatch (s : State) (k : PlaneKey) (agree : Nat) : State :=
  let n := if s.fb BRG_FX_PLANE_MISMATCH_VALID then s.fv BRG_FX_PLANE_MISMATCH_COUNT else 0
  let s := (s.setF BRG_FX_PLANE_MISMATCH_VALID 1).setF BRG_FX_PLANE_MISMATCH_COUNT (min 255 (n + 1))
  let s := s.setF BRG_FX_PLANE_MISMATCH_AGREE agree
  let s := match k with
    | .slice r p => ((s.setF BRG_FX_PLANE_MISMATCH_KIND 0).setF BRG_FX_PLANE_MISMATCH_RING r).setF BRG_FX_PLANE_MISMATCH_POS_SES p
    | .hexlo n => ((s.setF BRG_FX_PLANE_MISMATCH_KIND 1).setF BRG_FX_PLANE_MISMATCH_RING 0).setF BRG_FX_PLANE_MISMATCH_POS_SES n
  (s.raise .mgmt 63).recordRegs 0x06 0x03 0 [BRG_FX_PLANE_MISMATCH]

/-- One slice or message is chosen: it enters what FX sends, VOID or unsent where no pair matches. `s0`: the state whose planes are
compared. -/
def selectPlane (s0 : State) (e : Nat) (s : State) (k : PlaneKey) : State :=
  let pair := choosePair s0 e k
  let sent := match pairLanes pair with
    | some (l, m) =>
      match releasedPlane s0 k l, releasedPlane s0 k m with
      | some p, some q => some (p, q.code)
      | _, _ => none
    | none => none
  let agree := match sent with
    | some (p, _) => agreeWith s0 k p.out.payload
    | none => 0
  let s := if planesDiffer s0 k then planeMismatch s k agree else s
  match sent, k with
  | some (p, c2), .slice r n =>
    { s with fx := { s.fx with
      slices := s.fx.slices ++ [⟨r, n, p.out.payload, p.code, c2, pair, Store.get (fun _ => 0) s.fx.topo r⟩],
      pairLast := if s.fx.pairLast = 0 then pair else s.fx.pairLast } }
  | some (p, c2), .hexlo n => { s with fx := { s.fx with msgs := s.fx.msgs ++ [⟨n, p.out.seq, p.out.payload, p.code, c2, pair⟩] } }
  | none, _ => s

/-- The keys of every plane compared or released, each once, in the order of the first lane that staged it. -/
def planeKeys (s : State) : List PlaneKey :=
  (allLanes.flatMap fun l => (((s.fx.cmp.get l).getD []) ++ (if (s.lane l).st.counted then (s.lane l).staged else [])).map fun p =>
    p.out.key).eraseDups

/-- PLANE_RELEASE and PLANE_SELECT at the tick 17 strobe (R67, R68): what is not released is never sent. -/
def publishPlanes (s : State) : State :=
  let e := s.time.epoch
  let s1 := (planeKeys s).foldl (selectPlane s e)
    { s with fx := { s.fx with pubE := e, slices := [], msgs := [], pairLast := 0, cmp := .all none } }
  s1.forLanes fun s l => s.updLane l fun x => { x with staged := [], recs := [] }

/-- The vote part of the tick 17 strobe: decisions, lane transitions, retirement. -/
def voteTick17 (s : State) : State :=
  let agreed := allThreeAgree s
  let cs := voteWithdrawals s
  let s1 := s.forLanes (showVote s)
  let s2 := withdrawMany s1 cs
  let s3 := s2.forLanes countAgreement
  let s4 := s3.forLanes rejoin
  retireTick17 s4 agreed

end Sys2Proof.Machine
end

