-- ==== Sys2Proof/Machine/Bridge.lean ====
section
/-!
DEFINITION. The protocol bridge: routing (R239 to R242), messages and engine ports (R243 to R247), order and failure in a domain
(R248 to R254), exclusive sequences (R255, R256), attention (R257, R258), prefetch and buffer (R259 to R261). It runs in the power state
RUN alone (R17).

Readings and choices: log entries 13 (DESIGN CHOICE), 26 (DESIGN CHOICE).
-/

namespace Sys2Proof.Machine

/-! ### State of the bridge -/

def State.dom (s : State) (d : Nat) : BrgDom := Store.get (fun _ => BrgDom.init) s.bridge.doms d

def State.setDom (s : State) (d : Nat) (x : BrgDom) : State :=
  { s with bridge := { s.bridge with doms := Store.put (fun _ => BrgDom.init) s.bridge.doms d x } }

def State.eport (s : State) (k : Nat) : BrgPort := Store.get (fun _ => BrgPort.init) s.bridge.ports k

def State.setEport (s : State) (k : Nat) (x : BrgPort) : State :=
  { s with bridge := { s.bridge with ports := Store.put (fun _ => BrgPort.init) s.bridge.ports k x } }

def State.ring (s : State) (n : Nat) : RingSt := Store.get (fun _ => RingSt.init) s.rings n

def State.setRing (s : State) (n : Nat) (r : RingSt) : State := { s with rings := Store.put (fun _ => RingSt.init) s.rings n r }

def State.updRing (s : State) (n : Nat) (f : RingSt → RingSt) : State := s.setRing n (f (s.ring n))

def State.updHead (s : State) (n : Nat) (f : HeadSt → HeadSt) : State := s.updRing n fun r => { r with head := f r.head }

/-! ### Routing (R240, R241) -/

/-- A routing table entry. -/
structure Route where
  valid : Bool
  inPort : Nat
  outPort : Nat
  domain : Nat
  posted : Bool
  ret : Bool
  prefetch : Bool
  lockable : Bool
  inId : Nat
  outId : Nat
  limit : Nat
  timeout : Nat
  width : Nat
  deriving DecidableEq, Repr

def State.route (s : State) (k : Nat) : Route :=
  let w0 := s.rd (BRG_ROUTE k 0)
  let w3 := s.rd (BRG_ROUTE k 3)
  { valid := getBits w0 31 31 = 1, inPort := getBits w0 30 27, outPort := getBits w0 26 23, domain := getBits w0 22 17,
    posted := getBits w0 16 16 = 1, ret := getBits w0 15 15 = 1, prefetch := getBits w0 14 14 = 1,
    lockable := getBits w0 13 13 = 1, inId := (s.rd (BRG_ROUTE k 1)).toNat, outId := (s.rd (BRG_ROUTE k 2)).toNat,
    limit := getBits w3 31 24 + 1, timeout := getBits w3 23 16 + 1, width := getBits w3 4 0 }

/-- Entry k matches identifier x at port p (R241). -/
def Route.hit (r : Route) (p x : Nat) : Bool := r.valid && r.inPort = p && x / 2 ^ r.width = r.inId / 2 ^ r.width

def State.findRoute (s : State) (p x : Nat) : Option Nat := (List.range 4096).find? fun k => (s.route k).hit p x

/-- The egress identifier y (R241). -/
def Route.egress (r : Route) (x : Nat) : Nat := r.outId / 2 ^ r.width * 2 ^ r.width + x % 2 ^ r.width

/-- The engine whose message port this is (R239). -/
def portEngine : Nat → Option Engine
  | 12 => some (.lane .a) | 13 => some (.lane .b) | 14 => some (.lane .c) | 15 => some .mgmt | _ => none

def enginePort : Engine → Nat
  | .lane l => 12 + l.num
  | .mgmt => 15

/-- The target of an egress identifier, as locks and link sequences count them: the position on a ring, the peer on Ethernet; the partner
or the engine itself elsewhere. -/
def egressTarget (port y : Nat) : Nat :=
  if port < 8 then y / 2 ^ 24 else if port < 11 then y / 2 ^ 26 else 0

/-- The identifier at the receiver (R241): node-local on a ring, remote on Ethernet, whole elsewhere. -/
def remoteId (port y : Nat) : Nat :=
  if port < 8 then y % 2 ^ 24 else if port < 11 then y % 2 ^ 26 else y

/-- A held message's egress port and identifier y, and its target there. -/
def heldPort (s : State) (h : BrgHeld) : Nat := (s.route h.route).outPort

def heldId (s : State) (h : BrgHeld) : Nat := (s.route h.route).egress h.msg.id

def heldTarget (s : State) (h : BrgHeld) : Nat := egressTarget (heldPort s h) (heldId s h)

/-- A posted write: its failure stalls the domain (R250). -/
def postedWrite (s : State) (h : BrgHeld) : Bool := h.msg.op = 1 && (s.route h.route).posted

/-- The bridge is clocked (R17). -/
def bridgeOn (s : State) : Bool := s.pwr.power = .run

/-- The topology counter in force on a ring; 0 off the ring (R243). -/
def brgTopo (s : State) (port : Nat) : Nat :=
  if port < 8 then (match (s.ring port).layout with | some x => x.topo | none => 0) else 0

/-! ### Space (R261) -/

/-- What a message occupies. -/
def msgSize (m : BrgMsg) : Nat := (32 + (if m.op = 2 then 0 else m.dlen) + 63) / 64 * 64

def domBytes (x : BrgDom) : Nat := (x.msgs.map fun h => msgSize h.msg).sum

def blockBytes (b : BrgBlock) : Nat := (32 + b.data.length + 63) / 64 * 64

/-- Shared space in use. -/
def State.bridgeUsed (s : State) : Nat :=
  (s.bridge.doms.map fun p => domBytes p.2).sum + (s.bridge.blocks.map blockBytes).sum +
  (s.bridge.ports.map fun p => ((p.2.rx ++ p.2.an).map msgSize).sum).sum

/-! ### Answers and failures -/

def brgBlank : BrgMsg := ⟨0, false, false, false, 0, 0, 0, 0, 0, 0, 0, []⟩

/-- The body of a bridge message (R243). -/
def brgBytes (m : BrgMsg) : List Byte :=
  beBytes 1 m.op ++ beBytes 1 (bitsOf [m.lseqSet, m.prefetched, m.inLock]) ++ beBytes 2 m.tag ++ beBytes 4 m.id ++ beBytes 4 m.rid ++
  beBytes 2 m.lseq ++ beBytes 2 m.btopo ++ beBytes 2 m.dlen ++ beBytes 1 m.cause ++ [0] ++ m.data

/-- The message a body spells (R243): none where its data falls short of its length, or the length is above 1,024. -/
def brgParse (b : List Byte) : Option BrgMsg :=
  let op := bytesAt b 0 1
  let dlen := bytesAt b 16 2
  let data := if op = 2 then [] else (b.drop 20).take dlen
  if b.length < 20 ∨ 1024 < dlen ∨ (op ≠ 2 ∧ data.length < dlen) then none
  else some {
    op := op, lseqSet := natBit (bytesAt b 1 1) 0, prefetched := natBit (bytesAt b 1 1) 1, inLock := natBit (bytesAt b 1 1) 2,
    tag := bytesAt b 2 2, id := bytesAt b 4 4, rid := bytesAt b 8 4, lseq := bytesAt b 12 2, btopo := bytesAt b 14 2, dlen := dlen,
    cause := bytesAt b 18 1, data := data }

/-- A brim message waits in the module's window queue of ring n, in order; SEQ and SRC are set when it is written (R171, R216). -/
def brimQueue (s : State) (n : Nat) (mtype dst : Nat) (body : List Byte) : State :=
  s.updRing n fun r => { r with txq := r.txq ++ [⟨true, mtype, 255, dst, 0, body⟩] }

/-- The pair link that carries bridge messages: PL0 before PL1 (R239). -/
def pairLink (s : State) : Option Bool :=
  if s.fb PAIR_STATUS_LINK0 then some false else if s.fb PAIR_STATUS_LINK1 then some true else none

/-- A message leaves by ETH_A, ETH_B, MGT or PAIR (R239, R245): the brim message of R171 with SRC = DST = 0; on Ethernet to an address and
UDP port; on the pair link that is up, or not at all. -/
def sendOff (s : State) (port dst udp : Nat) (m : BrgMsg) : State :=
  let q := Store.get (fun _ => 0) s.bridge.seq port
  let b : BrimMsg := ⟨true, 1, 0, 0, q, brgBytes m⟩
  let out := if port < 11 then some (BrgOut.udp port dst udp (s.fv BRG_CTRL_UDP_PORT) b) else (pairLink s).map fun l => BrgOut.pair l b
  match out with
  | some o => { s with bridge := { s.bridge with
      seq := Store.put (fun _ => 0) s.bridge.seq port ((q + 1) % 65536), sent := s.bridge.sent ++ [o] } }
  | none => s

/-- An arrival at an engine's answer queue; a full queue drops it (R247). -/
def answerEngine (s : State) (e : Engine) (m : BrgMsg) : State :=
  let p := s.eport e.num
  if 8 ≤ p.an.length then s.incF BRG_DROP_ANSWER
  else (s.setEport e.num { p with an := p.an ++ [m] }).raise e 59

/-- Send an answer or a notice to the initiator, outside every domain: at its port, under its RID; on Ethernet to the source address and UDP
port (R245, R248, R251). -/
def answerTo (s : State) (who : BrgFrom) (m : BrgMsg) : State :=
  let m := { m with id := who.rid, btopo := brgTopo s who.port }
  match portEngine who.port with
  | some e => answerEngine s e m
  | none => if who.port < 8 then brimQueue s who.port 1 who.src (brgBytes m) else sendOff s who.port who.src who.udp m

def nak (tag cause : Nat) : BrgMsg := { brgBlank with op := 5, tag := tag, cause := cause }

def ack (tag : Nat) : BrgMsg := { brgBlank with op := 4, tag := tag }

def readResp (tag : Nat) (data : List Byte) : BrgMsg := { brgBlank with op := 3, tag := tag, dlen := data.length, data := data }

/-- Domain d is stalled. -/
def State.stalled (s : State) (d : Nat) : Bool :=
  natBit (s.rd (if d < 32 then BRG_DOM_STALL_0 else BRG_DOM_STALL_1)).toNat (d % 32)

/-- Set or clear a domain's stall, with its source 57 and the count. -/
def State.setStall (s : State) (d : Nat) (b : Bool) : State :=
  if s.stalled d = b then s
  else
    let k := if d < 32 then BRG_DOM_STALL_0 else BRG_DOM_STALL_1
    let s := s.wr k (BitVec.ofNat 32 (natSetBit (s.rd k).toNat (d % 32) b))
    let n := s.fv BRG_STATUS_STALLED
    (s.setF BRG_STATUS_STALLED (if b then n + 1 else n - 1)).raiseAll 57

/-- KIND of a failure record (R250). -/
def failKind (r : Route) (op : Nat) : Nat := if op = 2 then 2 else if op = 1 ∧ r.posted then 0 else 1

/-- Words 0 to 3 of a failure record. -/
def failWords (s : State) (cause d kind outPort route dseq tag count : Nat) : List Word :=
  [BitVec.ofNat 32 (cause * 2 ^ 24 + d * 2 ^ 18 + kind * 2 ^ 16 + outPort * 2 ^ 12 + route), BitVec.ofNat 32 dseq,
   BitVec.ofNat 32 (tag * 65536 + min 65535 count), BitVec.ofNat 32 s.E]

/-- Append a failure record: the queue of 256, source 56, the event record; a full queue sets FQ_OVF (R250). -/
def failRecord (s : State) (ws : List Word) : State :=
  let s := if 256 ≤ s.bridge.fq.length then s.setF BRG_STATUS_FQ_OVF 1
    else
      let s := { s with bridge := { s.bridge with fq := s.bridge.fq ++ [ws] } }
      s.setF BRG_STATUS_FQ_CNT s.bridge.fq.length
  (s.raiseAll 56).record 0x06 0x01 0 (wordsBytes ws)

def dropHeld (s : State) (d dseq : Nat) : State :=
  let x := s.dom d
  s.setDom d { x with msgs := x.msgs.filter fun h => h.dseq ≠ dseq }

/-- A lock's entry is removed. -/
def dropLock (s : State) (g : Nat) : State :=
  { s with bridge := { s.bridge with locks := s.bridge.locks.filter fun k => k.ltag ≠ g } }

/-- The NOTICE of a failed message: its record's words 0 and 1 (R251). -/
def notice (tag cause : Nat) (ws : List Word) : BrgMsg :=
  { brgBlank with op := 6, tag := tag, cause := cause, dlen := 8, data := wordsBytes (ws.take 2) }

/-- POSTED_WRITE_FAILURE and the failure of a READ or a non-posted message (R250, R251): the record; a posted write stalls its domain and
sends a notice; any other is answered NAK. A LOCK that fails takes its lock with it. -/
def failMsg (s : State) (d : Nat) (h : BrgHeld) (cause : Nat) : State :=
  let r := s.route h.route
  let s := dropHeld s d h.dseq
  let s := match h.lock with
    | some g => dropLock s g
    | none => s
  let ws := failWords s cause d (failKind r h.msg.op) r.outPort h.route h.dseq h.msg.tag 1
  let s := failRecord s ws
  if h.msg.op = 1 ∧ r.posted then
    let s := s.setStall d true
    if r.ret then answerTo s h.sender (notice h.msg.tag cause ws) else s
  else if h.msg.op = 7 ∨ h.msg.prefetched then s
  else answerTo s h.sender (nak h.msg.tag cause)

/-- Fail several messages of a domain in DSEQ order (R263). -/
def failAll (s : State) (d cause : Nat) (hs : List BrgHeld) : State := hs.foldl (fun s h => failMsg s d h cause) s

/-! ### Prefetch blocks (R259, R260) -/

/-- A block is discarded unused: on an Ethernet or MGT route it is latched, signalled and recorded. -/
def discardBlock (s : State) (b : BrgBlock) : State :=
  let s := { s with bridge := { s.bridge with blocks := s.bridge.blocks.filter fun x => x ≠ b } }
  let s := s.incF BRG_DROP_PF_DISC
  let p := (s.route b.route).outPort
  if p = 8 ∨ p = 9 ∨ p = 10 then
    let s := (s.setF BRG_PF_DISC_ID_ID b.outId).setF BRG_PF_DISC_RT_ROUTE b.route
    (s.raiseAll 61).record 0x06 0x02 b.route (beBytes 4 b.outId)
  else s

def discardWhere (s : State) (f : BrgBlock → Bool) : State := (s.bridge.blocks.filter f).foldl discardBlock s

/-- Room for `n` bytes in the domain and in shared space. -/
def hasRoom (s : State) (d n : Nat) : Bool :=
  decide (domBytes (s.dom d) + n ≤ s.fv BRG_DOM_LIMIT_LIMIT * 1024) && decide (s.bridgeUsed + n ≤ 3670016)

/-- Discard unused blocks, oldest first, until there is room (R261). -/
def makeRoom : Nat → Nat → Nat → State → State
  | 0, _, _, s => s
  | k + 1, d, n, s =>
    if hasRoom s d n then s
    else match s.bridge.blocks with
      | b :: _ => makeRoom k d n (discardBlock s b)
      | [] => s

/-- Two identifier ranges meet; an empty one meets none (R10). -/
def rangesMeet (a n b m : Nat) : Bool := decide (a < b + m) && decide (b < a + n) && decide (0 < n) && decide (0 < m)

/-- A WRITE of `m` on route k reaches what the block holds: the same egress port, and identifiers there that meet (R259). -/
def overlaps (s : State) (k : Nat) (m : BrgMsg) (b : BrgBlock) : Bool :=
  let r := s.route k
  m.op = 1 && b.domain = r.domain && (s.route b.route).outPort = r.outPort && rangesMeet b.outId b.data.length (r.egress m.id) m.dlen

/-- The answer of a prefetch READ is held as a block (R259), unless a WRITE accepted meanwhile overlaps it or there is no room (R261). -/
def keepBlock (s : State) (d : Nat) (h : BrgHeld) (data : List Byte) : State :=
  let b : BrgBlock := ⟨h.route, d, h.msg.id, heldId s h, data, 0⟩
  let s := makeRoom s.bridge.blocks.length d (blockBytes b) s
  let s' := { s with bridge := { s.bridge with blocks := s.bridge.blocks ++ [b] } }
  if ((s.dom d).msgs.any fun g => overlaps s g.route g.msg b) || !hasRoom s d (blockBytes b) then discardBlock s' b else s'

/-! ### Ingress (R241, R247, R258, R261) -/

/-- The message enters its domain with the next DSEQ (R248). -/
def enqueue (s : State) (k : Nat) (m : BrgMsg) (who : BrgFrom) : State :=
  let d := (s.route k).domain
  let x := s.dom d
  s.setDom d ⟨(x.nextSeq + 1) % 2 ^ 32, x.msgs ++ [⟨x.nextSeq, k, who, m, none, false, none, false, none⟩]⟩

/-- The READ of the bytes that follow, marked PREFETCHED, where there is room for it (R259, R261). -/
def prefetchRead (s : State) (k : Nat) (m : BrgMsg) (who : BrgFrom) : State :=
  let d := (s.route k).domain
  let p := { m with id := (m.id + m.dlen) % 2 ^ 32, dlen := s.fv BRG_CTRL_PF_LEN_Q * 64, prefetched := true }
  let s := makeRoom s.bridge.blocks.length d (msgSize p) s
  if hasRoom s d (msgSize p) then enqueue s k p who else s

/-- Accept a message on route k: a held block answers a READ that lies within it and is spent; a WRITE discards the blocks it overlaps; a
posted WRITE is acknowledged at acceptance; a prefetch READ follows a READ. A READ of length 0 takes its place and nothing else (R10). -/
def acceptMsg (s : State) (k : Nat) (m : BrgMsg) (who : BrgFrom) : State :=
  let r := s.route k
  let hit := fun (b : BrgBlock) => m.op = 2 && decide (0 < m.dlen) && b.route = k && decide (b.inId ≤ m.id) &&
    decide (m.id + m.dlen ≤ b.inId + b.data.length)
  let s := match s.bridge.blocks.find? hit with
    | some b =>
      let s := { s with bridge := { s.bridge with blocks := s.bridge.blocks.filter fun x => x ≠ b } }
      answerTo s who (readResp m.tag ((b.data.drop (m.id - b.inId)).take m.dlen))
    | none =>
      let s := enqueue (discardWhere s (overlaps s k m)) k m who
      if m.op = 1 ∧ r.posted then answerTo s who (ack m.tag) else s
  if m.op = 2 ∧ r.prefetch ∧ 0 < m.dlen then prefetchRead s k m who else s

/-- A message that cannot be taken at ingress (R261, R325). -/
def refuseBusy (s : State) (m : BrgMsg) (who : BrgFrom) (answered : Bool) : State :=
  let s := (s.incF BRG_DROP_BUSY).raiseAll 62
  if answered then answerTo s who (nak m.tag 0x02) else s

/-- BRIDGE_MESSAGE_INGRESS (R241): a message that matches no entry is answered NAK NO_ROUTE; one without room NAK BUSY; a LOCK or
UNLOCK on a route that permits no exclusive sequence NAK REFUSED. -/
def ingress (s : State) (m : BrgMsg) (who : BrgFrom) (answered : Bool) : State :=
  if ¬ (s.fb BRG_CTRL_EN ∧ bridgeOn s) then s
  else
    match s.findRoute who.port m.id with
    | none =>
      let s := s.incF BRG_DROP_NO_ROUTE
      if answered then answerTo s who (nak m.tag 0x01) else s
    | some k =>
      if s.prepared 4 then refuseBusy s m who answered else
      let r := s.route k
      let s := makeRoom s.bridge.blocks.length r.domain (msgSize m) s
      if ¬ hasRoom s r.domain (msgSize m) then refuseBusy s m who answered
      else if (m.op = 8 ∨ m.op = 9) ∧ ¬ (r.lockable ∧ r.outPort < 8) then answerTo s who (nak m.tag 0x09)
      else acceptMsg s k m who

/-- A NOTICE that arrives at a port goes on by the route of its identifier, outside every domain (R251). -/
def noticeIn (s : State) (p : Nat) (m : BrgMsg) : State :=
  if ¬ (s.fb BRG_CTRL_EN ∧ bridgeOn s) then s
  else match s.findRoute p m.id with
    | none => s.incF BRG_DROP_NO_ROUTE
    | some k =>
      let r := s.route k
      let y := r.egress m.id
      let m := { m with id := remoteId r.outPort y, btopo := brgTopo s r.outPort }
      match portEngine r.outPort with
      | some e => answerEngine s e m
      | none =>
        if r.outPort < 8 then brimQueue s r.outPort 1 (egressTarget r.outPort y) (brgBytes m)
        else sendOff s r.outPort (s.fv (BRG_PEER_IP_IP (egressTarget r.outPort y))) (s.fv BRG_CTRL_UDP_PORT) m

/-- The operations an initiator starts (R244). -/
def initiates (op : Nat) : Bool := op = 1 || op = 2 || op = 7 || op = 8 || op = 9

def execBridgeMessageIngress (p : BitVec 4) (src : BrgSource) (m : BrgMsg) (s : State) : Host.Outcome State Fault Refusal :=
  .next (
    -- an engine port sends by BRSEND and BRG_EP_REQ (R247)
    if 12 ≤ p.toNat ∨ 1024 < m.dlen then s
    else if initiates m.op then ingress s m ⟨p.toNat, src.addr, m.rid, src.udp⟩ (m.op ≠ 7)
    else if m.op = 6 then noticeIn s p.toNat m
    else s)

/-! ### Sending (R248, R255) -/

def lseqKey (port target : Nat) : Nat := 2 ^ 32 * port + target

/-- The same initiator: the port and the source a message came from. -/
def sameInitiator (a b : BrgFrom) : Bool := a.port = b.port && a.src = b.src

/-- Message h of domain d belongs to the sequence of the lock (R255). -/
def inSequence (s : State) (d : Nat) (h : BrgHeld) (k : BrgLock) : Bool :=
  k.ring = heldPort s h && k.target = heldTarget s h && sameInitiator k.sender h.sender && (s.route k.route).domain = d

/-- The message as it leaves: identifier at the receiver, link sequence, topology counter, lock mark. -/
def stampMsg (s : State) (d : Nat) (h : BrgHeld) : BrgMsg × State :=
  let p := heldPort s h
  let key := lseqKey p (heldTarget s h)
  let n := Store.get (fun _ => 0) s.bridge.lseq key
  let known := Store.get (fun _ => false) s.bridge.lseqKnown key
  let locked := s.bridge.locks.any fun k => k.granted && inSequence s d h k
  ({ h.msg with id := remoteId p (heldId s h), lseq := n, lseqSet := !known, btopo := brgTopo s p, inLock := locked },
   { s with bridge := { s.bridge with
      lseq := Store.put (fun _ => 0) s.bridge.lseq key ((n + 1) % 65536),
      lseqKnown := Store.put (fun _ => false) s.bridge.lseqKnown key true } })

def updHeld (s : State) (d dseq : Nat) (f : BrgHeld → BrgHeld) : State :=
  let x := s.dom d
  s.setDom d { x with msgs := x.msgs.map fun h => if h.dseq = dseq then f h else h }

/-- The message waits and its timeout runs (R255). -/
def waits (s : State) (d : Nat) (h : BrgHeld) : State :=
  updHeld s d h.dseq fun x => { x with age := some (x.age.getD 0), queued := false }

/-- The message has been sent; one sent again keeps its first sending time (R249). An EVENT is done (R248). -/
def hasLeft (s : State) (d : Nat) (h : BrgHeld) : State :=
  if h.msg.op = 7 then dropHeld s d h.dseq
  else updHeld s d h.dseq fun x => { x with out := true, age := some (x.age.getD 0), queued := false, behind := none }

/-- The target is held by a lock of another domain (R255). -/
def lockedOut (s : State) (d : Nat) (h : BrgHeld) : Bool :=
  s.bridge.locks.any fun k => k.granted && k.ring = heldPort s h && k.target = heldTarget s h && (s.route k.route).domain ≠ d

/-- What the module's brim window on a ring can hold beside its 4-byte header (R170, R244); none while it has no window. -/
def windowRoom (s : State) (n : Nat) : Option Nat :=
  match (s.ring n).layout with
  | some lay => (lay.entries.find? fun e => e.pos = s.fv (RING_STATUS_POS n)).map fun e => e.credit - 4
  | none => none

/-- The bytes a held message takes in a window (R243). -/
def windowBytes (h : BrgHeld) : Nat := (35 + h.msg.data.length) / 4 * 4

/-- It cannot fit the module's window even if that were empty (R244). -/
def tooBig (s : State) (n : Nat) (h : BrgHeld) : Bool :=
  match windowRoom s n with
  | some k => decide (k < windowBytes h)
  | none => false

/-- A message reaches an engine's receive queue (R247): answered ACK, or NAK BUSY when the queue is full. A WRITE of length 0 is a probe and
applies nothing (R253). Answer: its cause, 0 an ACK. -/
def deliverEngine (s : State) (e : Engine) (m : BrgMsg) : Nat × State :=
  let p := s.eport e.num
  if m.op ≠ 1 ∧ m.op ≠ 7 then (0x09, s)
  else if m.op = 1 ∧ m.dlen = 0 then (0, s)
  else if 8 ≤ p.rx.length then (0x02, s)
  else (0, (s.setEport e.num { p with rx := p.rx ++ [m] }).raise e 59)

/-- The first message of a domain that is neither outstanding nor in a window queue. -/
def nextHeld (x : BrgDom) : Option BrgHeld := x.msgs.find? fun h => !h.out && !h.queued

/-- What stands before a message in its domain. -/
def before (x : BrgDom) (h : BrgHeld) : List BrgHeld := x.msgs.takeWhile fun g => g.dseq ≠ h.dseq

/-- Whether domain order and the in-flight limit let it go (R248, R249). -/
def mayGo (s : State) (d : Nat) (h : BrgHeld) : Bool :=
  let x := s.dom d
  let r := s.route h.route
  let under := fun (g : BrgHeld) => g.out || g.queued
  let resolved := match h.behind with
    | some q => !x.msgs.any fun g => g.dseq = q
    | none => true
  resolved && (if postedWrite s h then
      decide ((x.msgs.filter fun g => under g && g.dseq ≠ h.dseq && g.route = h.route && g.msg.op = 1).length < r.limit) &&
      (before x h).all fun g => !under g || postedWrite s g
    else (before x h).all fun g => !under g)

/-- LOCK (R255): a lock is taken and its tokens start; at most 16 locks, one for each target: another LOCK waits. -/
def sendLock (s : State) (d : Nat) (h : BrgHeld) : State :=
  let n := heldPort s h
  let t := heldTarget s h
  if (s.bridge.locks.any fun k => k.ring = n && k.target = t) ∨ 16 ≤ s.bridge.locks.length then waits s d h
  else
    let g := s.bridge.ltagNext
    let s := { s with bridge := { s.bridge with
      ltagNext := (g + 1) % 65536, locks := s.bridge.locks ++ [⟨g, h.route, n, t, h.sender, h.msg.tag, false, 8, true⟩] } }
    updHeld s d h.dseq fun x => { x with out := true, lock := some g }

/-- Write the release of a lock and end it (R255). -/
def releaseLock (s : State) (k : BrgLock) : State :=
  brimQueue (dropLock s k.ltag) k.ring 5 k.target (beBytes 2 k.ltag ++ [0, 0])

/-- UNLOCK: the holder's lock ends with a release and an ACK. -/
def sendUnlock (s : State) (d : Nat) (h : BrgHeld) : State :=
  let s' := dropHeld s d h.dseq
  match s.bridge.locks.find? fun k => inSequence s d h k with
  | some k => answerTo ((releaseLock s' k).raiseAll 60) h.sender (ack h.msg.tag)
  | none => answerTo s' h.sender (ack h.msg.tag)

/-- A READ or a non-posted WRITE of length 0 completes in its turn and touches no port (R10). -/
def emptyOp (s : State) (h : BrgHeld) : Bool := h.msg.dlen = 0 && (h.msg.op = 2 || (h.msg.op = 1 && !(s.route h.route).posted))

def completeEmpty (s : State) (d : Nat) (h : BrgHeld) : State :=
  answerTo (dropHeld s d h.dseq) h.sender (if h.msg.op = 2 then readResp h.msg.tag [] else ack h.msg.tag)

/-- The message leaves through its egress port: into an engine's queue, off the ring, or into the queue for the module's window, which is
written at the next passage or launch (R248). -/
def transmit (s : State) (d : Nat) (h : BrgHeld) : State :=
  let p := heldPort s h
  match portEngine p with
  | some e =>
    let (m, s) := stampMsg s d h
    let (c, s) := deliverEngine s e m
    if h.msg.op = 7 then dropHeld s d h.dseq
    else if c = 0x02 then waits s d h
    else if c = 0 then
      let posted := postedWrite s h
      let s := dropHeld s d h.dseq
      if posted then s else answerTo s h.sender (ack h.msg.tag)
    else failMsg s d h c
  | none =>
    if p < 8 then
      if tooBig s p h then failMsg s d h 0x07 else updHeld s d h.dseq fun x => { x with queued := true }
    else
      let t := heldTarget s h
      let (m, s) := stampMsg s d h
      hasLeft (sendOff s p (s.fv (BRG_PEER_IP_IP t)) (s.fv BRG_CTRL_UDP_PORT) m) d h

/-- BRIDGE_MESSAGE_SEND (R248): the first held message of a running domain goes when order and limits allow; one whose target another
domain's lock holds waits, and its timeout runs (R255). -/
def execBridgeMessageSend (d : BitVec 6) (s : State) : Host.Outcome State Fault Refusal :=
  .next (
    let d := d.toNat
    if s.stalled d ∨ ¬ bridgeOn s then s
    else match nextHeld (s.dom d) with
      | none => s
      | some h =>
        if ¬ mayGo s d h then s
        else if emptyOp s h then completeEmpty s d h
        else if lockedOut s d h then waits s d h
        else if h.msg.op = 8 then sendLock s d h
        else if h.msg.op = 9 then sendUnlock s d h
        else transmit s d h)

/-- The messages released to the window of ring n, domain by domain, each domain in DSEQ order. -/
def windowQueue (s : State) (n : Nat) : List (Nat × BrgHeld) :=
  s.bridge.doms.flatMap fun x => (x.2.msgs.filter fun h => h.queued && heldPort s h = n).map fun h => (x.1, h)

/-- A released message may be written: its domain runs and nothing before it waits (R248, R252). -/
def mayWrite (s : State) (d : Nat) (h : BrgHeld) : Bool :=
  !s.stalled d && (before (s.dom d) h).all (fun g => g.out) && (s.dom d).msgs.any fun g => g.dseq = h.dseq && g.queued

/-- Write the released messages of ring n into what is left of the window, in order, until one must wait for a later cycle (R171, R248). -/
def writeQueued (n : Nat) : Nat → List (Nat × BrgHeld) → State → List BrimMsg × State
  | _, [], s => ([], s)
  | room, (d, h) :: r, s =>
    if ¬ mayWrite s d h then writeQueued n room r s
    else if tooBig s n h then writeQueued n room r (failMsg s d h 0x07)
    else if lockedOut s d h then writeQueued n room r (waits s d h)
    else if room < windowBytes h then ([], s)
    else
      let t := heldTarget s h
      let (m, s) := stampMsg s d h
      let x := writeQueued n (room - windowBytes h) r (hasLeft s d h)
      (⟨true, 1, 255, t, 0, brgBytes m⟩ :: x.1, x.2)

/-! ### Answers (R248, R249, R255) -/

/-- Whether an answer at port p from `src` is the target's: the position on a ring, the peer's address on Ethernet. -/
def answersFor (s : State) (p src t : Nat) : Bool :=
  if p < 8 then src = t else if p < 11 then (s.fv (BRG_PEER_IP_IP t)) = src else true

/-- The outstanding message an answer from a target resolves: the oldest with its tag (a LOCK: its LTAG). -/
def answered (s : State) (p src : Nat) (m : BrgMsg) : Option (Nat × BrgHeld) :=
  let hits := s.bridge.doms.flatMap fun x => (x.2.msgs.filter fun h =>
    h.out && heldPort s h = p && answersFor s p src (heldTarget s h) &&
    (match h.lock with | some g => g = m.tag | none => h.msg.tag = m.tag)).map fun h => (x.1, h)
  hits.head?

/-- A LOCK is granted (R255). -/
def grantLock (s : State) (d : Nat) (h : BrgHeld) (g : Nat) : State :=
  let s := { s with bridge := { s.bridge with
    locks := s.bridge.locks.map fun k => if k.ltag = g then { k with granted := true, left := 8 } else k } }
  answerTo ((dropHeld s d h.dseq).raiseAll 60) h.sender (ack h.msg.tag)

/-- The latest message of the domain, sent before h to the same target, that is still outstanding (R249). -/
def earlierOut (s : State) (d : Nat) (h : BrgHeld) : Option BrgHeld :=
  ((before (s.dom d) h).filter fun g => g.out && heldPort s g = heldPort s h && heldTarget s g = heldTarget s h).getLast?

/-- A NAK of the far side (R244, R249): BUSY and LOCKED are sent again in the next cycle, by a LOCK's token; SEQ_GAP waits for the earlier
message, and is no sending then; any other is a failure. -/
def nakIn (s : State) (d : Nat) (h : BrgHeld) (cause : Nat) : State :=
  if cause = 0x02 ∨ cause = 0x03 then
    if h.lock.isSome then s else updHeld s d h.dseq fun x => { x with out := false }
  else
    match (if cause = 0x04 then earlierOut s d h else none) with
    | some g => updHeld s d h.dseq fun x => { x with out := false, age := none, behind := some g.dseq }
    | none => failMsg s d h cause

/-- BRIDGE_ANSWER: an ACK, NAK or READ_RESP from the far side at a port. -/
def bridgeAnswer (s : State) (p src : Nat) (m : BrgMsg) : State :=
  if ¬ bridgeOn s then s
  else match answered s p src m with
    | none => s
    | some (d, h) =>
      if m.op = 4 then
        match h.lock with
        | some g => grantLock s d h g
        | none =>
          let posted := postedWrite s h
          let s := dropHeld s d h.dseq
          if posted then s else answerTo s h.sender (ack h.msg.tag)
      else if m.op = 3 then
        let s := dropHeld s d h.dseq
        if h.msg.prefetched then keepBlock s d h m.data else answerTo s h.sender (readResp h.msg.tag m.data)
      else if m.op = 5 then nakIn s d h m.cause
      else s

def execBridgeAnswer (p : BitVec 4) (src : Nat) (m : BrgMsg) (s : State) : Host.Outcome State Fault Refusal :=
  .next (bridgeAnswer s p.toNat src m)

/-- A message of type 0x01 read in a brim window of ring n (R239, R243). -/
def brimIn (s : State) (n : Nat) (b : BrimMsg) : State :=
  match brgParse b.body with
  | none => s
  | some m =>
    if initiates m.op then ingress s m ⟨n, b.src, m.rid, 0⟩ (m.op ≠ 7)
    else if m.op = 6 then noticeIn s n m
    else bridgeAnswer s n b.src m

/-! ### Timeouts, stalls, locks, blocks -/

/-- The TIMEOUT-th strobe after the one that follows the sending has passed (R249). -/
def timedOut (s : State) (h : BrgHeld) : Bool :=
  match h.age with
  | some n => decide ((s.route h.route).timeout + 1 ≤ n)
  | none => false

/-- BRIDGE_TIMEOUT (R249). -/
def execBridgeTimeout (d : BitVec 6) (s : State) : Host.Outcome State Fault Refusal :=
  .next (if bridgeOn s then failAll s d.toNat 0x10 ((s.dom d.toNat).msgs.filter fun h => timedOut s h) else s)

/-- The targets of a domain's routes; the width passed through leaves the target to OUT_ID (R242). -/
def domTargets (s : State) (d : Nat) : List Nat :=
  (List.range 4096).filterMap fun k =>
    let r := s.route k
    if r.valid ∧ r.domain = d then some (lseqKey r.outPort (egressTarget r.outPort r.outId)) else none

/-- The next message to each target of the domain carries LSEQ_SET (R252). -/
def lseqReset (s : State) (d : Nat) : State :=
  let ts := domTargets s d
  { s with bridge := { s.bridge with lseqKnown := s.bridge.lseqKnown.filter fun x => x.1 ∉ ts } }

def domainResume (s : State) (d : Nat) : State :=
  if s.stalled d then (lseqReset s d).setStall d false else s

/-- A message of a flush: a notice where its route has RETURN, or a NAK where its initiator waits for an answer. -/
def flushOne (d : Nat) (s : State) (h : BrgHeld) : State :=
  let r := s.route h.route
  if h.msg.prefetched then s
  else if r.ret then
    answerTo s h.sender (notice h.msg.tag 0x12 (failWords s 0x12 d (failKind r h.msg.op) r.outPort h.route h.dseq h.msg.tag 1))
  else if h.msg.op = 7 ∨ (h.msg.op = 1 ∧ r.posted) then s
  else answerTo s h.sender (nak h.msg.tag 0x12)

/-- FLUSH (R252): held messages fail with FLUSHED, one summary record that counts the writes, the domain empty and running. -/
def domainFlush (s : State) (d : Nat) : State :=
  if ¬ s.stalled d then s
  else
    let hs := (s.dom d).msgs.filter fun h => !h.out
    let s1 := hs.foldl (flushOne d) s
    let x := s1.dom d
    let s2 := s1.setDom d { x with msgs := x.msgs.filter fun h => h.out }
    let n := (hs.filter fun h => h.msg.op = 1).length
    let s3 := failRecord s2 (match hs with
      | [] => failWords s2 0x12 d 3 0 0 x.nextSeq 0 0
      | h :: _ => failWords s2 0x12 d 3 (heldPort s2 h) h.route h.dseq 0 n)
    (lseqReset s3 d).setStall d false

def execDomainResume (d : BitVec 6) (s : State) : Host.Outcome State Fault Refusal := .next (domainResume s d.toNat)

def execDomainFlush (d : BitVec 6) (s : State) : Host.Outcome State Fault Refusal := .next (domainFlush s d.toNat)

/-- BRG_FQ_POP discards the oldest failure record. -/
def fqPop (s : State) : State :=
  let q := s.bridge.fq.tail
  { s with bridge := { s.bridge with fq := q } }.setF BRG_STATUS_FQ_CNT q.length

def execBrgFqPop (s : State) : Host.Outcome State Fault Refusal := .next (fqPop s)

/-- The messages of a lock's sequence that are not sent. -/
def sequenceUnsent (s : State) (k : BrgLock) : List (Nat × BrgHeld) :=
  s.bridge.doms.flatMap fun x => (x.2.msgs.filter fun h => !h.out && h.age = none && h.lock = none && inSequence s x.1 h k).map fun h => (x.1, h)

def failSequence (s : State) (k : BrgLock) (cause : Nat) : State :=
  (sequenceUnsent s k).foldl (fun s x => failMsg s x.1 x.2 cause) s

/-- A lock is lost (R256): its unsent messages fail with LOCK_LOST, source 60; a LOCK not granted yet fails too. -/
def loseLock (s : State) (k : BrgLock) : State :=
  let asks := s.bridge.doms.flatMap fun x => (x.2.msgs.filter fun h => h.lock = some k.ltag).map fun h => (x.1, h)
  let s := asks.foldl (fun s x => failMsg s x.1 x.2 0x08) (dropLock s k.ltag)
  (failSequence s k 0x08).raiseAll 60

/-- LOCK_EXPIRY (R256): 8 ticks since the grant. -/
def execLockExpiry (ltag : BitVec 16) (s : State) : Host.Outcome State Fault Refusal :=
  .next (
    match s.bridge.locks.find? fun k => k.ltag = ltag.toNat && k.granted && k.left = 0 with
    | some k => (failSequence (releaseLock s k) k 0x13).raiseAll 60
    | none => s)

/-- PREFETCH_EXPIRY (R259): blocks held for 8 ticks are discarded unused. -/
def execPrefetchExpiry (s : State) : Host.Outcome State Fault Refusal :=
  .next (discardWhere s fun b => decide (8 ≤ b.age))

/-- The end of a ring's cycle (R256): a lock held whose token was not written in it is lost. -/
def lockCycle (s : State) (n : Nat) : State :=
  let gone := s.bridge.locks.filter fun k => k.ring = n && k.granted && !k.token
  let s := gone.foldl loseLock s
  { s with bridge := { s.bridge with locks := s.bridge.locks.map fun k => if k.ring = n then { k with token := false } else k } }

/-- The tokens due in the module's window of ring n, first in the window (R255, R256). -/
def lockTokens (s : State) (n : Nat) : List BrimMsg :=
  (s.bridge.locks.filter fun k => k.ring = n).map fun k =>
    ⟨true, 4, s.fv (RING_STATUS_POS n), k.target, 0, beBytes 2 k.ltag ++ beBytes 1 k.left ++ [0] ++ beBytes 2 (brgTopo s n) ++ [0, 0]⟩

/-- The first `j` tokens of ring n have been written; the timeout of a LOCK starts with its first token (R249, R255). -/
def tokensWritten (s : State) (n j : Nat) : State :=
  let gs := ((s.bridge.locks.filter fun k => k.ring = n).take j).map fun k => k.ltag
  let begun := fun (h : BrgHeld) =>
    match h.lock with
    | some g => if g ∈ gs then { h with age := some (h.age.getD 0) } else h
    | none => h
  { s with bridge := { s.bridge with
      locks := s.bridge.locks.map fun k => if k.ltag ∈ gs then { k with token := true } else k,
      doms := s.bridge.doms.map fun x => (x.1, { x.2 with msgs := x.2.msgs.map begun }) } }

/-- The inauguration of a ring voids every lock on it (R216, R256). -/
def ringLocksLost (s : State) (n : Nat) : State := (s.bridge.locks.filter fun k => k.ring = n).foldl loseLock s

/-- BRIDGE_TOPO_CHANGE (R254). -/
def bridgeTopoChange (s : State) (n : Nat) : State :=
  let out := s.bridge.doms.flatMap fun x => (x.2.msgs.filter fun h => h.out && heldPort s h = n).map fun h => (x.1, h)
  let s := out.foldl (fun s x => failMsg s x.1 x.2 0x11) s
  let s := ringLocksLost s n
  let s := discardWhere s fun b => (s.route b.route).outPort = n
  { s with bridge := { s.bridge with lseqKnown := s.bridge.lseqKnown.filter fun x => x.1 / 2 ^ 32 ≠ n } }

/-- A module that takes over starts with an empty bridge: no message, block or lock, no domain stalled, LSEQ_SET due to each target
(R254). -/
def bridgeTakeover (s : State) : State :=
  let s := { s with bridge := { s.bridge with doms := [], ports := [], locks := [], blocks := [], lseqKnown := [] } }
  ((s.wr BRG_DOM_STALL_0 0).wr BRG_DOM_STALL_1 0).setF BRG_STATUS_STALLED 0

/-- The counts of a tick strobe: ages of sent messages and blocks, ticks left of granted locks. -/
def bridgeTick (s : State) : State :=
  { s with bridge := { s.bridge with
    doms := s.bridge.doms.map fun x => (x.1, { x.2 with msgs := x.2.msgs.map fun h => { h with age := h.age.map (· + 1) } }),
    blocks := s.bridge.blocks.map fun b => { b with age := b.age + 1 }, sent := [],
    locks := s.bridge.locks.map fun k => if k.granted then { k with left := k.left - 1 } else k } }

/-! ### Attention (R257, R258) -/

/-- The controllers that BRG_CTRL.ATTN_DEST selects. -/
def raiseAttn (s : State) : State :=
  allEngines.foldl (fun s e => if natBit (s.fv BRG_CTRL_ATTN_DEST) e.num then s.raise e 58 else s) s

/-- One rising edge: the pending bit, source 58, and an EVENT where a route matches. -/
def attnEdge (n p : Nat) (s : State) (b : Nat) : State :=
  let s := s.setF ⟨BRG_ATTN_PEND n p, b, b⟩ 1
  let s := raiseAttn s
  let x := 0xA0000000 + n * 0x800 + p * 8 + b
  if s.fb BRG_CTRL_EN then
    match s.findRoute n x with
    | some _ => ingress s { brgBlank with op := 7, id := x } ⟨n, p, 0, 0⟩ false
    | none => s
  else s

/-- ATTENTION_EDGE (R257): the ATTN byte of a fresh up-slice of ring n, position p. -/
def attnRead (s : State) (n p : Nat) (a : Byte) : State :=
  let old := Store.get (fun _ => 0) (s.ring n).attnPrev p
  let s := s.updRing n fun r => { r with attnPrev := Store.put (fun _ => 0) r.attnPrev p a }
  ((List.range 8).filter fun b => natBit a.toNat b && !natBit old.toNat b).foldl (attnEdge n p) s

/-! ### Engine ports (R247, R255) -/

/-- A request that an engine starts through its port block: 1 READ, 2 LOCK, 3 UNLOCK, with the block's ID and LEN. -/
def epRequest (s : State) (e : Engine) (op tag : Nat) : State :=
  let o := if op = 1 then 2 else if op = 2 then 8 else 9
  let n := if op = 1 then min 1024 (s.fv (BRG_EP_LEN_LEN e.num)) else 0
  let x := s.fv (BRG_EP_ID_ID e.num)
  let m : BrgMsg := { brgBlank with op := o, tag := tag, id := x, dlen := n }
  if op = 0 then s else ingress s m ⟨enginePort e, 0, 0, 0⟩ true

/-- The three requests of a port block. -/
def execBrgEpRead (e : Engine) (tag : BitVec 16) (s : State) : Host.Outcome State Fault Refusal := .next (epRequest s e 1 tag.toNat)

def execBrgEpLock (e : Engine) (tag : BitVec 16) (s : State) : Host.Outcome State Fault Refusal := .next (epRequest s e 2 tag.toNat)

def execBrgEpUnlock (e : Engine) (tag : BitVec 16) (s : State) : Host.Outcome State Fault Refusal := .next (epRequest s e 3 tag.toNat)

def epRxPop (s : State) (e : Engine) : State :=
  let p := s.eport e.num
  s.setEport e.num { p with rx := p.rx.tail }

def epAnPop (s : State) (e : Engine) : State :=
  let p := s.eport e.num
  s.setEport e.num { p with an := p.an.tail }

def execBrgEpRxPop (e : Engine) (s : State) : Host.Outcome State Fault Refusal := .next (epRxPop s e)

def execBrgEpAnPop (e : Engine) (s : State) : Host.Outcome State Fault Refusal := .next (epAnPop s e)

end Sys2Proof.Machine
end

