-- ==== Sys2Proof/Machine/Hexlo.lean ====
section
/-!
DEFINITION. Ethernet ports and Hexlo sessions (R218 to R238).

Readings and choices: log entries 13 (DESIGN CHOICE), 32 (DEDUCED).
-/

namespace Sys2Proof.Machine

/-! ### Ethernet ports (R218 to R220) -/

def State.updNet (s : State) (f : NetSt → NetSt) : State := { s with net := f s.net }

/-- What the last event sent or passed on is gone (an event of its own begins). -/
def netClear (s : State) : State := s.updNet fun n => { n with out := [], toMgmt := [] }

/-- The tag of a frame sent (R218): ETH_VLAN's, while it is enabled. -/
def sendTag (s : State) (p : Nat) : Option (Nat × Nat) :=
  if s.fb (ETH_VLAN_EN p) then some (s.fv (ETH_VLAN_PCP p), s.fv (ETH_VLAN_VID p)) else none

def netSend (s : State) (p : Nat) (x : EthOut) : State :=
  (s.incF (ETH_CNT_TX_FRAMES p)).updNet fun n => { n with out := n.out ++ [⟨sendTag s p, x⟩] }

/-- The port is powered, enabled and its link up: MGT runs in STABLED too (R17). -/
def ethUp (s : State) (p : Nat) : Bool := s.fb (ETH_CTRL_EN p) && s.fb (ETH_STATUS_LINK p) && (p = 2 || !s.stabled)

/-- The next hop toward an address: itself in the port's subnet, else the gateway (R226). -/
def nextHop (s : State) (p ip : Nat) : Nat :=
  let k := 2 ^ (32 - s.fv (ETH_PREFIX_PREFIX p))
  if ip / k = s.fv (ETH_IP_IP p) / k then ip else s.fv (ETH_GW_GW p)

def arpEntry (s : State) (p ip : Nat) : Option Nat := Store.get (fun _ => none) s.net.arp (p * 2 ^ 32 + ip)

/-- The speed of a port: as ETH_CTRL.MODE selects on ETH-A and ETH-B (R218), as negotiated on MGT (R220). -/
def portSpeed (s : State) (p : EthPort) (speed : BitVec 2) : Nat :=
  match p with
  | .mgt => speed.toNat
  | _ => if s.fv (ETH_CTRL_MODE p.num) = 1 then 1 else 0

/-- ETH_LINK_CHANGE (R158, R218): the port's lines; MGT has those of its PHY alone. -/
def ethLinkChange (s : State) (p : EthPort) (lines : BitVec 6) (speed : BitVec 2) : State :=
  let n := p.num
  let up := match p with
    | .mgt => lines.getLsbD 4
    | _ => lines.getLsbD 4 && !lines.getLsbD 5 && !lines.getLsbD 1 && !lines.getLsbD 2 && !lines.getLsbD 0
  let s := match p with
    | .mgt => s
    | _ => ((s.setB (ETH_STATUS_MOD_ABS n) (lines.getLsbD 0)).setB (ETH_STATUS_LOS n) (lines.getLsbD 1)).setB
        (ETH_STATUS_TX_FAULT n) (lines.getLsbD 2)
  let s := s.setF (ETH_STATUS_SPEED n) (portSpeed s p speed)
  if s.fb (ETH_STATUS_LINK n) = up then s else (s.setB (ETH_STATUS_LINK n) up).raiseAll (69 + n)

def execEthLinkChange (p : EthPort) (lines : BitVec 6) (speed : BitVec 2) (s : State) : Host.Outcome State Fault Refusal :=
  .next (ethLinkChange s p lines speed)

/-- Dropped under R219 or R220. -/
def ethFiltered (s : State) (p : Nat) : State := s.incF (ETH_DROP_FILTERED p)

/-- The tag is as ETH_VLAN requires. -/
def tagOk (s : State) (p : Nat) (f : EthFrame) : Bool :=
  if s.fb (ETH_VLAN_EN p) then f.tag = some (BitVec.ofNat 12 (s.fv (ETH_VLAN_VID p))) else f.tag = none

/-- A UDP datagram to the Hexlo port (R219, R221). -/
def isHexlo (s : State) (f : EthFrame) : Bool :=
  match f.kind with
  | .ip d => d.plain && d.proto = 17 && d.dstPort.toNat = s.fv HXL_CTRL_UDP_PORT
  | _ => false

/-- The port's 32 KiB receive FIFO takes the frame (R262): above 75 % fill Hexlo and PTP alone, and those until it is full. -/
def fifoTakes (s : State) (f : EthFrame) : Bool :=
  if isHexlo s f ∨ f.kind = .ptp then decide (f.fill + f.len ≤ 32768)
  else decide (f.fill ≤ 24576) && decide (f.fill + f.len ≤ 32768)

/-- The identifier of other UDP and TCP traffic (R245). -/
def ipIdentifier (d : IpPacket) : Nat := 0xE0000000 + d.proto.toNat * 0x10000 + d.dstPort.toNat

/-- UDP or TCP to the port's address, other than Hexlo (R219, R245): to the bridge's port it is a bridge message, which acts by
BRIDGE_MESSAGE_INGRESS or BRIDGE_ANSWER; any other is passed whole to MGMT where a route says so, and otherwise dropped and counted. -/
def otherIp (s : State) (p : Nat) (d : IpPacket) : State :=
  if ¬ (d.plain ∧ (d.proto = 17 ∨ d.proto = 6) ∧ d.dst.toNat = s.fv (ETH_IP_IP p)) then ethFiltered s p
  else if d.proto = 17 ∧ d.dstPort.toNat = s.fv BRG_CTRL_UDP_PORT then s
  else if ¬ (s.fb BRG_CTRL_EN ∧ bridgeOn s) then ethFiltered s p
  else match (s.findRoute (8 + p) (ipIdentifier d)).map fun k => (s.route k).outPort with
    | some 15 => s.updNet fun x => { x with toMgmt := x.toMgmt ++ [(p, d)] }
    | _ => s.incF BRG_DROP_NO_ROUTE

/-- ETH_FRAME_RX (R219, R220): counted, and dropped or passed on. What is passed on (to the time unit, the Hexlo engine or the bridge) acts
by its own command. -/
def ethFrameRx (s : State) (p : EthPort) (f : EthFrame) : State :=
  let n := p.num
  let s := netClear s
  if ¬ ethUp s n then s
  else
    let s := s.incF (ETH_CNT_RX_FRAMES n)
    if ¬ f.fcsOk then s.incF (ETH_DROP_FCS n)
    else if (if f.tag.isSome then 1522 else 1518) < f.len then s.incF (ETH_DROP_OVERSIZE n)
    else if ¬ tagOk s n f ∨ ¬ fifoTakes s f then ethFiltered s n
    else match f.kind with
      | .arpReply ip mac => s.updNet fun x => { x with arp := Store.put (fun _ => none) x.arp (n * 2 ^ 32 + ip.toNat) (some mac.toNat) }
      | .ptp => if p = .mgt then ethFiltered s n else s
      | .ip d => if isHexlo s f then (if p = .mgt then ethFiltered s n else s) else otherIp s n d
      | .otherType => ethFiltered s n

def execEthFrameRx (p : EthPort) (f : EthFrame) (s : State) : Host.Outcome State Fault Refusal := .next (ethFrameRx s p f)

/-- ARP_REQUEST (R219): answered when it asks for the port's address. -/
def arpRequest (s : State) (p : EthPort) (target sender : Word) (mac : BitVec 48) : State :=
  let n := p.num
  let s := netClear s
  if ¬ ethUp s n then s
  else
    let s := s.incF (ETH_CNT_RX_FRAMES n)
    if target.toNat = s.fv (ETH_IP_IP n) then netSend s n (.arpReply n sender.toNat mac.toNat) else ethFiltered s n

def execArpRequest (p : EthPort) (target sender : Word) (mac : BitVec 48) (s : State) : Host.Outcome State Fault Refusal :=
  .next (arpRequest s p target sender mac)

/-- ICMP_ECHO_REQUEST (R219): answered, at most 10 in a second of T. -/
def icmpEcho (s : State) (p : EthPort) (src dst : Word) : State :=
  let n := p.num
  let s := netClear s
  if ¬ ethUp s n then s
  else
    let s := s.incF (ETH_CNT_RX_FRAMES n)
    let sec := s.time.t / 1000000000
    let e := Store.get (fun _ => (0, 0)) s.net.echo n
    let k := if e.1 = sec then e.2 else 0
    if dst.toNat = s.fv (ETH_IP_IP n) ∧ k < 10 then
      netSend (s.updNet fun x => { x with echo := Store.put (fun _ => (0, 0)) x.echo n (sec, k + 1) }) n (.echoReply n src.toNat)
    else ethFiltered s n

def execIcmpEchoRequest (p : EthPort) (src dst : Word) (s : State) : Host.Outcome State Fault Refusal := .next (icmpEcho s p src dst)

/-! ### Sessions -/

def State.ses (s : State) (n : Nat) : HexSes := Store.get (fun _ => HexSes.init) s.hex n

def State.updSes (s : State) (n : Nat) (f : HexSes → HexSes) : State :=
  { s with hex := Store.modify (fun _ => HexSes.init) s.hex n f }

def sessions : List Nat := (List.range 127).map fun k => k + 1

/-- 0 OFF, 1 RESYNC, 2 OPEN, 3 CLOSED. -/
def sesState (s : State) (n : Nat) : Nat := s.fv (HXL_SSTAT_STATE n)

/-- EN of a session and of the engine. -/
def sesEn (s : State) (n : Nat) : Bool := s.fb HXL_CTRL_EN && s.fb (HXL_SCFG0_EN n)

def sesW (s : State) (n : Nat) : Nat := s.fv (HXL_SCFG0_WIN_M1 n) + 1

def sesFreshT (s : State) (n : Nat) : Nat := s.fv (HXL_SCFG0_FRESH_M1 n) + 1

/-- A state transition: source 64 and its record (R225). -/
def sesGo (s : State) (n new : Nat) : State :=
  let old := sesState s n
  if old = new then s
  else
    let s := ((s.setF (HXL_SSTAT_STATE n) new).raiseAll 64).record 0x07 0x01 n (beBytes 1 old ++ beBytes 1 new)
    match new with
    | 3 => s.updSes n fun x => { x with copies := [], wait := [], done := [], closedE := s.E, reopen := false }
    | 0 =>
      -- an OFF session has neither freezes nor paths to show
      let s := (((s.setF (HXL_SSTAT_FRESH n) 0).setF (HXL_SSTAT_DEGRADED n) 0).setF (HXL_SSTAT_PATH_A n) 0).setF (HXL_SSTAT_PATH_B n) 0
      ((s.setF (HXL_SSTAT_DIV_100 n) 0).setF (HXL_SSTAT_SILENT n) 0).updSes n fun x => { HexSes.init with lastStamp := x.lastStamp }
    | _ => s

/-- A per-session event is counted (HXL_EVT). -/
def sesCount (s : State) (n : Nat) (f : Fld) (k : Nat := 1) : State := if k = 0 then s else (s.incF f k).setF HXL_EVT_LAST_SESSION n

/-- A divergence: counted, source 65, recorded; the third within 100 epochs closes the session (R225, R230). -/
def diverge (s : State) (n : Nat) : State :=
  let e := s.E
  let ds := ((s.ses n).divs.filter fun x => decide (e < x + 100)) ++ [e]
  let s := ((sesCount s n (HXL_SCNT0_DIVERGE n)).raiseAll 65).record 0x07 0x04 n []
  let s := (s.updSes n fun x => { x with divs := ds }).setF (HXL_SSTAT_DIV_100 n) (min 3 ds.length)
  if 3 ≤ ds.length ∧ (sesState s n = 1 ∨ sesState s n = 2) then sesGo s n 3 else s

/-! ### A message as bytes (R221) -/

def hxSeq (b : List Byte) : Nat := bytesAt b 8 4
def hxStamp (b : List Byte) : Nat := bytesAt b 12 6
def hxLen (b : List Byte) : Nat := bytesAt b 18 2
def hxPayload (b : List Byte) : List Byte := (b.drop 36).take (hxLen b)

/-- s is later than t in serial order (R231). -/
def serialLater (a t : Nat) : Bool :=
  let d := (a + 2 ^ 32 - t) % 2 ^ 32
  decide (1 ≤ d) && decide (d < 2 ^ 31)

/-- How far a number lies ahead of NEXP. -/
def ahead (s : State) (n q : Nat) : Nat := (q + 2 ^ 32 - s.fv (HXL_SNEXP_NEXP n)) % 2 ^ 32

/-! ### Release and delivery (R231) -/

/-- A message is released and delivered: it waits for the freeze. An identical pair starts the count of R234 anew, any other delivery counts
in it. -/
def deliver (s : State) (n : Nat) (c : HexCopy) (gap : Nat) (resync : Bool) : State :=
  let sg : Bool := c.res = .single
  let x := s.ses n
  let g := min 65535 (x.staleGap + (if resync then 0 else gap + x.carryGap))
  let s := if sg then sesCount s n (if c.onB then HXL_SCNT1_SINGLE_B n else HXL_SCNT1_SINGLE_A n) else s
  let s := s.setF (HXL_SLAST_E_LAST_E n) (hxStamp c.bytes % 2 ^ 32)
  let s := s.updSes n fun x => { x with
    wait := x.wait ++ [⟨c.bytes, g, resync, sg⟩], carryGap := 0, staleGap := 0, lastStamp := hxStamp c.bytes, got := true,
    delivered := c.res ≠ .pair, noPair := if c.res = .pair then 0 else x.noPair,
    netLast := if c.onB then 2 else 1, done := (c.seq, c.bytes) :: if resync then [] else x.done }
  let s := (s.setF (HXL_SNEXP_NEXP n) ((c.seq + 1) % 2 ^ 32)).setF (HXL_SSTAT_SILENT n) 0
  if sesState s n = 1 then sesGo s n 2 else s

def dropCopy (s : State) (n q : Nat) : State := s.updSes n fun x => { x with copies := x.copies.filter fun c => c.seq ≠ q }

/-- The held number that lies next from NEXP. -/
def nearest (s : State) (n : Nat) : Option HexCopy :=
  (s.ses n).copies.foldl (fun m c => match m with
    | none => some c
    | some b => if ahead s n c.seq < ahead s n b.seq then some c else some b) none

/-- Numbers from NEXP that have no copy are due as gaps: W strobes since the first arrival of a later message. A copy kept from before a
RESYNC that lies below NEXP is no later message. -/
def gapDue (s : State) (n : Nat) : Bool :=
  (s.ses n).copies.any fun c => decide (sesW s n ≤ c.age) && serialLater c.seq (s.fv (HXL_SNEXP_NEXP n))

/-- One release in RESYNC: the first resolved message, delivered or LATE. -/
def releaseResync (s : State) (n : Nat) : State :=
  match (s.ses n).copies.find? fun c => c.res = .single || c.res = .pair with
  | some c =>
    let s' := dropCopy s n c.seq
    if (s.ses n).lastStamp < hxStamp c.bytes then deliver s' n c 0 true else sesCount s' n (HXL_SCNT1_LATE n)
  | none => s

/-- One release in OPEN. `gap`: consecutive gaps already passed. Answers the state and the gaps still to be counted into a message. -/
def releaseOpen (s : State) (n gap : Nat) : State × Nat :=
  match nearest s n with
  | none => (s, gap)
  | some c =>
    let d := ahead s n c.seq
    if 2 ^ 31 ≤ d then
      -- a copy held since RESYNC that now lies below NEXP
      match c.res with
      | .waiting => (s, gap)
      | .gap => (dropCopy s n c.seq, gap)
      | _ => (sesCount (dropCopy s n c.seq) n (HXL_SCNT1_LATE n), gap)
    else if d ≠ 0 then
      if gapDue s n then ((sesCount s n (HXL_SCNT0_GAPS n) d).setF (HXL_SNEXP_NEXP n) c.seq, gap + d) else (s, gap)
    else match c.res with
      | .waiting => (s, gap)
      | .gap => ((dropCopy s n c.seq).setF (HXL_SNEXP_NEXP n) ((c.seq + 1) % 2 ^ 32), gap + 1)
      | _ => (deliver (dropCopy s n c.seq) n c gap false, 0)

/-- Release what may be released. Each message takes at most two steps; gaps passed with no message released yet stay counted for the next
one (`carryGap`). -/
def releaseAll (n : Nat) : Nat → State → Nat → State
  | 0, s, gap => s.updSes n fun x => { x with carryGap := x.carryGap + gap }
  | k + 1, s, gap =>
    if sesState s n = 1 then releaseAll n k (releaseResync s n) gap
    else if sesState s n = 2 then
      let r := releaseOpen s n gap
      releaseAll n k r.1 r.2
    else s

def release (s : State) (n : Nat) : State := releaseAll n (2 * (s.ses n).copies.length + 2) s 0

/-- The copy of a number is resolved. -/
def resolve (s : State) (n q : Nat) (r : HexRes) : State :=
  s.updSes n fun x => { x with copies := x.copies.map fun c => if c.seq = q then { c with res := r } else c }

/-- Windows whose W-th strobe has come are closed: their message is SINGLE (R230). -/
def closeWindow (s : State) (n q : Nat) : State :=
  match (s.ses n).copies.find? fun c => c.seq = q && c.res = .waiting && decide (sesW s n ≤ c.age) with
  | some _ => resolve s n q .single
  | none => s

/-- HEXLO_WINDOW_CLOSE. -/
def execHexloWindowClose (ses : BitVec 7) (seq : Word) (s : State) : Host.Outcome State Fault Refusal :=
  .next (release (closeWindow s ses.toNat seq.toNat) ses.toNat)

/-- HEXLO_GAP_TIMEOUT: numbers of which no copy has arrived are gaps at the W-th strobe after a later message (R231). -/
def execHexloGapTimeout (ses : BitVec 7) (s : State) : Host.Outcome State Fault Refusal := .next (release s ses.toNat)

/-! ### Receiving (R229, R230, R232) -/

/-- Buffers a session holds: copies, resolved messages and delivered messages waiting. -/
def sesBufs (x : HexSes) : Nat := (x.copies.filter fun c => c.res ≠ .gap).length + x.wait.length

def poolUsed (s : State) : Nat := (sessions.map fun n => sesBufs (s.ses n)).sum

/-- An identical pair clears DEGRADED (R234). -/
def identicalPair (s : State) (n : Nat) : State :=
  let s := s.updSes n fun x => { x with noPair := 0, delivered := false }
  if s.fb (HXL_SSTAT_DEGRADED n) then
    ((s.setF (HXL_SSTAT_DEGRADED n) 0).raiseAll 66).record 0x07 0x03 n (beBytes 1 (s.ses n).netLast)
  else s

/-- A message of the number that is resolved and held, or has been delivered. -/
def heldMessage (s : State) (n q : Nat) : Option (List Byte) :=
  match (s.ses n).copies.find? fun c => c.seq = q && (c.res = .single || c.res = .pair) with
  | some c => some c.bytes
  | none => ((s.ses n).done.find? fun d => d.1 = q).map fun d => d.2

/-- The copy belongs to a sequence that has started again, as after a cold takeover of the peer (R228): its number has been delivered, but its
STAMP is later than the last one delivered. -/
def restarted (s : State) (n : Nat) (b : List Byte) : Bool :=
  !((s.ses n).copies.any fun c => c.seq = hxSeq b) && decide ((s.ses n).lastStamp < hxStamp b)

/-- The copy is of a number resolved as a gap, or below NEXP. -/
def copyLate (s : State) (n q : Nat) : Bool :=
  ((s.ses n).copies.any fun c => c.seq = q && c.res = .gap) || (sesState s n = 2 && serialLater (s.fv (HXL_SNEXP_NEXP n)) q)

/-- A first copy of a number: late, or held (R230). -/
def newCopy (s : State) (n : Nat) (onB : Bool) (b : List Byte) : State :=
  let q := hxSeq b
  if copyLate s n q then sesCount s n (HXL_SCNT1_LATE n)
  else s.updSes n fun x => { x with copies := x.copies ++ [⟨q, b, onB, 0, .waiting⟩] }

/-- A copy that finds the pool or its session's share full is discarded (R232). -/
def noBuffer (s : State) (n : Nat) : Option State :=
  if 448 ≤ poolUsed s then some (((s.incF HXL_ERR_POOL_OVF).raiseAll 68).record 0x07 0x06 n [])
  else if 16 ≤ sesBufs (s.ses n) then some (((sesCount s n (HXL_SCNT1_QUEUE_OVF n)).raiseAll 68).record 0x07 0x06 n [])
  else none

/-- A copy against the copies of its number (R230). -/
def compareCopy (s : State) (n : Nat) (onB : Bool) (b : List Byte) : State :=
  let q := hxSeq b
  match (s.ses n).copies.find? fun c => c.seq = q && c.res = .waiting with
  | some c =>
    if c.bytes = b then release (identicalPair (resolve s n q .pair) n) n
    else
      let s := sesCount (resolve s n q .gap) n (HXL_SCNT0_GAPS n)
      release (diverge s n) n
  | none =>
    match heldMessage s n q with
    | some m => if m = b then sesCount s n (HXL_SCNT0_DUP n) else if restarted s n b then newCopy s n onB b else diverge s n
    | none => newCopy s n onB b

/-- A copy that has passed the checks of R229. -/
def takeCopy (s : State) (n : Nat) (onB : Bool) (b : List Byte) : State :=
  let q := hxSeq b
  let e := s.E
  let s := s.updSes n fun x => if onB then { x with pathB := some e } else { x with pathA := some e }
  let s := s.setF (if onB then HXL_SSTAT_PATH_B n else HXL_SSTAT_PATH_A n) 1
  let s := release (closeWindow s n q) n
  (noBuffer s n).getD (compareCopy s n onB b)

/-- The key under which a session's received tags verify; none: never entered. -/
def hxTag (key : BitVec 256) (b : List Byte) : List Byte := (hmacSha256 (beBytes 32 key.toNat) b).take 16

def tagVerifies (s : State) (n : Nat) (b : List Byte) : Bool :=
  match Store.get (fun _ => none) s.sec.hxKeys (2 * n + 1) with
  | some k => hxTag k (b.take (36 + hxLen b)) = (b.drop (36 + hxLen b))
  | none => false

/-- HEXLO_DATAGRAM (R229): on ETH-A or ETH-B, to an IPv4 address and the Hexlo UDP port (R219, R221); `b`: the UDP payload. -/
def hexloDatagram (s : State) (onB : Bool) (udp : BitVec 16) (dst : Word) (b : List Byte) : State :=
  let n := bytesAt b 4 1
  let bad := fun (f : Fld) => s.incF f
  let toUs := dst.toNat = s.fv (ETH_IP_IP (b2n onB)) ∨ (s.fb (HXL_SCFG0_MCAST_EN n) ∧ dst = s.rd (HXL_SMCAST n))
  if ¬ (s.fb HXL_CTRL_EN ∧ ethUp s (b2n onB) ∧ udp.toNat = s.fv HXL_CTRL_UDP_PORT) then s
  else if b.length < 52 ∨ bytesAt b 0 2 ≠ 0x4858 ∨ bytesAt b 2 1 ≠ 1 ∨ 1024 < hxLen b ∨ b.length ≠ 52 + hxLen b then bad HXL_ERR_MALFORMED
  else if n = 0 ∨ 127 < n ∨ ¬ toUs ∨ ¬ s.fb (HXL_SCFG0_RX_EN n) ∨ sesState s n = 0 ∨ sesState s n = 3 then bad HXL_ERR_UNKNOWN
  else if bytesAt b 20 4 ≠ (s.rd (HXL_SPEER_ID n)).toNat ∨ bytesAt b 24 4 ≠ (s.rd (HXL_SLOCAL_ID n)).toNat then bad HXL_ERR_UNKNOWN
  else if bytesAt b 3 1 < s.fv (HXL_SCFG1_IFV_LO n) ∨ s.fv (HXL_SCFG1_IFV_HI n) < bytesAt b 3 1 then bad HXL_ERR_MALFORMED
  else if ¬ tagVerifies s n b then ((s.incF HXL_ERR_TAG_FAIL).raiseAll 67).record 0x07 0x05 n []
  else takeCopy s n onB b

def execHexloDatagram (onB : Bool) (dst : UdpDst) (bytes : List Byte) (s : State) : Host.Outcome State Fault Refusal :=
  .next (hexloDatagram s onB dst.udp dst.addr bytes)

/-! ### Transitions by time and by command (R225, R234) -/

/-- FRESH_T freezes without a delivery: OPEN goes to RESYNC. -/
def sesStale (s : State) (n : Nat) : State :=
  if sesState s n = 2 ∧ sesFreshT s n ≤ s.fv (HXL_SSTAT_SILENT n) then release (sesGo s n 1) n else s

/-- HEXLO_SESSION_STALE. -/
def execHexloSessionStale (ses : BitVec 7) (s : State) : Host.Outcome State Fault Refusal := .next (sesStale s ses.toNat)

/-- HEXLO_AUTO_REOPEN: REOPEN_T epochs since closure; RESYNC at the next tick 0. -/
def execHexloAutoReopen (ses : BitVec 7) (s : State) : Host.Outcome State Fault Refusal :=
  .next (
    let n := ses.toNat
    if sesState s n = 3 ∧ s.fb (HXL_SCFG0_AUTO_REOPEN n) ∧ (s.ses n).closedE + (s.fv (HXL_SCFG0_REOPEN_M1 n) + 1) * 100 ≤ s.E then
      s.updSes n fun x => { x with reopen := true }
    else s)

/-- HEXLO_DEGRADED: 1,000 epochs of deliveries without an identical pair. -/
def execHexloDegraded (ses : BitVec 7) (s : State) : Host.Outcome State Fault Refusal :=
  .next (
    let n := ses.toNat
    let x := s.ses n
    if 1000 ≤ x.noPair ∧ x.delivered ∧ ¬ s.fb (HXL_SSTAT_DEGRADED n) then
      ((s.setF (HXL_SSTAT_DEGRADED n) 1).raiseAll 66).record 0x07 0x02 n (beBytes 1 x.netLast)
    else s)

/-- HXL_CMD: a command waits for tick 0; the last one written counts. Session 0 ignores the write, command 0 commands nothing. -/
def hxlCmd (s : State) (n c : Nat) : State := if n = 0 ∨ c = 0 then s else s.updSes n fun x => { x with command := c }

def execHxlCmdResync (ses : BitVec 7) (s : State) : Host.Outcome State Fault Refusal := .next (hxlCmd s ses.toNat 1)

def execHxlCmdReopen (ses : BitVec 7) (s : State) : Host.Outcome State Fault Refusal := .next (hxlCmd s ses.toNat 2)

def execHxlCmdClose (ses : BitVec 7) (s : State) : Host.Outcome State Fault Refusal := .next (hxlCmd s ses.toNat 3)

/-- The commands of one session at tick 0, after the engine's own changes (R238): a session that this freeze made stale goes to RESYNC before
its command applies. -/
def sesCommand (s : State) (n : Nat) : State :=
  let x := s.ses n
  let s := if x.command ≠ 0 then sesStale s n else s
  let s := if sesState s n = 3 ∧ x.reopen then sesGo s n 1 else s
  let c := x.command
  let s := s.updSes n fun x => { x with command := 0, reopen := false }
  let st := sesState s n
  if c = 1 ∧ st = 2 then release (sesGo s n 1) n
  else if c = 2 ∧ st = 3 then sesGo s n 1
  else if c = 3 ∧ (st = 1 ∨ st = 2) then sesGo s n 3
  else s

/-- EN as committed (R225). -/
def sesFollow (s : State) (n : Nat) : State :=
  if sesEn s n then (if sesState s n = 0 then sesGo s n 1 else s) else sesGo s n 0

/-- After a COMMIT: sessions, and TX_DISABLE of the two SFP+ ports. -/
def hexFollow (s : State) : State :=
  let s := sessions.foldl sesFollow s
  [0, 1].foldl (fun s p => s.setB (ETH_STATUS_TX_DISABLE p) (!s.fb (ETH_CTRL_EN p))) s

/-! ### Tick strobes -/

/-- Every strobe: windows age. -/
def hexTick (s : State) : State :=
  sessions.foldl (fun s n => if (s.ses n).copies = [] then s
    else s.updSes n fun x => { x with copies := x.copies.map fun c => { c with age := c.age + 1 } }) s

/-- Age of a waiting message at the freeze of epoch e (R233). -/
def waitFresh (e f : Nat) (w : HexWait) : Bool := decide (hxStamp w.bytes ≤ e) && decide (e ≤ hxStamp w.bytes + f)

/-- Discard the stale messages; each is a gap of the next one delivered. Answers what is kept and the gaps carried past the end. -/
def dropStale (e f : Nat) : Nat → List HexWait → List HexWait × Nat
  | c, [] => ([], c)
  | c, w :: r =>
    if waitFresh e f w then
      let x := dropStale e f 0 r
      ({ w with gap := min 65535 (w.gap + c) } :: x.1, x.2)
    else dropStale e f (c + 1) r

/-- The status word a lane forms of a frozen message (R236). -/
def slotStatus (s : State) (l : Lane) (n e : Nat) (w : HexWait) : Nat :=
  let b := w.bytes
  let pair := bytesAt b 5 1 % 4
  let str := hexloString n (bytesAt b 6 2) (hxStamp b) (hxSeq b) (bytesAt b 20 4) (bytesAt b 24 4) (hxPayload b)
  let codes := match pairLanes pair with
    | some (x, y) => s.verifyCode l (slotInSes x.num n) str ((b.drop 28).take 4) && s.verifyCode l (slotInSes y.num n) str ((b.drop 32).take 4)
    | none => false
  let topo : Bool := if s.fb (HXL_SCFG0_TOPO_USE n) then
      bytesAt b 6 2 = Store.get (fun _ => 0) (s.lane l).frozenTopo (s.fv (HXL_SCFG0_TOPO_RING n))
    else bytesAt b 6 2 = 0
  let age := waitFresh e (sesFreshT s n) w
  let ids : Bool := bytesAt b 20 4 = (s.rd (HXL_SPEER_ID n)).toNat && bytesAt b 24 4 = (s.rd (HXL_SLOCAL_ID n)).toNat
  hxLen b * 65536 + pair * 16384 +
    bitsOf [false, true, false, ids, age, topo, codes, codes && topo && age && ids, false, false, false, w.single, w.gap ≠ 0, w.resync]

/-- The words of a slot (R235), from its offset 0. -/
def slotWords (s : State) (l : Lane) (n e : Nat) (w : HexWait) : List Word :=
  let b := w.bytes
  let st := hxStamp b
  ([slotStatus s l n e w, hxSeq b, st % 2 ^ 32, bytesAt b 6 2 * 65536 + st / 2 ^ 32, bytesAt b 20 4, bytesAt b 24 4,
    w.gap * 65536 + bytesAt b 3 1 * 256].map fun x => BitVec.ofNat 32 x) ++ List.replicate 9 0 ++ wordsOf (hxPayload b)

def hexArea (n : Nat) : Nat := 0x06300000 + n * 0x2000

/-- The session status word (R235). -/
def sesStatus (s : State) (n count : Nat) : Word :=
  BitVec.ofNat 32 (count * 2 ^ 28 + sesState s n * 2 ^ 26 + s.fv (HXL_SSTAT_FRESH n) * 2 ^ 25 + s.fv (HXL_SSTAT_DEGRADED n) * 2 ^ 24 +
    s.fv (HXL_SSTAT_PATH_B n) * 2 ^ 23 + s.fv (HXL_SSTAT_PATH_A n) * 2 ^ 22)

def putWords (m : Store Word) (a : Nat) : List Word → Store Word
  | [] => m
  | w :: r => putWords (Store.put (fun _ => 0) m a w) (a + 4) r

/-- A lane's delivery area of one session. -/
def freezeSession (s : State) (l : Lane) (n e : Nat) (ws : List HexWait) : State :=
  let st := sesStatus s n ws.length
  s.updLane l fun x =>
    let m := Store.put (fun _ => 0) (Store.put (fun _ => 0) x.snap (0x06300000 + 4 * n) st) (hexArea n) st
    { x with snap := (List.range ws.length).foldl (fun m k =>
      putWords m (hexArea n + 0x80 + k * 0x440) (slotWords s l n e (ws.getD k ⟨[], 0, false, false⟩))) m }

/-- One session at the freeze of epoch e: stale messages go, FRESH, SILENT and PATH are judged, at most seven messages are frozen. -/
def sesFreeze (e : Nat) (s : State) (n : Nat) : State :=
  if sesState s n = 0 then s
  else
    let x := s.ses n
    let k := dropStale e (sesFreshT s n) 0 x.wait
    let stale := x.wait.length - k.1.length
    let s := sesCount (sesCount s n (HXL_SCNT0_STALE n) stale) n (HXL_SCNT0_GAPS n) stale
    let ws := k.1.take 7
    let ago := if ws = [] then x.frozenAgo.map fun a => a + 1 else some 0
    let pa := x.pathA.any fun a => decide (e < a + 100)
    let pb := x.pathB.any fun a => decide (e < a + 100)
    let ds := x.divs.filter fun d => decide (e < d + 100)
    let s := s.setF (HXL_SSTAT_SILENT n) (if x.got then 0 else min 65535 (s.fv (HXL_SSTAT_SILENT n) + 1))
    let s := s.setB (HXL_SSTAT_FRESH n) (ago.any fun a => decide (a < sesFreshT s n))
    let s := ((s.setB (HXL_SSTAT_PATH_A n) pa).setB (HXL_SSTAT_PATH_B n) pb).setF (HXL_SSTAT_DIV_100 n) (min 3 ds.length)
    let s := s.updSes n fun y => { y with
      wait := k.1.drop 7, staleGap := y.staleGap + k.2, got := false, frozenAgo := ago, divs := ds, noPair := y.noPair + 1 }
    s.forLanes fun s l => if (s.lane l).powered then freezeSession s l n e ws else s

/-- The Hexlo part of the freeze (R31, R233, R235): the delivery areas are formed anew. -/
def hexFreeze (s : State) : State :=
  let s := s.forLanes fun s l => s.updLane l fun x => { x with snap := x.snap.filter fun w => decide (w.1 < 0x06300000) }
  sessions.foldl (sesFreeze s.time.epoch) s

/-- Commands and reopening at tick 0. -/
def hexCommands (s : State) : State := sessions.foldl sesCommand s

/-! ### Sending (R226) -/

/-- A message as bytes, with its tag; without a key the tag is made under zero. -/
def hxMessage (s : State) (m : FxMsg) : List Byte :=
  let topo := if s.fb (HXL_SCFG0_TOPO_USE m.ses) then Store.get (fun _ => 0) s.fx.topo (s.fv (HXL_SCFG0_TOPO_RING m.ses)) else 0
  let b := beBytes 2 0x4858 ++ [1] ++ beBytes 1 (s.fv (HXL_SCFG1_TX_IFV m.ses)) ++ beBytes 1 m.ses ++ beBytes 1 m.pair ++ beBytes 2 topo ++
    beBytes 4 m.seq ++ beBytes 6 s.fx.pubE ++ beBytes 2 m.payload.length ++ beBytes 4 (s.rd (HXL_SLOCAL_ID m.ses)).toNat ++
    beBytes 4 (s.rd (HXL_SPEER_ID m.ses)).toNat ++ m.code1 ++ m.code2 ++ m.payload
  b ++ hxTag ((Store.get (fun _ => none) s.sec.hxKeys (2 * m.ses)).getD 0) b

/-- One copy on one network: sent, or counted in ARP_MISS. -/
def sendCopy (bytes : List Byte) (s : State) (p ip : Nat) : State :=
  match (if ip ≠ 0 ∧ ethUp s p then arpEntry s p (nextHop s p ip) else none) with
  | some mac => netSend s p (.hexlo p ip mac (s.fv HXL_CTRL_UDP_PORT) (s.fv HXL_CTRL_DSCP) bytes)
  | none => s.incF (ETH_DROP_ARP_MISS p)

def sendMsg (s : State) (m : FxMsg) : State :=
  let st := sesState s m.ses
  if s.fb (HXL_SCFG0_TX_EN m.ses) ∧ (st = 1 ∨ st = 2) then
    let b := hxMessage s m
    sendCopy b (sendCopy b s 0 (s.fv (HXL_SPEER_IP_A_PEER_IP_A m.ses))) 1 (s.fv (HXL_SPEER_IP_B_PEER_IP_B m.ses))
  else s

/-- HEXLO_SEND at the tick 17 strobe: the chosen messages, in ascending session order. -/
def hexSend (s : State) : State :=
  let s := netClear s
  if s.mode = .active ∧ s.fb HXL_CTRL_EN then
    (s.fx.msgs.mergeSort fun a b => decide (a.ses ≤ b.ses)).foldl sendMsg s
  else s

/-- Block 0x02 prepares: no ARP refreshes, no IGMP reports (R325). -/
def netQuiet (s : State) : Bool := s.prepared 2

/-- The next hops in use on a port: of the sessions that send. -/
def nextHops (s : State) (p : Nat) : List Nat :=
  ((sessions.filter fun n => s.fb (HXL_SCFG0_TX_EN n) && sesEn s n).map fun n =>
    if p = 0 then s.fv (HXL_SPEER_IP_A_PEER_IP_A n) else s.fv (HXL_SPEER_IP_B_PEER_IP_B n)).filterMap fun ip =>
      if ip = 0 then none else some (nextHop s p ip)

/-- ARP_REFRESH (R226): requests for every next hop in use; the replies are received frames. -/
def execArpRefresh (p : EthPort) (s : State) : Host.Outcome State Fault Refusal :=
  .next (
    let s := netClear s
    match p with
    | .mgt => s
    | p => if ethUp s p.num ∧ ¬ netQuiet s then (nextHops s p.num).eraseDups.foldl (fun s ip => netSend s p.num (.arpRequest p.num ip)) s else s)

/-- IGMP_REPORT (R224): an IGMPv2 report for each group in use. -/
def execIgmpReport (p : EthPort) (s : State) : Host.Outcome State Fault Refusal :=
  .next (
    let s := netClear s
    match p with
    | .mgt => s
    | p =>
      let gs := (sessions.filter fun n => s.fb (HXL_SCFG0_MCAST_EN n) && sesEn s n).map fun n => (s.rd (HXL_SMCAST n)).toNat
      if ethUp s p.num ∧ ¬ netQuiet s then gs.eraseDups.foldl (fun s g => netSend s p.num (.igmp p.num g)) s else s)

end Sys2Proof.Machine
end

