-- ==== Sys2Proof/Machine/FieldIo.lean ====
section
/-!
DEFINITION. The field channels: inputs and their filters (R264 to R270), gates (R70, R71, R272), test pulses (R273 to R276),
supervision, faults and their clearing (R277 to R281), the configuration confirm (R282).

Readings and choices: log entry 27 (DESIGN CHOICE).
-/

namespace Sys2Proof.Machine

def State.part (s : State) (l : Lane) : IoPart := s.ix.parts.get l

def State.updPart (s : State) (l : Lane) (f : IoPart → IoPart) : State :=
  { s with ix := { s.ix with parts := s.ix.parts.set l (f (s.part l)) } }

/-- MODE of a channel: 0 input, 1 output, 2 brake (R264). -/
def chMode (s : State) (ch : Nat) : Nat := s.fv (IO_CH_CFG_MODE ch)

/-- An output-capable channel in output or brake mode. -/
def isOutput (s : State) (ch : Nat) : Bool := ch < 24 && (chMode s ch = 1 || chMode s ch = 2)

/-- The supply group of a channel: 0 for group 1, 1 for group 2 (R264). -/
def groupOf (ch : Nat) : Nat := if ch < 12 then 0 else 1

def channels : List Nat := List.range 48
def outChannels : List Nat := List.range 24

/-- The state of a channel as a lane receives it: an input in DISCREPANCY is held at 0 (R269). -/
def inputState (s : State) (l : Lane) (ch : Nat) : Bool :=
  natBit (s.part l).st ch && !(natBit (s.part l).disc ch && !isOutput s ch)

/-! ### Faults (R279) -/

/-- A fault is recorded: IO_FLT_REC, its event record, source 32. -/
def ioFault (s : State) (code ch ch2 : Nat) (by3 : Nat) : State :=
  let s := ((s.setF IO_FLT_REC_0_CODE code).setF IO_FLT_REC_0_CH ch).setF IO_FLT_REC_0_CH2 ch2
  let s := (s.setF IO_FLT_REC_0_LANES by3).setF IO_FLT_REC_1_EPOCH (s.E % 2 ^ 32)
  (s.raiseAll 32).recordRegs 0x08 0x01 0 [IO_FLT_REC_0, IO_FLT_REC_1]

/-- Bits 24 and 25 of a gate word are the group gates. -/
def grpBit (g : Nat) : Nat := 24 + g

/-- A network energised during its off-state gate item: the item ends INCOMPLETE (R382). -/
def gateItemCheck (s : State) (l : Lane) : State :=
  match (s.asy (.ix l)).running with
  | some i => if 48 ≤ ixItem l i ∧ ¬ (s.asy (.ix l)).wasOn ∧ conducts s ((ixItem l i - 48) / 2) then cutSlice 0 s (.ix l) else s
  | none => s

/-- The gates that a frame's word gives in a partition: a test pulse whose command the partition holds switches its channel off or on,
whatever the frame says (R271, R273), but not on where a fault or the group's own gate keeps it off (R71, R279). -/
def driven (s : State) (l : Lane) (w : Nat) : Nat :=
  match s.ix.pulse with
  | some p =>
    let faulty := natBit (s.part l).chFault p.ch || natBit (s.part l).grpFault (groupOf p.ch)
    if natBit p.by3 l.num then natSetBit w p.ch (!p.dark && !faulty && natBit w (grpBit (groupOf p.ch))) else w
  | none => w

/-- The gate word of a lane's frame as IX takes it: the comparison of a changed output is suspended for 2 ms, as is that of a group that
closes (R277); source 33 when a group's switch opens or closes. -/
def setGates (s : State) (l : Lane) (frame : Nat) : State :=
  let s := s.updPart l fun p => { p with frame := frame }
  let w := driven s l frame
  let old := s.ixGates.get l
  let c0 := conducts s 24
  let c1 := conducts s 25
  let s := s.updPart l fun p => { p with settle := outChannels.foldl (fun st ch =>
    if natBit old ch ≠ natBit w ch ∨ (natBit w (grpBit (groupOf ch)) ∧ ¬ natBit old (grpBit (groupOf ch))) then
      Store.put (fun _ => 0) st ch 40 else st) p.settle }
  let s := { s with ixGates := s.ixGates.set l w }.forLanes gateItemCheck
  if conducts s 24 ≠ c0 ∨ conducts s 25 ≠ c1 then s.raiseAll 33 else s

/-- A partition latches a group fault: its gates of the group and of the group's channels go off (R279). -/
def openGroup (s : State) (l : Lane) (g : Nat) : State :=
  let s := s.updPart l fun p => { p with grpFault := natSetBit p.grpFault g true }
  let off := outChannels.foldl (fun w ch => if groupOf ch = g then natSetBit w ch false else w)
    (natSetBit (s.part l).frame (grpBit g) false)
  setGates s l off

def openGroups (s : State) (by3 : Nat) (g : Nat) : State :=
  s.forLanes fun s l => if natBit by3 l.num then openGroup s l g else s

/-- A partition latches a channel fault: its gate of the channel goes off. -/
def openChannel (s : State) (by3 ch : Nat) : State :=
  s.forLanes fun s l =>
    if natBit by3 l.num then
      let s := s.updPart l fun p => { p with chFault := natSetBit p.chFault ch true }
      setGates s l (natSetBit (s.part l).frame ch false)
    else s

/-! ### Inputs (R267 to R269) -/

/-- One sample of a channel in one partition: the filter of R267, its two last lines in their order. The state of an input in DISCREPANCY is
`held` at 0 (R269). -/
def filterStep (flt : Nat) (held : Bool) (m : Bool) (p : IoPart) (ch : Nat) : IoPart :=
  let c := Store.get (fun _ => 0) p.cnt ch
  let c := if m ∧ c < flt then c + 1 else if ¬ m ∧ 0 < c then c - 1 else c
  { p with cnt := Store.put (fun _ => 0) p.cnt ch c,
           st := if c = 0 ∨ held then natSetBit p.st ch false else if c = flt then natSetBit p.st ch true else p.st }

/-- The majority of a channel's three comparators. -/
def majority3 (raw : PerLane (BitVec 48)) (ch : Nat) : Bool :=
  decide (2 ≤ (allLanes.filter fun l => (raw.get l).getLsbD ch).length)

/-- A test slot is each tick 18 and 19 (R273). -/
def inTestSlot (s : State) : Bool := s.time.tick = 18 || s.time.tick = 19

/-- The supervision of an output in one partition, outside test slots: the run of mismatches (R277). A sample that is not compared breaks a run
(log entry 27). -/
def superviseStep (s : State) (l : Lane) (m : Bool) (p : IoPart) (ch : Nat) : IoPart :=
  let w := s.ixGates.get l
  let n := Store.get (fun _ => 0) p.settle ch
  if ¬ natBit w (grpBit (groupOf ch)) ∨ inTestSlot s then { p with miss := Store.put (fun _ => 0) p.miss ch 0 }
  else if 0 < n then { p with settle := Store.put (fun _ => 0) p.settle ch (n - 1), miss := Store.put (fun _ => 0) p.miss ch 0 }
  else if m ≠ natBit w ch ∧ ¬ (natBit w ch ∧ natBit p.uv (groupOf ch)) then
    { p with miss := Store.put (fun _ => 0) p.miss ch (Store.get (fun _ => 0) p.miss ch + 1) }
  else { p with miss := Store.put (fun _ => 0) p.miss ch 0 }

/-- Lanes whose supervision of a channel reached 40 mismatches at this sample. -/
def missedBy (s : State) (ch : Nat) : Nat := laneMask fun l => Store.get (fun _ => 0) (s.part l).miss ch = 40

/-- OUTPUT_SUPERVISION_FAULT (R277): SHORT_SUPPLY on a channel that reads 1, OUT_LOW on one that reads 0. -/
def superviseFault (s : State) (ch : Nat) : State :=
  let by3 := missedBy s ch
  if by3 = 0 then s
  else if natBit s.ix.maj ch then openGroups (ioFault s 0x01 ch 0 by3) by3 (groupOf ch)
  else openChannel (ioFault s 0x02 ch 0 by3) by3 ch

/-- The odd comparator of a channel at a sample, if one differs from the other two. -/
def oddOne (raw : PerLane (BitVec 48)) (ch : Nat) : Option Lane :=
  let m := majority3 raw ch
  allLanes.find? fun l => (raw.get l).getLsbD ch ≠ m

/-- The channel whose comparator an item of lane `l` tests now (R373). -/
def testedCh (s : State) (l : Lane) : Option Nat :=
  match (s.asy (.ix l)).running with
  | some i => if ixItem l i < 48 then some (ixItem l i) else none
  | none => none

/-- A comparator under test counts as 0 in every majority (R373). -/
def testedRaw (s : State) (raw : PerLane (BitVec 48)) : PerLane (BitVec 48) :=
  let f := fun (l : Lane) =>
    match testedCh s l with
    | some ch => raw.get l &&& ~~~ (1#48 <<< ch)
    | none => raw.get l
  ⟨f .a, f .b, f .c⟩

/-- A channel is taken as in DISCREPANCY (code 0x06 of R279): held at 0 in every partition, the group of an output opens. -/
def discrepant (s : State) (ch by3 : Nat) : State :=
  let hold := !isOutput s ch
  let s := s.forLanes fun s l => s.updPart l fun p => { p with
    disc := natSetBit p.disc ch true, st := if hold then natSetBit p.st ch false else p.st }
  let s := (ioFault s 0x06 ch 0 by3).raiseAll 34
  if isOutput s ch then openGroups s 7 (groupOf ch) else s

/-- INPUT_DISCREPANCY (R269): 2,000 consecutive samples with the same odd comparator; a comparator under test is not counted (R373). A
cleared fault whose cause is still there is found again (R280): the DISCREPANCY itself, or of an output the group fault alone. -/
def discStep (raw : PerLane (BitVec 48)) (s : State) (ch : Nat) : State :=
  let odd := (oddOne raw ch).filter fun l => testedCh s l ≠ some ch
  let run := fun (l : Lane) => if odd = some l then min 2000 (Store.get (fun _ => 0) s.ix.discRun (3 * ch + l.num) + 1) else 0
  let s' := { s with ix := { s.ix with discRun := allLanes.foldl (fun m l => Store.put (fun _ => 0) m (3 * ch + l.num) (run l)) s.ix.discRun } }
  let s' := if odd ≠ none then s'.incF IO_CNT_DISC else s'
  let gone := fun (l : Lane) => !natBit (s.part l).disc ch || (isOutput s ch && !natBit (s.part l).grpFault (groupOf ch))
  if (allLanes.any fun l => run l = 2000) && allLanes.any gone then discrepant s' ch 7 else s'

/-- IX is powered and clocked. -/
def ixOn (s : State) : Bool := s.alive

/-- IO_SAMPLE (R267): sample, filter, stream to the lanes, supervise. -/
def ioSample (s : State) (inp : IoIn) : State :=
  if ¬ ixOn s then s
  else
    let raw := testedRaw s inp.raw
    let maj := bitsOf (channels.map fun ch => majority3 raw ch)
    let s := { s with ix := { s.ix with
      maj := maj, sensed := inp.sensed.toNat,
      ready := channels.foldl (fun m ch => Store.put (fun _ => 0) m ch (min 200 (Store.get (fun _ => 0) m ch + 1))) s.ix.ready } }
    let s := (s.setF IO_VF_VF1 inp.vf1.toNat).setF IO_VF_VF2 inp.vf2.toNat
    let s0 := s
    let s := s.forLanes fun s l => s.updPart l fun p =>
      let p := channels.foldl (fun p ch =>
        filterStep (s0.fv (IO_CH_CFG_FLT ch)) (natBit p.disc ch && !isOutput s0 ch) (natBit maj ch) p ch) p
      (outChannels.filter fun ch => isOutput s0 ch).foldl (fun p ch => superviseStep s0 l (natBit maj ch) p ch) p
    let s := s.forLanes fun s l => s.updLane l fun x => { x with time := { x.time with samples := x.time.samples + 1 } }
    let s := channels.foldl (discStep raw) s
    outChannels.foldl superviseFault s

def execIoSample (inp : IoIn) (s : State) : Host.Outcome State Fault Refusal := .next (ioSample s inp)

/-- A channel is ready (R268). -/
def chReady (s : State) (ch : Nat) : Bool := decide (s.fv (IO_CH_CFG_FLT ch) ≤ Store.get (fun _ => 0) s.ix.ready ch)

/-- A commit changed FLT of a channel (R268): counters above it are clamped, the channel is not ready. -/
def fltChanged (s : State) (ch : Nat) : State :=
  let f := s.fv (IO_CH_CFG_FLT ch)
  let s := { s with ix := { s.ix with ready := Store.put (fun _ => 0) s.ix.ready ch 0 } }
  s.forLanes fun s l => s.updPart l fun p => { p with
    cnt := Store.put (fun _ => 0) p.cnt ch (min f (Store.get (fun _ => 0) p.cnt ch)) }

/-! ### Gates (R70 to R72, R272) -/

/-- The gate word of a lane's frame (R70, R272): nothing unless the lane is STARTING or VOTING and the module ACTIVE; a channel with a
latched fault, or in a group with one, stays off. -/
def gateWord (s : State) (l : Lane) : Nat :=
  let p := s.part l
  if ¬ ((s.lane l).st.counted ∧ s.mode = .active) then 0
  else
    let chans := outChannels.map fun ch =>
      !natBit p.chFault ch && !natBit p.grpFault (groupOf ch) &&
      (if chMode s ch = 1 then (s.lane l).pub.getLsbD ch
       else if chMode s ch = 2 ∧ 20 ≤ ch then natBit (s.brk.get l).gate (ch - 20)
       else false)
    bitsOf (chans ++ [!natBit p.grpFault 0, !natBit p.grpFault 1])

/-! ### Test commands (R273) -/

/-- The channel whose slot is tick `t` of this epoch. -/
def slotChannel (s : State) (t : Nat) : Nat := s.E % 12 * 2 + (if t = 18 then 0 else 1)

/-- The channel's interval has elapsed since its last test. -/
def testDue (s : State) (ch : Nat) : Bool :=
  match Store.get (fun _ => none) s.ix.lastTest ch with
  | some e => decide (e + (s.fv (IO_CH_TEST_INT_M1 ch) + 1) * 100 ≤ s.E)
  | none => true

/-- The test command that a lane's frame carries in the tick before a slot: of an output that is due, while the module is ACTIVE and IX does not
prepare for a power-state entry (R273, R325). -/
def testCommand (s : State) (l : Lane) : Nat :=
  let n := slotChannel s (s.time.tick + 1)
  if (s.time.tick = 17 ∨ s.time.tick = 18) ∧ (s.lane l).st.counted ∧ s.mode = .active ∧ isOutput s n ∧ testDue s n ∧ ¬ s.prepared 7 then
    natSetBit 0 n true
  else 0

/-- A partition takes what a frame carries: a slot's command stands until the slot is over. -/
def takeCommand (s : State) (l : Lane) : State :=
  let w := testCommand s l
  s.updPart l fun p => { p with test := if s.time.tick = 18 ∨ s.time.tick = 19 then Nat.lor p.test w else w }

/-- GATE_FRAME (R70): a lane's frame reaches IX. -/
def execGateFrame (l : Lane) (s : State) : Host.Outcome State Fault Refusal :=
  .next (if (s.lane l).powered ∧ ixOn s then setGates (takeCommand s l) l (gateWord s l) else s)

/-- GATE_LINK_TIMEOUT (R71): 40 µs without a valid frame: every gate of the lane off. -/
def execGateLinkTimeout (l : Lane) (s : State) : Host.Outcome State Fault Refusal := .next (setGates (dropFrame s l) l 0)

/-! ### Test pulses (R273 to R276) -/

/-- The slot of a channel: its epoch and tick (R273). -/
def inSlot (s : State) (ch : Nat) : Bool := inTestSlot s && ch = slotChannel s s.time.tick

/-- A supply group in undervoltage, by the majority of the partitions. -/
def groupUv (s : State) (g : Nat) : Bool := decide (2 ≤ (allLanes.filter fun l => natBit (s.part l).uv g).length)

def darkDue (s : State) (n : Nat) : Bool := s.fb (IO_CH_TEST_DARK_EN n) && conducts s n

def brightDue (s : State) (n : Nat) : Bool :=
  s.fb (IO_CH_TEST_BRIGHT_EN n) && chMode s n = 1 && !conducts s n && !groupUv s (groupOf n)

/-- The partitions that hold the test command of channel n. -/
def commanded (s : State) (n : Nat) : Nat := laneMask fun l => natBit (s.part l).test n

/-- A test pulse of channel n falls in this tick (R273 to R275): two partitions at least hold its command, and no partition holds the group's gates
off for a fault (R277). -/
def pulseDue (s : State) (n : Nat) : Bool :=
  isOutput s n && s.mode = .active && !s.prepared 7 && inSlot s n && testDue s n && decide (2 ≤ popCount 3 (commanded s n)) &&
  conducts s (grpBit (groupOf n)) && (allLanes.all fun l => !natBit (s.part l).grpFault (groupOf n)) &&
  (darkDue s n || brightDue s n)

/-- IX switches the pulse's channel into its test state, or back (R271). -/
def switchTest (s : State) (p : Option Pulse) : State :=
  ({ s with ix := { s.ix with pulse := p } }).forLanes fun s l => setGates s l (s.part l).frame

/-- TEST_PULSE_START (R273 to R275): a dark test of an energised channel, whose gates go off, or a bright test of an output that is off, whose
gates go on. -/
def execTestPulseStart (ch : BitVec 5) (s : State) : Host.Outcome State Fault Refusal :=
  .next (
    let n := ch.toNat
    if pulseDue s n ∧ s.ix.pulse = none then
      switchTest s (some ⟨n, darkDue s n, s.ix.maj, false, commanded s n⟩)
    else s)

/-- The readback of channel j at a 10 µs sample of a slot: the majority of its three comparators (R273); one under test counts as 0 (R373). -/
def readback (s : State) (w : PerLane (BitVec 24)) (j : Nat) : Bool :=
  decide (2 ≤ (allLanes.filter fun l => (w.get l).getLsbD j && testedCh s l ≠ some j).length)

/-- The readback of channel j at the last three samples of the pulse is v in all. -/
def heldAt (s : State) (last : List (PerLane (BitVec 24))) (j : Nat) (v : Bool) : Bool :=
  last.length = 3 && last.all fun w => readback s w j = v

/-- R276: another output that moved to the pulse's level is wired to the pulsed one; both groups open. -/
def wiredFault (p : Pulse) (s : State) (j : Nat) : State :=
  openGroups (openGroups (ioFault s 0x03 p.ch j 7) 7 (groupOf p.ch)) 7 (groupOf j)

/-- TEST_PULSE_END (R274 to R276): the channel goes back to its frames; pass, fail, WIRED or not run, from the comparators at the last three
samples. -/
def execTestPulseEnd (last : List (PerLane (BitVec 24))) (s : State) : Host.Outcome State Fault Refusal :=
  .next (
    match s.ix.pulse with
    | none => s
    | some p =>
      let heldAt := heldAt s last
      let s := switchTest s none
      let level := !p.dark
      let pass := heldAt p.ch level
      let fail := heldAt p.ch (!level)
      if p.spoilt then s
      else
        let s := if pass ∨ fail then
            { s with ix := { s.ix with lastTest := Store.put (fun _ => none) s.ix.lastTest p.ch (some s.E) } }
          else s
        let s := if p.dark ∧ (pass ∨ fail) then s.incF IO_CNT_DARK_RUN else s
        let wired := outChannels.filter fun j =>
          j ≠ p.ch && isOutput s j && natBit p.start j = !level && heldAt j level
        let s := if fail then
            (if p.dark then openGroups (ioFault s 0x01 p.ch 0 7) 7 (groupOf p.ch) else openChannel (ioFault s 0x02 p.ch 0 7) 7 p.ch)
          else s
        wired.foldl (wiredFault p) s)

/-- A pulse of the group counts as not run (R293). -/
def spoilPulse (s : State) (g : Nat) : State :=
  { s with ix := { s.ix with pulse := s.ix.pulse.map fun p => if groupOf p.ch = g then { p with spoilt := true } else p } }

/-! ### Reactions (R271, R278, R280, R281) -/

/-- OVERCURRENT (R271, R279): the stage has switched the channel off. -/
def execOvercurrent (ch : BitVec 5) (s : State) : Host.Outcome State Fault Refusal :=
  .next (
    let n := ch.toNat
    if isOutput s n then
      let s := { s with ix := { s.ix with pulse := s.ix.pulse.map fun p => if p.ch = n then { p with spoilt := true } else p } }
      openChannel (ioFault s 0x05 n 0 7) 7 n
    else s)

/-- The first channel of a supply group names the group in a fault record. -/
def grpChannel (g : Nat) : Nat := if g = 0 then 0 else 12

/-- VF_UNDERVOLTAGE (R278): a supply enters (below 16.0 V) or leaves (above 16.5 V) undervoltage in the partitions that see it. -/
def execVfUndervoltage (g2 : Bool) (enter : Bool) (by3 : BitVec 3) (s : State) : Host.Outcome State Fault Refusal :=
  .next (
    let g := b2n g2
    let s := s.forLanes fun s l => if by3.getLsbD l.num then s.updPart l fun p => { p with uv := natSetBit p.uv g enter } else s
    let s := if enter then ioFault (spoilPulse s g) 0x07 (grpChannel g) 0 by3.toNat else s
    (s.raiseAll 35).record 0x08 (if enter then 0x02 else 0x03) (g + 1) [])

/-- VF_OVERVOLTAGE (R278): above 32.0 V for 1 ms: the group opens. -/
def execVfOvervoltage (g2 : Bool) (by3 : BitVec 3) (s : State) : Host.Outcome State Fault Refusal :=
  .next (
    let g := b2n g2
    let s := s.forLanes fun s l => if by3.getLsbD l.num then s.updPart l fun p => { p with ov := natSetBit p.ov g true } else s
    (openGroups (ioFault s 0x08 (grpChannel g) 0 by3.toNat) by3.toNat g).raiseAll 35)

/-- The filtered feedback is not the inverse of the output's filtered readback (R281). -/
def feedbackBad (s : State) (l : Lane) (ch : Nat) : Bool :=
  inputState s l (s.fv (IO_CH_CFG_FB_CH ch)) = natBit (s.part l).st ch

/-- FEEDBACK_TIMEOUT (R281): the mismatch has lasted T_fb: the group of the output opens in each partition that sees it. -/
def execFeedbackTimeout (ch : BitVec 5) (s : State) : Host.Outcome State Fault Refusal :=
  .next (
    let n := ch.toNat
    let by3 := laneMask fun l => feedbackBad s l n
    if isOutput s n ∧ s.fb (IO_CH_CFG_FB_EN n) ∧ by3 ≠ 0 then
      openGroups (ioFault s 0x04 n (s.fv (IO_CH_CFG_FB_CH n)) by3) by3 (groupOf n)
    else s)

/-- IO_FLT_CLR (R280): the last mask a lane wrote in the epoch counts. -/
def writeFltClr (s : State) (l : Lane) (w : Nat) : State :=
  { s with brk := s.brk.set l { s.brk.get l with fltClr := some (w % 2 ^ 26) } }

def execIoFltClr (l : Lane) (mask : Word) (s : State) : Host.Outcome State Fault Refusal :=
  .next (if (s.lane l).powered then writeFltClr s l mask.toNat else s)

/-- The mask that at least two lanes wrote. -/
def twoAgree (f : Lane → Option Nat) : Option Nat :=
  if f .a ≠ none ∧ (f .a = f .b ∨ f .a = f .c) then f .a else if f .b ≠ none ∧ f .b = f .c then f .b else none

/-- Clear the faults a mask names in one partition. -/
def clearPart (w : Nat) (p : IoPart) : IoPart :=
  let chMask := w % 2 ^ 24
  let hi := if natBit w 25 then 0 else p.disc / 2 ^ 24 * 2 ^ 24
  let g := if natBit w 24 then natSetBit p.grpFault 0 false else p.grpFault
  { p with chFault := p.chFault - Nat.land p.chFault chMask,
           disc := (p.disc % 2 ^ 24 - Nat.land (p.disc % 2 ^ 24) chMask) + hi,
           grpFault := if natBit w 25 then natSetBit g 1 false else g,
           ov := if natBit w 25 then natSetBit (if natBit w 24 then natSetBit p.ov 0 false else p.ov) 1 false
                 else if natBit w 24 then natSetBit p.ov 0 false else p.ov }

/-- The clear of a tick 0 strobe (R280). -/
def clearTick0 (s : State) : State :=
  let m := twoAgree fun l => (s.brk.get l).fltClr
  let s := s.forLanes fun s l => { s with brk := s.brk.set l { s.brk.get l with fltClr := none } }
  match m with
  | some w => s.forLanes fun s l => s.updPart l (clearPart w)
  | none => s

/-! ### Configuration (R282) -/

/-- The keys of every IX configuration register, in address order. -/
def ioCfgKeys : List Nat :=
  channels.map IO_CH_CFG ++ outChannels.map IO_CH_TEST ++ (List.range 4).map BRK_CFG ++ [BRK_EB, BRK_TEST_CFG]

/-- IO_CFG_CRC: CRC-32C over the shadows. -/
def ioCfgCrc (s : State) : Nat := crc32c (wordsBytes (ioCfgKeys.map s.shRd))

/-- Lanes whose confirm equals IO_CFG_CRC. -/
def ioConfirms (s : State) : Nat := laneMask fun l => s.fv (IO_CONFIRM_CONFIRM l) = ioCfgCrc s

/-- IO_CONFIRM (R282): a lane writes its own confirm. -/
def execIoConfirm (l : Lane) (v : Word) (s : State) : Host.Outcome State Fault Refusal :=
  .next (if (s.lane l).powered then s.wr (IO_CONFIRM l) v else s)

/-! ### The freeze (R270) -/

/-- IO_FREEZE_LATCH for one lane: its filtered states and its fault summary. -/
def ioFreeze (s : State) (l : Lane) : State :=
  let p := s.part l
  let w := bitsOf (channels.map fun ch => inputState s l ch)
  let s := (s.wr (IO_FRZ_IN_LO l) (BitVec.ofNat 32 w)).wr (IO_FRZ_IN_HI l) (BitVec.ofNat 32 (w / 2 ^ 32))
  let notReady := channels.any fun ch => !chReady s ch
  let shut := fun g => natBit p.grpFault g || !natBit (s.ixGates.get l) (grpBit g)
  let s := (s.setF (IO_FRZ_FLT_LO_CHFLT l) p.chFault).setB (IO_FRZ_FLT_LO_NOT_READY l) notReady
  let s := (s.setB (IO_FRZ_FLT_LO_VF1_UV l) (natBit p.uv 0)).setB (IO_FRZ_FLT_LO_VF2_UV l) (natBit p.uv 1)
  let s := (s.setB (IO_FRZ_FLT_LO_GRP1_OPEN l) (shut 0)).setB (IO_FRZ_FLT_LO_GRP2_OPEN l) (shut 1)
  (s.wr (IO_FRZ_DISC_LO l) (BitVec.ofNat 32 p.disc)).wr (IO_FRZ_DISC_HI l) (BitVec.ofNat 32 (p.disc / 2 ^ 32))

end Sys2Proof.Machine
end

