-- ==== Sys2Proof/Machine/Brake.lean ====
section
/-!
DEFINITION. The brake fast path (R284 to R286), the brake test and its validity (R287, R288).

Readings and choices: log entry 27 (DESIGN CHOICE).
-/

namespace Sys2Proof.Machine

def State.updBrk (s : State) (l : Lane) (f : BrkSt → BrkSt) : State := { s with brk := s.brk.set l (f (s.brk.get l)) }

def brakes : List Nat := List.range 4

/-- CH20 + k is in brake mode. -/
def isBrake (s : State) (k : Nat) : Bool := chMode s (20 + k) = 2

/-! ### Crowns (R169, R285) -/

/-- EB_DELIVERY (R169): a crown's EB and EB_PRIOR reach every lane's fast path; one that passes less than 49 µs before the next
strobe counts from the strobe after it. -/
def brakeCrown (s : State) (n sinceStrobe : Nat) (eb prior : Byte) : State :=
  let c := s.crowns
  let c := { c with seen := natSetBit c.seen n true }
  { s with crowns :=
    if sinceStrobe ≤ 451000 then { c with cur := Store.put (fun _ => (0, 0)) c.cur n (eb, prior), late := Store.put (fun _ => none) c.late n none }
    else { c with late := Store.put (fun _ => none) c.late n (some (eb, prior)) } }

/-- Two or more bits set in EB or in EB_PRIOR (R168). -/
def ebDemandOf (eb prior : Byte) : Bool := decide (2 ≤ popCount 8 eb.toNat) || decide (2 ≤ popCount 8 prior.toNat)

/-- The rings of a mask of BRK_EB. -/
def ringsIn (m : Nat) : List Nat := (List.range 8).filter fun n => natBit m n

/-- Crown demand (R285). -/
def crownDemand (s : State) : Bool :=
  (ringsIn (s.fv BRK_EB_RX_RINGS)).any fun n =>
    let c := Store.get (fun _ => (0, 0)) s.crowns.cur n
    ebDemandOf c.1 c.2

/-- The crown-lost count at a strobe (R285). -/
def countLost (s : State) : State :=
  let any := (ringsIn (s.fv BRK_EB_RX_RINGS)).any fun n => natBit s.crowns.seen n
  { s with crowns := { s.crowns with lost := if any then 0 else s.crowns.lost + 1 } }

/-- After the strobe the late crowns are the newest. -/
def closeCrowns (s : State) : State :=
  let c := s.crowns
  { s with crowns := { c with
      seen := 0, late := [],
      cur := (List.range 8).foldl (fun m n => match Store.get (fun _ => none) c.late n with
        | some x => Store.put (fun _ => (0, 0)) m n x
        | none => m) c.cur } }

/-! ### The release condition (R284) -/

/-- A brake request input reads 0. -/
def brkReq (s : State) (l : Lane) (k : Nat) : Bool :=
  (List.range 16).any fun i => natBit (s.fv (BRK_CFG_REQ k)) i && !inputState s l (24 + i)

/-- Own demand (R286). -/
def ownDemand (s : State) (l : Lane) : Bool :=
  (List.range 8).any fun i => natBit (s.fv BRK_EB_EBSRC) i && !inputState s l (40 + i)

def crownLost (s : State) (k : Nat) : Bool :=
  let n := s.fv (BRK_CFG_NOCROWN k)
  n ≠ 0 && decide (n ≤ s.crowns.lost)

def brkEb (s : State) (l : Lane) (k : Nat) : Bool :=
  s.fb (BRK_CFG_EB_EN k) && (crownDemand s || crownLost s k || ownDemand s l)

def brkTest (s : State) (l : Lane) (k : Nat) : Option BrkTest := Store.get (fun _ => none) (s.brk.get l).tests k

def brkPhase (s : State) (l : Lane) (k : Nat) : Nat :=
  match brkTest s l k with
  | some t => t.phase
  | none => 0

/-- The validity's length in epochs (R288). -/
def validEpochs (s : State) : Nat := (s.fv BRK_TEST_CFG_MAX_M1 + 1) * 360000

/-- The validity of the channel stands (R288). -/
def brkValid (s : State) (l : Lane) (k : Nat) : Bool :=
  match Store.get (fun _ => none) (s.brk.get l).pass k with
  | some e => decide (s.E < e + validEpochs s)
  | none => false

/-- The release condition of R284. -/
def brkRelease (s : State) (l : Lane) (k : Nat) : Bool :=
  let ph := brkPhase s l k
  let p := s.part l
  isBrake s k && (s.lane l).pub.getLsbD (20 + k) && (s.lane l).pub.getLsbD (24 + k) && !brkReq s l k && !brkEb s l k &&
  !(ph = 1 || ph = 2) && (brkValid s l k || ph = 3) && !natBit p.grpFault 1 && !natBit p.chFault (20 + k) && !natBit p.disc (20 + k)

/-- BRAKE_FAST_PATH (R284): evaluate every brake channel of a lane at a strobe. -/
def brakeLane (s : State) (l : Lane) : State :=
  if ¬ (s.lane l).powered then s
  else
    let req := bitsOf (brakes.map fun k => isBrake s k && brkReq s l k)
    let eb := bitsOf (brakes.map fun k => isBrake s k && brkEb s l k)
    let gate := bitsOf (brakes.map fun k => brkRelease s l k)
    let lost := bitsOf (brakes.map fun k => isBrake s k && crownLost s k)
    let ask := ownDemand s l
    let s := s.updBrk l fun b => { b with
      gate := gate, req := req, eb := eb, ask := ask, reqSeen := Nat.lor b.reqSeen req, ebSeen := Nat.lor b.ebSeen eb }
    let s := ((s.setF (BRK_LIVE_GATE l) gate).setF (BRK_LIVE_REQ l) req).setF (BRK_LIVE_EB l) eb
    s.setF (BRK_LIVE_CROWN_LOST l) lost

/-- A ring's EB carries the module's own demand when any lane asks for it (R169, R286). -/
def ebAsked (s : State) (n : Nat) : Bool :=
  natBit (s.fv BRK_EB_TX_RINGS) n && allLanes.any fun l => (s.brk.get l).ask

/-! ### The brake test (R287) -/

/-- How a phase ends: the next phase, or an outcome: 1 PASS, 2 FAIL, 3 INCOMPLETE. -/
inductive BrkEnd | go (phase : Nat) | out (o : Nat)
  deriving DecidableEq, Repr

/-- PS of a brake channel. -/
def brkPs (s : State) (l : Lane) (k : Nat) : Bool := inputState s l (s.fv (BRK_CFG_PS_CH k))

/-- PS_T in ticks. -/
def psTicks (s : State) : Nat := (s.fv BRK_TEST_CFG_PS_M1 + 1) * 200

/-- What the pressure switch ends at a strobe. -/
def psEnd (s : State) (l : Lane) (k : Nat) (t : BrkTest) : Option BrkEnd :=
  match t.phase, brkPs s l k with
  | 1, true => some (.go 2)
  | 2, false => some (.out 2)
  | 3, false => if natBit (s.brk.get l).gate k then some (.out 1) else none
  | _, _ => none

/-- What the time ends. -/
def timeEnd (s : State) (_l : Lane) (_k : Nat) (t : BrkTest) : Option BrkEnd :=
  match t.phase with
  | 1 => if psTicks s ≤ t.ticks then some (.out 2) else none
  | 2 => if 2000 ≤ t.ticks then some (.go 3) else none
  | 3 => if psTicks s ≤ t.gateOn then some (.out 2) else if psTicks s ≤ t.ticks ∧ t.gateOn = 0 then some (.out 3) else none
  | _ => none

/-- BRK_TEST_STAT.PHASE and the last outcomes of a lane. -/
def showTest (s : State) (l : Lane) : State :=
  let ph := match brakes.find? fun k => brkPhase s l k ≠ 0 with
    | some k => brkPhase s l k
    | none => 0
  s.setF (BRK_TEST_STAT_PHASE l) ph

/-- The bits of the last outcome of a channel. -/
def showOutcome (s : State) (l : Lane) (k o : Nat) : State :=
  let put := fun (s : State) (f : Fld) (v : Bool) => s.setF f (natSetBit (s.fv f) k v)
  put (put (put s (BRK_TEST_STAT_PASS l) (o = 1)) (BRK_TEST_STAT_FAIL l) (o = 2)) (BRK_TEST_STAT_INCOMPLETE l) (o = 3)

/-- One lane's test of k ends a phase. -/
def endPhase (s : State) (l : Lane) (k : Nat) (x : BrkEnd) : State :=
  let s := match x with
    | .go p => s.updBrk l fun b => { b with tests := Store.put (fun _ => none) b.tests k (some ⟨p, 0, 0⟩) }
    | .out o =>
      let e := s.E
      let s := s.updBrk l fun b => { b with
        tests := Store.put (fun _ => none) b.tests k none,
        pass := if o = 1 then Store.put (fun _ => none) b.pass k (some e) else if o = 2 then Store.put (fun _ => none) b.pass k none else b.pass,
        fail := if o = 1 then natSetBit b.fail k false else if o = 2 then natSetBit b.fail k true else b.fail,
        due := if o = 1 then natSetBit b.due k false else b.due }
      showOutcome s l k o
  showTest s l

/-- Each outcome raises source 36 and is recorded; a failure or an incomplete test is a fault record too (R279, R287). -/
def tellOutcome (k : Nat) (s : State) (o : Nat) (by3 : Nat) : State :=
  if by3 = 0 then s
  else
    let s := (s.raiseAll 36).record 0x08 0x04 (20 + k) (beBytes 1 o ++ beBytes 6 s.E)
    if o = 2 then ioFault s 0x09 (20 + k) 0 by3 else if o = 3 then ioFault s 0x0B (20 + k) 0 by3 else s

/-- Apply what ends the phases of channel k in the lanes; outcomes alike in several lanes are told once. -/
def stepTests (f : State → Lane → Nat → BrkTest → Option BrkEnd) (s0 : State) (k : Nat) : State :=
  let ends := fun (l : Lane) => match brkTest s0 l k with
    | some t => if (s0.lane l).powered then f s0 l k t else none
    | none => none
  let s := s0.forLanes fun s l => match ends l with
    | some x => endPhase s l k x
    | none => s
  let by3 := fun o => laneMask fun l => ends l = some (.out o)
  tellOutcome k (tellOutcome k (tellOutcome k s 1 (by3 1)) 2 (by3 2)) 3 (by3 3)

/-- A strobe passes in each phase: its ticks, and those with the gate on. -/
def countTests (s : State) (l : Lane) : State :=
  s.updBrk l fun b => { b with tests := b.tests.map fun x => (x.1, x.2.map fun t =>
    { t with ticks := t.ticks + 1, gateOn := if natBit b.gate x.1 then t.gateOn + 1 else t.gateOn }) }

/-- The tests of a tick 0 strobe: what at least two lanes asked for starts, but for channels already under test. -/
def testTick0 (s : State) : State :=
  let m := twoAgree fun l => (s.brk.get l).testReq
  let s := s.forLanes fun s l => s.updBrk l fun b => { b with testReq := none }
  match (if s.prepared 7 then none else m) with
  | none => s
  | some w => s.forLanes fun s l =>
    if (s.lane l).powered then
      showTest ((brakes.filter fun k => natBit w k && isBrake s k && brkTest s l k = none).foldl (fun s k =>
        s.updBrk l fun b => { b with tests := Store.put (fun _ => none) b.tests k (some ⟨1, 0, 0⟩) }) s) l
    else s

/-- BRAKE_TEST_PHASE at each strobe, and the fast path (R284, R287): the ticks of a test count from the strobe that starts it. Source 37 when a
demand begins or ends. -/
def brakeTick (s : State) : State :=
  let ebOf := fun (s : State) => Nat.lor (Nat.lor (s.brk.get .a).eb (s.brk.get .b).eb) (s.brk.get .c).eb
  let e0 := ebOf s
  let s := countLost s
  let s := s.forLanes countTests
  let s := if s.time.tick = 0 then testTick0 s else s
  let s := brakes.foldl (stepTests psEnd) s
  let s := s.forLanes brakeLane
  let s := closeCrowns s
  if ebOf s ≠ e0 then s.raiseAll 37 else s

/-- BRAKE_TEST_TIMEOUT (R287): PS_T or the 1 s hold has elapsed for channel k. -/
def execBrakeTestTimeout (k : BitVec 2) (s : State) : Host.Outcome State Fault Refusal := .next (stepTests timeEnd s k.toNat)

/-- BRK_TEST_REQ (R287): the last mask a lane wrote in the epoch counts. -/
def writeBrkReq (s : State) (l : Lane) (m : Nat) : State := s.updBrk l fun b => { b with testReq := some (m % 16) }

def execBrkTestReq (l : Lane) (mask : BitVec 4) (s : State) : Host.Outcome State Fault Refusal :=
  .next (if (s.lane l).powered then writeBrkReq s l mask.toNat else s)

/-- The brake part of the freeze (R270): APPLIED, EB_SEEN, REQ_SEEN since the last one, the test marks. -/
def brakeFreeze (s : State) (l : Lane) : State :=
  let b := s.brk.get l
  let s := (s.setF (BRK_FRZ_APPLIED l) (15 - b.gate % 16)).setF (BRK_FRZ_EB_SEEN l) b.ebSeen
  let s := (s.setF (BRK_FRZ_REQ_SEEN l) b.reqSeen).setF (BRK_FRZ_TEST_FAIL l) (Nat.lor b.fail b.due)
  let s := s.setF (BRK_FRZ_TEST_VALID l) (bitsOf (brakes.map fun k => brkValid s l k))
  let s := s.setF (BRK_FRZ_TEST_ACTIVE l) (bitsOf (brakes.map fun k => brkPhase s l k ≠ 0))
  s.updBrk l fun b => { b with ebSeen := 0, reqSeen := 0 }

/-- BRAKE_VALIDITY_WARNING (R288): one hour before the validity lapses. -/
def execBrakeValidityWarning (k : BitVec 2) (s : State) : Host.Outcome State Fault Refusal :=
  .next (
    if allLanes.any fun l => match Store.get (fun _ => none) (s.brk.get l).pass k.toNat with
      | some e => brkValid s l k.toNat && decide (e + validEpochs s ≤ s.E + 360000)
      | none => false
    then s.raiseAll 39 else s)

/-- BRAKE_VALIDITY_LAPSE (R288): BRK_TEST_DUE is latched and recorded in the lanes whose validity has lapsed. -/
def execBrakeValidityLapse (k : BitVec 2) (s : State) : Host.Outcome State Fault Refusal :=
  .next (
    let lapsed := fun (l : Lane) => match Store.get (fun _ => none) (s.brk.get l).pass k.toNat with
      | some e => decide (e + validEpochs s ≤ s.E)
      | none => false
    let by3 := laneMask lapsed
    if by3 = 0 then s
    else
      let s := s.forLanes fun s l =>
        if lapsed l then s.updBrk l fun b => { b with
          due := natSetBit b.due k.toNat true, pass := Store.put (fun _ => none) b.pass k.toNat none }
        else s
      ioFault s 0x0A (20 + k.toNat) 0 by3)

/-- Minutes since the oldest valid pass, saturating at 4,095 (BRK_TEST_STAT.AGE_MIN). -/
def ageMin (s : State) (l : Lane) : Nat :=
  let ages := (brakes.filter fun k => brkValid s l k).filterMap fun k =>
    (Store.get (fun _ => none) (s.brk.get l).pass k).map fun e => (s.E - e) / 6000
  match ages with
  | [] => 4095
  | a :: r => min 4095 (r.foldl max a)

end Sys2Proof.Machine
end

