-- ==== Sys2Proof/Machine/Time.lean ====
section
/-!
DEFINITION. The timebase: sample exchange and steering (R36), the deviation checks (R37 to R40, R430), time sources, lock,
step and slew (R41 to R45), PPS (R47).

Readings and choices: log entries 6 (DESIGN CHOICE), 10 (DEDUCED), 20 (DEDUCED), 49 (DESIGN CHOICE).
-/

namespace Sys2Proof.Machine

/-- The value off by which all the sources' offsets of a store are shifted. -/
def shiftOffs (m : Store (Option Int)) (d : Int) : Store (Option Int) :=
  m.map fun p => (p.1, p.2.map fun z => z + d)

def State.srcOffset (s : State) (src : Nat) : Option Int := Store.get (fun _ => none) s.time.offs src

def State.setOffset (s : State) (src : Nat) (z : Option Int) : State :=
  { s with time := { s.time with offs := Store.put (fun _ => none) s.time.offs src z } }

/-- TIME_FAULT bit k is set: its own source in the management controller and an event record, when the bit was clear. -/
def timeFault (s : State) (k : Nat) : State :=
  let f : Fld := ⟨TIME_FAULT, k, k⟩
  if s.fb f then s
  else ((s.setF f 1).raise .mgmt (16 + k)).recordRegs 0x03 (k + 1) 0
    [TIME_OFFSET, TIME_OSC_REF, TIME_OSC_GRD, TIME_OSC_AON]

/-! ### The sample exchange (R36) -/

/-- The median of three values, the mean of two, the value of one. -/
def medianOf : List Nat → Option Nat
  | [] => none
  | [x] => some x
  | [x, y] => some ((x + y) / 2)
  | x :: y :: z :: _ => some (max (min x y) (min (max x y) z))

/-- Latch every powered lane's counter: its own advance and its steering (R36); its own numbers, as upset as the command says. -/
def latchLane (inp : StrobeIn) (s : State) (l : Lane) : State :=
  s.updLane l fun x =>
    if x.powered then
      let n := (inp.numbers.get l).getD (s.time.epoch, s.time.tick)
      { x with time := { x.time with
          t := ((x.time.t : Int) + inp.adv.get l + x.time.steer).toNat, ownAdv := x.time.ownAdv + inp.adv.get l,
          epoch := n.1, tick := n.2 } }
    else x

/-- The lanes whose samples count: STARTING or VOTING, sample arrived. -/
def sampled (inp : StrobeIn) (s : State) : List Lane := s.counted.filter fun l => !inp.lost.get l

/-- Steer toward the median by at most 20 ns in the tick, and show the phase. -/
def steerLane (med : Nat) (s : State) (l : Lane) : State :=
  let x := s.lane l
  if x.powered then
    let dev : Int := (x.time.t : Int) - med
    (s.updLane l fun x => { x with time := { x.time with steer := max (-20) (min 20 (-dev)) } }).setF
      (LANE_TIME_DEV_PHASE l) (satSigned 16 dev)
  else s

/-- TIMEBASE_SAMPLE_EXCHANGE (R36): a lost sample of a voting lane sets LANE_SAMPLE. LANE_LINK_STAT is not read: every lane steers by the one
set of samples that arrived, also where a lane link is down (log entry 49, DESIGN CHOICE). -/
def sampleExchange (inp : StrobeIn) (s : State) : State :=
  let s := s.forLanes (latchLane inp)
  let ls := sampled inp s
  let s := s.setF TIME_STATUS_LANES (bitsOf (allLanes.map fun l => decide (l ∈ ls)))
  let s := if ls.length < s.counted.length then timeFault s 6 else s
  match medianOf (ls.map fun l => (s.lane l).time.t) with
  | some m => s.forLanes (steerLane m)
  | none => s

/-! ### Checks -/

/-- The difference of a lane's own rate from the median of the other counted lanes' rates over the epoch, in 0.01 ppm (R37): the
mean of two, or the partner's. The epoch has 10^7 ns, so 1 ns is 10 units. -/
def rateDev (s : State) (l : Lane) : Option Int :=
  match ((otherLanes l).filter fun m => (s.lane m).st.counted).map fun m => (s.lane m).time.ownAdv with
  | [x, y] => some (5 * (2 * ((s.lane l).time.ownAdv : Int) - x - y))
  | [x] => some (10 * (((s.lane l).time.ownAdv : Int) - x))
  | _ => none

/-- |latched - median| in ns as the lane's own PHASE shows it. -/
def phaseDev (s : State) (l : Lane) : Nat := (signedOf 16 (s.fv (LANE_TIME_DEV_PHASE l))).natAbs

/-- The rate limit of R37: 10 ppm, judged at tick 0 over the epoch that ends. -/
def rateBad (s : State) (l : Lane) : Bool :=
  s.time.tick = 0 && (match rateDev s l with
    | some z => decide (1000 < z.natAbs)
    | none => false)

/-- A lane beyond the limits of R37: 1 µs from the median of three, 2 µs from its partner in 2oo2, or its rate. -/
def timeDevBad (s : State) (l : Lane) : Bool :=
  (match (otherLanes l).filter fun m => (s.lane m).st.counted with
   | [m] => decide (2000 < absDiff (s.lane l).time.t (s.lane m).time.t)
   | _ => decide (1000 < phaseDev s l)) || rateBad s l

/-- A skew of R38: more than 2 µs from the boundary, or no strobe. -/
def isSkew : Option Int → Bool
  | none => true
  | some z => decide (2000 < z.natAbs)

/-- EPOCH_MISMATCH (R39): the lane's numbers differ from those of the two others; with one other lane left, from its and the
strobe's (log entry 10). -/
def mismatch (s : State) (l : Lane) : Bool :=
  let own := ((s.lane l).time.epoch, (s.lane l).time.tick)
  let oth := ((otherLanes l).filter fun m => (s.lane m).st.counted).map fun m => ((s.lane m).time.epoch, (s.lane m).time.tick)
  let ref := if oth.length < 2 then oth ++ [(s.time.epoch, s.time.tick)] else oth
  ref.all fun r => r ≠ own

/-- The sample count of R40: 10 ± 1 between strobes. -/
def samplesBad (s : State) (l : Lane) : Bool := (s.lane l).time.samples < 9 || 11 < (s.lane l).time.samples

/-- Show the strobe's arrival and count a skew (R38). -/
def noteSkew (z : Option Int) (s : State) (l : Lane) : State :=
  let s := match z with
    | some d => s.setF (LANE_TIME_SKEW_STROBE l) (satSigned 16 d)
    | none => s
  if isSkew z then s.incF (LANE_TIME_SKEW_SKEW_CNT l) else s

/-- The cause that the timing checks of this strobe give a lane, if any; the first in the order of the checks. -/
def timingCause (inp : StrobeIn) (s : State) (l : Lane) : Option Cause :=
  let x := s.lane l
  if ¬ x.st.counted then none
  else if timeDevBad s l then some .timeDev
  else if isSkew (inp.skew.get l) ∧ x.time.skewLast then some .tickSkew
  else if mismatch s l then some .epochMismatch
  else if samplesBad s l then some .ioSampleRate
  else none

/-- The named limit of a withdrawn lane's cause was met at this tick (R430). -/
def limitMet (inp : StrobeIn) (s : State) (l : Lane) : Bool :=
  let c := s.fv (LANE_CAUSE_CAUSE l)
  if c = Cause.timeDev.code then !timeDevBad s l
  else if c = Cause.tickSkew.code then !isSkew (inp.skew.get l)
  else if c = Cause.ioSampleRate.code then !samplesBad s l
  else true

/-- Marks of R430 and the ends of the tick's counts. A clean epoch runs from one tick 0 strobe to the next and begins after the
withdrawal. -/
def closeTick (inp : StrobeIn) (s : State) (l : Lane) : State :=
  let ok := limitMet inp s l
  let z := s.time.tick = 0
  s.updLane l fun x =>
    let clean := x.time.cleanEpoch && ok
    { x with time := { x.time with
        skewLast := isSkew (inp.skew.get l), samples := 0,
        ownAdv := if z then 0 else x.time.ownAdv,
        causeClean := x.time.causeClean || (z && clean),
        cleanEpoch := if z then (x.st = .withdrawn) else clean } }

/-- Show the rate at tick 0. -/
def showRate (s : State) (l : Lane) : State :=
  if s.time.tick = 0 then
    match rateDev s l with
    | some z => s.setF (LANE_TIME_DEV_RATE l) (satSigned 16 z)
    | none => s
  else s

/-- TIME_DEV_CHECK, TICK_SKEW_CHECK, EPOCH_MISMATCH_CHECK and the sample count (R37 to R40). -/
def timingChecks (inp : StrobeIn) (s : State) : State :=
  let s := s.forLanes fun s l => noteSkew (inp.skew.get l) (showRate s l) l
  let cs := allLanes.filterMap fun l => (timingCause inp s l).map fun c => (l, c)
  let s' := s.forLanes (closeTick inp)
  withdrawMany s' cs

/-- OSCILLATOR_CHECK (R40), at the end of an epoch: deviations shown, limits 100, 200 and 500 ppm. -/
def oscillatorCheck (inp : StrobeIn) (s : State) : State :=
  if s.time.tick ≠ 0 then s
  else
    let s := ((s.setF TIME_OSC_REF_DEV (satSigned 16 inp.oscRef)).setF TIME_OSC_GRD_DEV (satSigned 16 inp.oscGrd)).setF
      TIME_OSC_AON_DEV (satSigned 16 inp.oscAon)
    let s := if 10000 < inp.oscRef.natAbs then timeFault s 0 else s
    let s := if 20000 < inp.oscGrd.natAbs then timeFault { s with time := { s.time with grdHold := true } } 1
      else if inp.oscGrd.natAbs ≤ 10000 then { s with time := { s.time with grdHold := false } }
      else s
    if 5000 < inp.oscAon.natAbs then timeFault s 2 else s

/-! ### Sources (R41, R43, R44) -/

/-- The port selected for PTP (TIME_CTRL.PTP_PORT). -/
def ptpSelected (s : State) (port : Nat) : Bool := natBit (s.fv TIME_CTRL_PTP_PORT) (port - 1)

/-- The selected ring is running and the module is not its head; a module ACTIVE in a pair follows PTP or runs free (R41). -/
def ringSource (s : State) : Bool :=
  let n := s.fv TIME_CTRL_RING_SEL
  !(s.mode = .active && s.fb PAIR_CFG_EN) && s.fb TIME_CTRL_RING_FOLLOW && (s.fv (RING_STATUS_STATE n) = 4 || s.fv (RING_STATUS_STATE n) = 5) &&
  !s.fb (RING_STATUS_HEAD n)

/-- The first available source of R41. -/
def bestSource (s : State) : Nat :=
  if s.mode = .standby ∧ s.fb PAIR_CFG_EN ∧ s.fb TIME_CTRL_PAIR_FOLLOW ∧ (s.fb PAIR_STATUS_LINK0 ∨ s.fb PAIR_STATUS_LINK1) then 3
  else if s.time.ptpLocked ∧ ptpSelected s s.time.ptpPort then s.time.ptpPort
  else if ringSource s then 4
  else 0

/-- An offset of more than one epoch behind the timebase (R44). -/
def farBehind (z : Int) : Bool := decide (z < -10000000)

/-- Take a source: TIME_STATUS shows it, and under PTP the timebase applies the correction its servo holds (R43). -/
def takeSource (s : State) (src : Nat) : State :=
  let s := (s.setF TIME_STATUS_SRC src).setF TIME_STATUS_LOCKED 1
  if src = 1 ∨ src = 2 then { s with time := { s.time with rate := s.time.servo } } else s

/-- TIME_SOURCE_CHANGE (R41) at tick 0. A source more than one epoch behind is not followed (R44). An available source without a measured
offset yet is taken with LOCKED = 1, and nothing slews before its first offset (log entry 20, DEDUCED). -/
def sourceChange (s : State) : State :=
  let src := bestSource s
  match (if src = 0 then none else s.srcOffset src) with
  | some z => if farBehind z then timeFault s 5 else takeSource s src
  | none => takeSource s src

/-- The offset of the source in use. -/
def State.phase (s : State) : Option Int := s.srcOffset (s.fv TIME_STATUS_SRC)

/-- EPOCH_STEP (R44): a module that is not ACTIVE steps E forward by the whole epochs that leave the phase in [-5 ms, +5 ms); the
lanes take the same step, and so does the time of the last heartbeat's receipt. -/
def epochStep (s : State) : State :=
  match s.phase with
  | some z =>
    let k := ((z + 5000000) / 10000000).toNat
    if s.mode = .active ∨ k = 0 then s
    else
      let s := { s with time := { s.time with
        epoch := s.time.epoch + k, t := s.time.t + k * 10000000, stepped := true,
        offs := shiftOffs s.time.offs (-(k * 10000000 : Int)) } }
      let s := { s with pair := { s.pair with lastAt := s.pair.lastAt + k * 10000000 } }
      s.forLanes fun s l => s.updLane l fun x => { x with time := { x.time with t := x.time.t + k * 10000000 } }
  | none => s

/-- The largest slew of one tick: ±1,000 ppm, ±20 ppm when ACTIVE (R44). -/
def maxSlew (s : State) : Int := if s.mode = .active then 10 else 500

/-- The slew of a tick toward the source, and what TIME_STATUS, TIME_OFFSET and TIME_RATE show of it. A source in use that falls more than one
epoch behind is not followed (R44). -/
def slewTick (s : State) : State :=
  match s.phase with
  | some z =>
    let locked := s.fb TIME_STATUS_LOCKED
    let m : Int := if locked && !farBehind z then max (-(maxSlew s)) (min (maxSlew s) z) else 0
    let s := { s with time := { s.time with offs := shiftOffs s.time.offs (-m) } }
    let z' := z - m
    let s := (s.setB TIME_STATUS_ALIGNED (decide (z'.natAbs ≤ 1000))).setB TIME_STATUS_SLEWING
      (locked && !farBehind z && decide (1000 < z'.natAbs))
    let s := (s.setF TIME_OFFSET_OFFSET (satSigned 32 z')).setF TIME_RATE_RATE (satSigned 32 (s.time.rate + m * 2000))
    if s.mode = .active ∧ 1000000 < z'.natAbs then timeFault s 4 else s
  | none =>
    ((s.setF TIME_STATUS_ALIGNED 0).setF TIME_STATUS_SLEWING 0).setF TIME_RATE_RATE (satSigned 32 s.time.rate)

/-- PPS_OUT_PULSE (R47). -/
def ppsOut (s : State) : State :=
  if s.time.tick = 0 ∧ s.fb TIME_CTRL_PPS_OUT_EN ∧ s.time.epoch % 100 = 0 then
    { s with time := { s.time with ppsAt := some s.time.epoch } }
  else s

/-- The strobe's numbers (R29): the first strobe after the timebase is set keeps them (R45). -/
def advanceTick (s : State) : State :=
  if ¬ s.time.started then { s with time := { s.time with started := true } }
  else
    let last := s.time.tick = 19
    { s with time := { s.time with
        t := s.time.t + 500000, tick := if last then 0 else s.time.tick + 1,
        epoch := if last then (s.time.epoch + 1) % 281474976710656 else s.time.epoch } }

/-- R45: the timebase starts at a whole second. -/
def setTimebase (s : State) (t : Nat) : State :=
  let s := { s with time := { TimeSt.init with t := t, epoch := t / 10000000, tick := 0, isSet := true } }
  s.forLanes fun s l => s.updLane l fun x => { x with time := { LaneTime.init with t := t, epoch := t / 10000000 } }

/-- Loss of PTP lock (R43): PTP_LOST, LOCKED cleared, the slew stops; the rate stays. -/
def ptpLost (s : State) : State :=
  if s.time.ptpLocked then
    let s := { s with time := { s.time with ptpLocked := false, goodRun := 0, badRun := 0 } }
    let s := timeFault s 3
    if s.fv TIME_STATUS_SRC = 1 ∨ s.fv TIME_STATUS_SRC = 2 then
      (s.setF TIME_STATUS_LOCKED 0).setF TIME_STATUS_SLEWING 0
    else s
  else s

/-- A Sync the ordinary clock takes (R42): on a selected port, of the transport, delay mechanism and domain of TIME_PTP_CFG, and, with both ports
selected, on the port that the best master clock algorithm chose; its choice comes with the measurement (log entry 6). -/
def ptpValid (s : State) (port : Nat) (m : PtpMeas) : Bool :=
  ptpSelected s port && m.l2 = s.fb TIME_PTP_CFG_TRANSPORT && m.peer = s.fb TIME_PTP_CFG_DELAY_MECH &&
  m.domain.toNat = s.fv TIME_PTP_CFG_DOMAIN && (m.best || s.fv TIME_CTRL_PTP_PORT ≠ 3)

/-- The correction of a Sync is applied while its port is the locked source in use; a loss keeps the last one (R43). -/
def steersBy (s : State) (port : Nat) : Bool :=
  s.time.ptpLocked && s.fv TIME_STATUS_SRC = port && s.fb TIME_STATUS_LOCKED

/-- A valid Sync (R42, R43): offset and rate, the run of residuals, lock after 64 within ±1 µs, loss after 16 beyond ±10 µs. -/
def ptpSync (s : State) (port : Nat) (m : PtpMeas) : State :=
  if ¬ ptpValid s port m then s
  else
    let good := if m.residual.natAbs ≤ 1000 then s.time.goodRun + 1 else 0
    let bad := if 10000 < m.residual.natAbs then s.time.badRun + 1 else 0
    let s := (s.setOffset port (some m.offset)).setF TIME_OFFSET_OFFSET (satSigned 32 m.offset)
    let s := { s with time := { s.time with
        ptpPort := port, servo := m.rate, rate := if steersBy s port then m.rate else s.time.rate, goodRun := good, badRun := bad } }
    if 16 ≤ bad then ptpLost s
    else if 64 ≤ good then { s with time := { s.time with ptpLocked := true } }
    else s

/-- PTP on ETH-A and ETH-B (R42); MGT carries none. -/
def execPtpSync (p : EthPort) (m : PtpMeas) (s : State) : Host.Outcome State Fault Refusal :=
  .next (match p with
    | .a => ptpSync s 1 m
    | .b => ptpSync s 2 m
    | .mgt => s)

def execPtpLockLost (s : State) : Host.Outcome State Fault Refusal := .next (ptpLost s)

/-- The offset of an edge at T = t from the nearest whole second (R47). -/
def execPpsInEdge (t : Nat) (s : State) : Host.Outcome State Fault Refusal :=
  .next (s.setF TIME_PPS_OFFSET_PPS_OFS (satSigned 32 (((t + 500000000) % 1000000000 : Nat) - 500000000)))

/-- A lane's boundary passes with no strobe: a skew, and on the second consecutive tick TICK_SKEW (R38). It spoils the clean epoch of a lane
withdrawn with TICK_SKEW (R430). -/
def execTickStrobeMissing (l : Lane) (s : State) : Host.Outcome State Fault Refusal :=
  .next (
    if ¬ (s.lane l).powered then s
    else
      let s1 := noteSkew none s l
      let again := (s.lane l).time.skewLast
      let clean := (s.lane l).time.cleanEpoch && s.fv (LANE_CAUSE_CAUSE l) ≠ Cause.tickSkew.code
      let s2 := s1.updLane l fun x => { x with time := { x.time with skewLast := true, cleanEpoch := clean } }
      if again ∧ (s.lane l).st.counted then withdraw s2 l .tickSkew else s2)

end Sys2Proof.Machine
end

