-- ==== Sys2Proof/Machine/RingBase.lean ====
section
/-!
DEFINITION. What every rule of a Dragar ring shares: ports, usability and wraps (R158, R184 to R186), node states (R188, R189), layouts
and their bytes (R162, R171, R197, R199), the band's table, arrivals and suppressions (R176 to R179), the slices and the status block
the module writes (R163, R164, R211, R313).

Readings and choices: log entries 11 (DEDUCED), 28 (DEDUCED), 29 (DEDUCED).
-/

namespace Sys2Proof.Machine

/-! ### Ports -/

def fLink (n : Nat) : Port → Fld
  | .east => RING_STATUS_LINK_E n | .west => RING_STATUS_LINK_W n

def fRf (n : Nat) : Port → Fld
  | .east => RING_WRAP_RF_E n | .west => RING_WRAP_RF_W n

def fWrap (n : Nat) : Port → Fld
  | .east => RING_WRAP_WRAP_E n | .west => RING_WRAP_WRAP_W n

def fIso (n : Nat) : Port → Fld
  | .east => RING_CTRL_ISOLATE_E n | .west => RING_CTRL_ISOLATE_W n

def fSfp (n : Nat) : Port → Fld
  | .east => RING_SFP_EAST n | .west => RING_SFP_WEST n

def fLinkChg (n : Nat) : Port → Fld
  | .east => RING_EVT_LINK_E_CHG n | .west => RING_EVT_LINK_W_CHG n

/-- The component of a two-port field. -/
def at2 {α : Type} (x : α × α) : Port → α
  | .east => x.1 | .west => x.2

def set2 {α : Type} (x : α × α) (p : Port) (v : α) : α × α :=
  match p with
  | .east => (v, x.2)
  | .west => (x.1, v)

def bothPorts : List Port := [.east, .west]

def ringList : List Nat := List.range 8

/-- RING_STATUS.STATE: 0 OFF, 1 LISTEN, 2 CLAIM, 3 INAUG, 4 RUN, 5 WRAP, 6 LISTEN_ONLY, 7 REPEATER (R188). -/
def ringState (s : State) (n : Nat) : Nat := s.fv (RING_STATUS_STATE n)

def ownPos (s : State) (n : Nat) : Nat := s.fv (RING_STATUS_POS n)

def isHead (s : State) (n : Nat) : Bool := s.fb (RING_STATUS_HEAD n)

/-- Link up and no Remote Fault (R185), an isolated port apart. -/
def portGood (s : State) (n : Nat) (p : Port) : Bool := s.fb (fLink n p) && !s.fb (fRf n p)

/-- A port the ring can use: an isolated port is wrapped as a port that is not usable (R185, R214). -/
def usable (s : State) (n : Nat) (p : Port) : Bool := portGood s n p && !((s.ring n).iso = some p)

def wrapped (s : State) (n : Nat) (p : Port) : Bool := s.fb (fWrap n p)

def anyWrap (s : State) (n : Nat) : Bool := wrapped s n .east || wrapped s n .west

/-- What a port that is not usable sends, an isolated one too: nothing but Remote Fault ordered sets (R185, R214). OFF is dark. -/
def remoteFaultOut (s : State) (n : Nat) (p : Port) : Bool := s.fv (RING_STATUS_STATE n) ≠ 0 && !usable s n p

/-! ### Events -/

/-- A bit of RING_EVT: the bit, source 40 + n, the record (R98, R398). -/
def ringEvt (s : State) (n : Nat) (f : Fld) : State := ((s.setF f 1).raiseAll (40 + n)).record 0x04 (f.lo + 1) n []

/-- A bit of RING_LIFE_EVT, for a position. -/
def lifeEvt (s : State) (n : Nat) (f : Fld) (pos : Nat) : State :=
  ((s.setF f 1).raiseAll (40 + n)).record 0x04 (0x11 + f.lo) (n * 256 + pos) []

/-! ### Wraps (R185, R186) -/

/-- Wrap or unwrap a port: RING_WRAP, WRAP_CHG, HEALS, the step between RUN and WRAP (R189). -/
def setWrap (s : State) (n : Nat) (p : Port) (on : Bool) : State :=
  if wrapped s n p = on then s
  else
    let s := lifeEvt (s.setB (fWrap n p) on) n (RING_LIFE_EVT_WRAP_CHG n) (ownPos s n)
    if on then
      let s := s.incF (RING_CNT_HEALS n)
      let s := if isHead s n then s.updHead n fun h => { h with wrapNews := true } else s
      if ringState s n = 4 then s.setF (RING_STATUS_STATE n) 5 else s
    else if ringState s n = 5 ∧ ¬ anyWrap s n ∧ usable s n .east ∧ usable s n .west then s.setF (RING_STATUS_STATE n) 4
    else s

/-- A port that is not usable is wrapped in every state except OFF. -/
def checkWrap (s : State) (n : Nat) (p : Port) : State :=
  if ringState s n ≠ 0 ∧ ¬ usable s n p then setWrap s n p true else s

/-- RUN, or WRAP where a port is wrapped. -/
def runState (s : State) (n : Nat) : Nat := if anyWrap s n then 5 else 4

/-! ### Node states (R189, R192) -/

/-- The module stops being head. -/
def dropHead (s : State) (n : Nat) : State :=
  if isHead s n then
    (lifeEvt (s.setF (RING_STATUS_HEAD n) 0) n (RING_LIFE_EVT_HEAD_LOST n) (ownPos s n)).updHead n fun _ => HeadSt.init
  else s

/-- The last topology counter the node held, or 0. -/
def lastTopo (r : RingSt) : Nat :=
  match r.layout with
  | some x => x.topo
  | none => r.lastTopo

/-- A node gives up its position; it keeps its unique ID and its last counter (R192). -/
def giveUpPos (s : State) (n : Nat) : State :=
  let s := s.updRing n fun r => { r with
    layout := none, next := none, acked := false, lastTopo := lastTopo r, merge := none, dirBad := 0, dirSeen := false }
  (s.setF (RING_STATUS_POS n) 255).setF (RING_STATUS_MASTER n) 0

/-- Entry to OFF: the ports are dark. -/
def enterOff (s : State) (n : Nat) : State :=
  let s := giveUpPos (dropHead s n) n
  ((s.setF (RING_STATUS_STATE n) 0).setF (RING_WRAP_WRAP_E n) 0).setF (RING_WRAP_WRAP_W n) 0

/-- Entry to LISTEN from any other state; with EN = 0 in force LISTEN leads on to OFF (R189). -/
def enterListen (s : State) (n : Nat) : State :=
  let s := giveUpPos (dropHead s n) n
  let s := s.updRing n fun r => { r with
    validRun := 0, claimBack := (false, false), claimRound := 0, rollAt := none, echoAt := none, delta1 := 0 }
  let s := s.setF (RING_STATUS_STATE n) 1
  if s.fb (RING_CTRL_EN n) then checkWrap (checkWrap s n .east) n .west else enterOff s n

/-- Entry to REPEATER (R188): a position held in the layout in force is kept. -/
def enterRepeater (s : State) (n : Nat) : State :=
  let was := isHead s n
  let s := dropHead s n
  let s := if was ∨ (s.ring n).layout = none then giveUpPos s n else s
  let s := s.setF (RING_STATUS_STATE n) 7
  checkWrap (checkWrap s n .east) n .west

/-- The mode calls for REPEATER (R188). -/
def repeaterMode (m : Mode) : Bool := m = .boot || m = .configHold || m = .service

/-- The transitions of R189 that the power state (R322), the mode and EN cause. `noCommit`: no COMMIT has come into force since the module reset. -/
def ringFollow (noCommit : Bool) (s : State) (n : Nat) : State :=
  let st := ringState s n
  let en := s.fb (RING_CTRL_EN n)
  if s.stabled then
    if st = 0 then s else if ¬ s.fb (RING_CTRL_KEEP n) then enterOff s n else if st = 7 then s else enterRepeater s n
  else if repeaterMode s.mode then
    if st = 0 then (if en ∨ noCommit then enterRepeater s n else s)
    else if st = 7 then (if en ∨ noCommit then s else enterOff s n)
    else enterRepeater s n
  else if s.mode = .standby ∨ s.mode = .active then
    if ¬ en then (if st = 1 ∨ st = 7 then enterOff s n else s)
    else if st = 0 ∨ st = 7 then enterListen s n
    else s
  else if ¬ en ∧ (st = 1 ∨ st = 7) then enterOff s n
  else s

def ringsFollow (s : State) (noCommit : Bool) : State := ringList.foldl (ringFollow noCommit) s

/-! ### Passages (R184, R187) -/

/-- The node has an orientation port. -/
def oriented (s : State) (n : Nat) : Bool := !isHead s n && decide (3 ≤ ringState s n) && ownPos s n ≠ 255

def orientPort (s : State) (n : Nat) : Port := if s.fb (RING_STATUS_ORIENT n) then .west else .east

/-- A frame on port p is on the forward passage: it arrives on the orientation port, or on the other one while the orientation port is
wrapped. -/
def isForward (s : State) (n : Nat) (p : Port) : Bool :=
  !oriented s n || p = orientPort s n || wrapped s n (orientPort s n)

/-- Where a frame that arrived on p leaves: the other port, or p itself when the other one is wrapped. -/
def outPort (s : State) (n : Nat) (p : Port) : Port := if wrapped s n p.other then p else p.other

def sendOut (s : State) (n : Nat) (out : List (Port × RingFrame)) : State := s.updRing n fun r => { r with out := out }

/-- The frame is forwarded; REPEATER and LISTEN forward too, OFF does not (R188). A port that is not usable sends no frame (R185). -/
def forward (s : State) (n : Nat) (p : Port) (f : RingFrame) : State :=
  sendOut s n (if usable s n (outPort s n p) then [(outPort s n p, f)] else [])

/-- A frame has arrived on port p, a CLAIM or not: the counts of cycles without one start again (R186, R189, R432). -/
def noteFrame (s : State) (n : Nat) (p : Port) (good claim : Bool) : State :=
  s.updRing n fun r => { r with
    out := [], sawFrame := true, noFrame := 0, sawRun := r.sawRun || (good && !claim), noRun := if good && !claim then 0 else r.noRun,
    sawCrown := r.sawCrown || good, noCrown := if good then 0 else r.noCrown,
    crownAge := if good then 0 else r.crownAge, goodOn := if good then set2 r.goodOn p true else r.goodOn }

/-! ### Emergency brake (R168, R169) -/

/-- A demand read in a crown begins: EB_DEMAND. -/
def noteDemand (s : State) (n : Nat) (eb prior : Byte) : State :=
  let d := ebDemandOf eb prior
  let was := (s.ring n).ebDemand
  let s := s.updRing n fun r => { r with ebDemand := d }
  if d && !was then ringEvt s n (RING_EVT_EB_DEMAND n) else s

/-- EB and EB_PRIOR of a passing crown reach the fast paths; of a crown with a bad CRC, EB alone (R161, R169). -/
def readEb (s : State) (n sinceStrobe : Nat) (c : Crown) : State :=
  let prior := if c.crcOk then c.ebPrior else 0
  noteDemand (brakeCrown s n sinceStrobe c.eb prior) n c.eb prior

/-- EB as it leaves the module. -/
def writeEb (s : State) (n : Nat) (c : Crown) : Crown := { c with eb := if ebAsked s n then 0xFF else c.eb }

/-- A crown with a bad CRC. -/
def badCrown (s : State) (n : Nat) : State :=
  ringEvt ((s.incF (RING_ERR_CROWN_CRC n)).updRing n fun r => { r with validRun := 0 }) n (RING_EVT_CROWN_CRC n)

/-! ### Bytes (R162, R171, R197) -/

def pad4 (bs : List Byte) : List Byte := bs ++ List.replicate ((4 - bs.length % 4) % 4) 0

/-- The bytes a brim message takes. -/
def msgBytes (m : BrimMsg) : Nat := 8 + (pad4 m.body).length + 4

/-- A brim message as bytes (R171). -/
def brimBytes (m : BrimMsg) : List Byte :=
  let b := beBytes 1 m.mtype ++ beBytes 1 m.src ++ beBytes 1 m.dst ++ [0] ++ beBytes 2 m.body.length ++ beBytes 2 m.seq ++ pad4 m.body
  b ++ beBytes 4 (crc32c b)

/-- The slice directory's CRC (R162). -/
def dirCrcOf (es : List LayEntry) : Nat := crc32 (es.flatMap fun e => beBytes 2 e.allocDn ++ beBytes 2 e.allocUp)

def sliceLen (alloc : Nat) : Nat := if alloc = 0 then 0 else alloc + 28

def sliceArea (es : List LayEntry) : Nat := (es.map fun e => sliceLen e.allocDn + sliceLen e.allocUp).sum

def entryBytes (e : LayEntry) : List Byte :=
  beBytes 6 e.uid ++ beBytes 1 e.pos ++ beBytes 1 (bitsOf [e.verRej, e.isModule, e.headElig, e.silent]) ++ beBytes 2 e.allocDn ++
  beBytes 2 e.allocUp ++ beBytes 2 e.credit ++ [0, 0]

/-- The body of a layout message (R197): ENTRY when it carries offsets. -/
def layoutBytes (x : Layout) : List Byte :=
  [if x.offs.isSome then 2 else 1] ++ beBytes 1 x.verMaj ++ beBytes 1 x.lastPos ++ [0] ++ beBytes 2 x.topo ++ beBytes 2 x.brimLen ++
  beBytes 4 x.frameLen ++ beBytes 4 x.dirCrc ++ x.entries.flatMap entryBytes ++
  (match x.offs with
   | some (a, b, c, d) => beBytes 4 a ++ beBytes 4 b ++ beBytes 4 c ++ beBytes 4 d
   | none => [])

def parseEntry (b : List Byte) (o : Nat) : LayEntry :=
  let fl := bytesAt b (o + 7) 1
  ⟨bytesAt b o 6, bytesAt b (o + 6) 1, natBit fl 0, natBit fl 1, natBit fl 2, natBit fl 3, bytesAt b (o + 8) 2, bytesAt b (o + 10) 2,
   bytesAt b (o + 12) 2⟩

/-- The layout a body spells: none for another FORM. -/
def parseLayout (b : List Byte) : Option Layout :=
  let form := bytesAt b 0 1
  let k := if form = 1 then bytesAt b 2 1 + 1 else 1
  if form ≠ 1 ∧ form ≠ 2 then none
  else some {
    verMaj := bytesAt b 1 1, lastPos := bytesAt b 2 1, topo := bytesAt b 4 2, brimLen := bytesAt b 6 2, frameLen := bytesAt b 8 4,
    dirCrc := bytesAt b 12 4, entries := (List.range k).map fun j => parseEntry b (16 + 16 * j),
    offs := if form = 2 then some (bytesAt b 32 4, bytesAt b 36 4, bytesAt b 40 4, bytesAt b 44 4) else none }

def Layout.entryAt (x : Layout) (pos : Nat) : Option LayEntry := x.entries.find? fun e => e.pos = pos

/-- Where the slices of position `pos` start, and where its window starts (R162, R170); 0 where there is none. -/
def layoutOffs (x : Layout) (pos : Nat) : Nat × Nat × Nat :=
  let before := x.entries.filter fun e => decide (e.pos < pos)
  let o := 128 + sliceArea before
  let w := x.frameLen - x.brimLen + 256 + (before.map fun e => e.credit).sum
  match x.entryAt pos with
  | some e => (if e.allocDn = 0 then 0 else o, if e.allocUp = 0 then 0 else o + sliceLen e.allocDn, if e.credit = 0 then 0 else w)
  | none => (0, 0, 0)

/-! ### The band (R176 to R179) -/

def bandRaise (s : State) (n : Nat) : State := s.raiseAll (48 + n)

/-- Disarm the table. -/
def bandDisarm (s : State) (n : Nat) : State :=
  if s.fb (BAND_STATUS_ARMED n) then bandRaise ((s.setF (BAND_STATUS_ARMED n) 0).setF (BAND_STATUS_OPEN n) 0) n else s

/-- Where the down-slice, the up-slice and the window of a position start in the frame: an ENTRY layout carries its own position's offsets
(R197, log entry 11). -/
def placeOf (x : Layout) (pos : Nat) : Nat × Nat × Nat :=
  match x.offs with
  | some (a, b, c, _) => (a, b, c)
  | none => layoutOffs x pos

/-- The window table of a layout at a position: the up-slice, the brim window, then the down-slices of the ring plan; start and length in
4-byte units (R177). -/
def windowTable (s : State) (n : Nat) (x : Layout) (pos : Nat) : List (Nat × Nat) :=
  let e := x.entryAt pos
  let up := (e.map fun e => sliceLen e.allocUp).getD 0
  let cr := (e.map fun e => e.credit).getD 0
  let o := placeOf x pos
  let own := (if up = 0 then [] else [(o.2.1 / 4, up / 4)]) ++ (if cr = 0 then [] else [(o.2.2 / 4, cr / 4)])
  let downs := (x.entries.filter fun d => d.allocDn ≠ 0 && s.hasDownSlice n d.pos).map fun d =>
    ((placeOf x d.pos).1 / 4, sliceLen d.allocDn / 4)
  own ++ downs

/-- BAND_TAB_CRC of a table under a topology counter (R177). -/
def tableCrc (topo : Nat) (ws : List (Nat × Nat)) : Nat :=
  crc32c (beBytes 2 topo ++ beBytes 2 ws.length ++ ws.flatMap fun w => beBytes 2 w.1 ++ beBytes 2 w.2)

/-- The table that stands in BAND_WIN. -/
def bandTable (s : State) (n : Nat) : List (Nat × Nat) :=
  (List.range (s.fv (BAND_CTRL_ENTRIES n))).map fun k => (s.fv (BAND_WIN_START n k), s.fv (BAND_WIN_LEN n k))

def fConfirm (n : Nat) : Lane → Nat
  | .a => BAND_CONFIRM_A n | .b => BAND_CONFIRM_B n | .c => BAND_CONFIRM_C n

/-- The band arms when two confirms equal BAND_TAB_CRC; CONF shows them, before arming and after (R177). -/
def bandCheck (s : State) (n : Nat) : State :=
  let k := laneMask fun l => (s.ring n).staged && s.rd (fConfirm n l) = s.rd (BAND_TAB_CRC n)
  let s := s.setF (BAND_STATUS_CONF n) k
  if 2 ≤ popCount 3 k ∧ ¬ s.fb (BAND_STATUS_ARMED n) then
    bandRaise (s.setF (BAND_STATUS_ARMED n) 1) n
  else s

/-- ARM_REQ: the band computes BAND_TAB_CRC and awaits the confirms. -/
def bandArmReq (s : State) (n topo : Nat) : State :=
  let s := s.wr (BAND_TAB_CRC n) (BitVec.ofNat 32 (tableCrc topo (bandTable s n)))
  bandCheck (s.updRing n fun r => { r with staged := true }) n

/-- The counter of the table to arm: of the layout awaiting its first RUN crown, otherwise of the one in force. -/
def tableTopo (s : State) (n : Nat) : Nat :=
  match (s.ring n).next with
  | some x => x.topo
  | none => lastTopo (s.ring n)

/-- The ring controller writes the table of a layout and requests arming; an inauguration ends muting (R177, R179). -/
def stageTable (s : State) (n : Nat) (x : Layout) (pos : Nat) : State :=
  let ws := windowTable s n x pos
  let s := bandDisarm s n
  let s := (List.range ws.length).foldl (fun s k =>
    let w := ws.getD k (0, 0)
    (s.setF (BAND_WIN_START n k) w.1).setF (BAND_WIN_LEN n k) w.2) s
  bandArmReq (s.setF (BAND_CTRL_ENTRIES n) ws.length) n x.topo

/-- A lane's confirm: written by its SYS thread, or by its ring unit from the layout it has read (R177). -/
def bandConfirm (s : State) (n : Nat) (l : Lane) (v : Option Word) : State :=
  let own := match (s.ring n).next with
    | some x => BitVec.ofNat 32 (tableCrc x.topo (windowTable s n x (ownPos s n)))
    | none => match (s.ring n).layout with
      | some x => BitVec.ofNat 32 (tableCrc x.topo (windowTable s n x (ownPos s n)))
      | none => 0
  bandCheck (s.wr (fConfirm n l) (v.getD own)) n

/-- Entry to LISTEN_ONLY (R189). -/
def enterListenOnly (s : State) (n : Nat) : State :=
  lifeEvt ((s.setF (RING_STATUS_STATE n) 6).incF (RING_CNT_LISTEN_ONLY n)) n (RING_LIFE_EVT_LISTEN_ONLY n) (ownPos s n)

/-- R40, R178: no band opens while the guardian is not trusted. -/
def grdClosed (s : State) : Bool := s.time.grdHold || natBit (s.rd TIME_FAULT).toNat 1

/-- The band is closed to everything except EB, whatever frame passes: the guardian is not trusted (R40), or the band is muted (R179). -/
def bandShut (s : State) (n : Nat) : Bool := grdClosed s || s.fb (BAND_STATUS_MUTED n)

/-- A RUN frame arrives, or a head launches one, `early` ns after its prediction (R178): the cycle is open or closed; a first arrival only
predicts. A head's launch needs no armed table (R177). -/
def bandArrival (s : State) (n : Nat) (early : Int) : State :=
  let was := s.fb (BAND_STATUS_PREDICTED n)
  let ok := was && decide (early.natAbs ≤ 2000) && !grdClosed s
  let s := (s.setF (BAND_STATUS_PREDICTED n) 1).setF (BAND_ARR_ERR n) (if was then satSigned 16 (early / 5) else 0)
  let s := s.setB (BAND_STATUS_OPEN n) (ok && (s.fb (BAND_STATUS_ARMED n) || isHead s n) && !s.fb (BAND_STATUS_MUTED n))
  if ok then (s.updRing n fun r => { r with closedRun := 0 }).setF (BAND_STATUS_CLOSED_RUN n) 0
  else if ¬ was then s
  else
    let k := (s.ring n).closedRun + 1
    let s := bandRaise (((s.updRing n fun r => { r with closedRun := k }).setF (BAND_STATUS_CLOSED_RUN n) (min 3 k)).incF
      (BAND_SUPPR_CLOSED n)) n
    let s := if k % 3 = 0 then s.record 0x05 0x02 n [] else s
    if 3 ≤ k ∧ (ringState s n = 4 ∨ ringState s n = 5) then enterListenOnly s n else s

/-- Write attempts outside the open gate (R179): counted; three within 16 cycles mute the band. -/
def bandSuppress (s : State) (n k : Nat) : State :=
  if k = 0 then s
  else
    let s := s.incF (BAND_SUPPR_SUPPRESSED n) k
    let s := s.updRing n fun r => { r with suppr := match r.suppr with | [] => [k] | x :: t => (x + k) :: t }
    let sum := (s.ring n).suppr.sum
    let s := s.setF (BAND_STATUS_SUPPR_16 n) (min 15 sum)
    if 3 ≤ sum ∧ ¬ s.fb (BAND_STATUS_MUTED n) then
      (bandRaise ((s.setF (BAND_STATUS_MUTED n) 1).setF (BAND_STATUS_OPEN n) 0) n).record 0x05 0x01 n []
    else s

/-! ### The gate (R176, R177, R210) -/

/-- What the open gate passes: the whole frame at a head's launch (`none`), or the windows of the table. -/
abbrev Gate := Option (List (Nat × Nat))

/-- How far the windows that adjoin each other reach from byte a on; a itself where no window holds it. -/
def reach (ws : List (Nat × Nat)) : Nat → Nat → Nat
  | 0, a => a
  | k + 1, a =>
    match ws.find? fun w => decide (4 * w.1 ≤ a) && decide (a < 4 * (w.1 + w.2)) with
    | some w => reach ws k (4 * (w.1 + w.2))
    | none => a

/-- The byte at which a write of `len` bytes from byte a on ends. -/
def gateEnd (g : Gate) (a len : Nat) : Nat :=
  match g with
  | none => a + len
  | some ws => min (a + len) (reach ws ws.length a)

/-- A slice as it leaves: a write whose first byte falls outside the gate is not started, one that is cut off spoils the SCRC. -/
def gatedSlice (g : Gate) (a len : Nat) (old new : Slice) : Slice :=
  let e := gateEnd g a len
  if e ≤ a then old else if e < a + len then { new with crcOk := false } else new

/-- A write that starts inside the gate and is cut off counts as one suppressed attempt. -/
def cutOff (g : Gate) (a len : Nat) : Nat :=
  let e := gateEnd g a len
  if a < e ∧ e < a + len then 1 else 0

/-- The messages of a window of which `room` bytes after its header were written. -/
def cutMsgs : Nat → List BrimMsg → List BrimMsg
  | _, [] => []
  | room, m :: r => if msgBytes m ≤ room then m :: cutMsgs (room - msgBytes m) r else [{ m with crcOk := false }]

/-- A window as it leaves, like a slice; a message cut off fails its MCRC. -/
def gatedWindow (g : Gate) (a len : Nat) (old new : Window) : Window :=
  let e := gateEnd g a len
  if e ≤ a then old else if e < a + len then { new with msgs := cutMsgs (e - a - 4) new.msgs } else new

/-- An inauguration ends muting (R179). -/
def bandUnmute (s : State) (n : Nat) : State :=
  ((s.setF (BAND_STATUS_MUTED n) 0).setF (BAND_STATUS_SUPPR_16 n) 0).updRing n fun r => { r with suppr := [] }

/-! ### What the module writes (R163, R164, R211, R313) -/

/-- A slice whose header is in force and all else 0 (R165). -/
def blankSlice (pos topo alloc : Nat) (up : Bool) : Slice :=
  { crcOk := true, pos := pos, up := up, fresh := false, prior := false, void := false, pair := 0, attn := 0, ifv := 0, alloc := alloc,
    topo := topo, stamp := 0, payload := [], code1 := [0, 0, 0, 0], code2 := [0, 0, 0, 0] }

def peerId (s : State) : Nat := s.fv PAIR_PEER_ID_HI_ID_HI * 2 ^ 32 + s.fv PAIR_PEER_ID_LO_ID_LO

/-- MSFLAGS of the status block (R211). -/
def msFlags (s : State) : Nat :=
  bitsOf [s.fb PAIR_STATUS_MREQ, s.mode = .withdrawn, paired s, paired s && decide (s.fv PAIR_STATUS_READINESS < 2)]

/-- The status block (R211). -/
def statusBlock (s : State) : List Byte :=
  beBytes 1 s.mode.code ++ beBytes 1 (msFlags s) ++ beBytes 6 (if paired s then peerId s else 0) ++ beBytes 6 s.fx.pubE ++ [0, 0]

/-- A ring is running: a good crown has passed within the last 4 cycles (R299). -/
def ringRunning (s : State) (n : Nat) : Bool := ringState s n ≠ 0 && decide ((s.ring n).crownAge < 4)

/-- The 2 bytes of a ring in the ring view (R313). -/
def ringView (s : State) (n : Nat) : List Byte :=
  beBytes 1 (ownPos s n) ++
  beBytes 1 (bitsOf [false, false, false, ringRunning s n, decide ((s.ring n).peerStale = 0), anyWrap s n, s.fb (RING_STATUS_LINK_W n),
    s.fb (RING_STATUS_LINK_E n)])

/-- The health report (R313). -/
def healthReport (s : State) : List Byte :=
  let b := [0x04] ++ beBytes 1 (s.fv PAIR_STATUS_READINESS) ++ (allLanes.flatMap fun l => beBytes 1 (s.lane l).st.code) ++
    (allLanes.flatMap fun l => beBytes 1 (s.fv (AST_LANE_STATUS_SRAM_PROG l))) ++
    (allLanes.flatMap fun l => beBytes 1 (s.fv (AST_LANE_STATUS_LOGIC_PROG l))) ++ beBytes 1 (s.fv AST_STATUS_FX_PROG) ++
    beBytes 6 (committedE s) ++ beBytes 2 (s.fv PWR_FEED_V_FEED_A) ++ beBytes 2 (s.fv PWR_FEED_V_FEED_B) ++ [0, 0] ++
    ringList.flatMap (ringView s) ++ beBytes 6 s.E ++ List.replicate 14 0
  b ++ beBytes 4 (crc32c b)

/-- A slice written by the module (R166). -/
def freshSlice (pos topo alloc stamp : Nat) (up : Bool) : Slice := { blankSlice pos topo alloc up with fresh := true, stamp := stamp }

/-- The module's own up-slice: status block and health report; VOID where the node only repeats (R188, R211) and in WITHDRAWN (R19). -/
def ownUpSlice (s : State) (n : Nat) (e : LayEntry) (topo cycle : Nat) : Slice :=
  let b := freshSlice e.pos topo e.allocUp cycle true
  if ringState s n = 7 ∨ s.mode = .withdrawn then { b with void := true, ifv := (Config.ownIfv n).toNat }
  else
    let p := statusBlock s ++ (if 80 ≤ e.allocUp then healthReport s else [])
    { b with payload := p.take e.allocUp, ifv := (Config.ownIfv n).toNat }

/-- A down-slice the module writes as safe master: as published, under the counter it was built under (R163, R180), or VOID under the
crown's (R19, R164, R166, R367). -/
def ownDownSlice (s : State) (n : Nat) (e : LayEntry) (crownTopo : Nat) : Slice :=
  let b := { freshSlice e.pos crownTopo e.allocDn s.fx.pubE false with ifv := Store.get (fun _ => 0) s.planIfv (512 * n + 2 * e.pos) }
  match (if s.mode = .active then s.fx.slices.find? fun x => x.ring = n && x.pos = e.pos && decide (x.payload.length ≤ e.allocDn)
      else none) with
  | some x => { b with payload := x.payload, code1 := x.code1, code2 := x.code2, pair := x.pair, topo := x.topo }
  | none => { b with void := true }

/-- Messages that fit `room` bytes, and the rest, in order (R171). -/
def fitMsgs : Nat → List BrimMsg → List BrimMsg × List BrimMsg
  | _, [] => ([], [])
  | room, m :: r =>
    if msgBytes m ≤ room then
      let x := fitMsgs (room - msgBytes m) r
      (m :: x.1, x.2)
    else ([], m :: r)

/-- A join request (R191). In a join slot its SEQ is 0; as a MERGE in a window it takes the window's sequence (log entry 28, DEDUCED). -/
def joinMsg (kind headId topo : Nat) (src dst : Nat) : BrimMsg :=
  ⟨true, 2, src, dst, 0, beBytes 6 ownId ++ beBytes 1 kind ++ [0] ++ beBytes 6 headId ++ beBytes 2 topo⟩

/-- Number the messages written from the source's next sequence number on. -/
def numberMsgs (src : Nat) : Nat → List BrimMsg → List BrimMsg
  | _, [] => []
  | q, m :: r => { m with src := src, seq := q } :: numberMsgs src ((q + 1) % 65536) r

/-- The messages of the module's window of ring n in one cycle, in SEQ order: the lock tokens (R256, R262), the layouts of `first`, the
MERGE of every cycle (R207), the messages queued, and last what the bridge has released to the window, as far as they fit (R171). Beside the
window: how many of `first` stand in it. REPEATER writes it empty (R188). -/
def ownWindow (s : State) (n : Nat) (e : LayEntry) (first : List BrimMsg) : Window × Nat × State :=
  if ringState s n = 7 then (⟨true, false, e.pos, []⟩, 0, s)
  else
    let r := s.ring n
    let mg := match r.merge with
      | some (h, t) => [joinMsg 2 h t e.pos 0]
      | none => []
    let tok := lockTokens s n
    let x := fitMsgs (e.credit - 4) (tok ++ first ++ mg ++ r.txq)
    let used := (x.1.map msgBytes).sum
    let k := x.1.length
    let s := (tokensWritten s n (min k tok.length)).updRing n fun r => { r with
      txq := r.txq.drop (k - (tok ++ first ++ mg).length) }
    let (q, s) := if x.2 = [] then writeQueued n (e.credit - 4 - used) (windowQueue s n) s else ([], s)
    let ms := numberMsgs e.pos r.txSeq (x.1 ++ q)
    (⟨true, false, e.pos, ms⟩, min first.length (k - tok.length), s.updRing n fun r => { r with txSeq := (r.txSeq + ms.length) % 65536 })

/-- The module writes this slice as safe master: the crown names it and the mode writes down-slices (R19, R166). -/
def writesDown (s : State) (n : Nat) (down : Bool) (b : Slice) : Bool :=
  !b.up && down && s.mode ≠ .standby && s.hasDownSlice n b.pos

/-- A slice of a frame after the module's passage or at its launch (R166): its own slices are written through the gate. `down` says whether
the crown names the module. -/
def writeSlice (s : State) (n : Nat) (x : Layout) (pos cycle : Nat) (down : Bool) (g : Gate) (b : Slice) : Slice :=
  match x.entryAt b.pos with
  | some e =>
    if b.up ∧ b.pos = pos then gatedSlice g (placeOf x pos).2.1 (sliceLen e.allocUp) b (ownUpSlice s n e x.topo cycle)
    else if writesDown s n down b then gatedSlice g (placeOf x b.pos).1 (sliceLen e.allocDn) b (ownDownSlice s n e x.topo)
    else b
  | none => b

/-- How many of the module's slices the gate cut off. -/
def cutSlices (s : State) (n : Nat) (x : Layout) (pos : Nat) (down : Bool) (g : Gate) (ss : List Slice) : Nat :=
  (ss.map fun b =>
    match x.entryAt b.pos with
    | some e =>
      if b.up ∧ b.pos = pos then cutOff g (placeOf x pos).2.1 (sliceLen e.allocUp)
      else if writesDown s n down b then cutOff g (placeOf x b.pos).1 (sliceLen e.allocDn)
      else 0
    | none => 0).sum

/-- The module writes its slices and its window into a frame through the gate (R166, R176); what the gate cuts off counts (R210). -/
def writeOwn (s : State) (n : Nat) (x : Layout) (pos : Nat) (down : Bool) (g : Gate) (first : List BrimMsg) (f : RunFrame) :
    Nat × State × RunFrame :=
  let ss := f.slices.map (writeSlice s n x pos f.crown.cycle down g)
  let cuts := cutSlices s n x pos down g f.slices
  match x.entryAt pos with
  | some e =>
    let a := (placeOf x pos).2.2
    if (f.windows.any fun w => w.pos = pos) ∧ a < gateEnd g a e.credit then
      let (w, k, s) := ownWindow s n e first
      (k, bandSuppress s n (cuts + cutOff g a e.credit),
       { f with slices := ss, windows := f.windows.map fun v => if v.pos = pos then gatedWindow g a e.credit v w else v })
    else (0, bandSuppress s n cuts, { f with slices := ss })
  | none => (0, s, f)

end Sys2Proof.Machine
end

