-- ==== Sys2Proof/Machine/RingPass.lean ====
section
/-!
DEFINITION. What a module does as frames pass it on a ring and as its ports change: RUN passages (R161, R165 to R172, R178 to R180),
listening and joining (R190, R191), inauguration passages (R196 to R203), claims (R194), foreign frames (R207), port tests (R214).

Readings and choices: log entries 12 (DESIGN CHOICE), 13 (DESIGN CHOICE), 28 (DEDUCED), 39 (DEDUCED).
-/

namespace Sys2Proof.Machine

/-! ### Ports: LINK_CHANGE, REMOTE_FAULT, UNWRAP -/

/-- The link condition of R158 on the lines of RING_SFP: block lock, no hi_ber, no LOS, no TX_FAULT, module present. -/
def linkLines (v : BitVec 6) : Bool :=
  v.getLsbD 4 && !v.getLsbD 5 && !v.getLsbD 1 && !v.getLsbD 2 && !v.getLsbD 0

/-- The port's lines as the SFP+ and the PCS report them; a change of the link is an event, and a port that falls wraps. -/
def linkChange (s : State) (n : Nat) (p : Port) (v : BitVec 6) : State :=
  let up := linkLines v
  let s := s.setF (fSfp n p) (natSetBit v.toNat 3 (natBit (s.fv (fSfp n p)) 3))
  if s.fb (fLink n p) = up then s
  else
    let s := s.setB (fLink n p) up
    let s := s.updRing n fun r => { r with usableRun := set2 r.usableRun p 0, out := [] }
    checkWrap (ringEvt s n (fLinkChg n p)) n p

def execLinkChange (n : BitVec 3) (p : Port) (v : BitVec 6) (s : State) : Host.Outcome State Fault Refusal :=
  .next (linkChange s n.toNat p v)

/-- Remote Fault ordered sets (R185): the port is not usable from the first one until none has come for 10 µs. -/
def execRemoteFault (n : BitVec 3) (p : RemoteEvent) (s : State) : Host.Outcome State Fault Refusal :=
  .next (
    if p.on then
      checkWrap ((s.setF (fRf n.toNat p.port) 1).updRing n.toNat fun r => { r with usableRun := set2 r.usableRun p.port 0 }) n.toNat p.port
    else s.setF (fRf n.toNat p.port) 0)

/-- The condition of R186 for a wrapped port that is usable again. -/
def mayUnwrap (s : State) (n : Nat) (p : Port) : Bool :=
  let r := s.ring n
  wrapped s n p && usable s n p &&
  (if oriented s n && decide (ringState s n ≠ 1) && p = orientPort s n then at2 r.goodOn p
   else decide (4 ≤ at2 r.usableRun p) && decide (2 ≤ at2 r.quietRun p))

def execUnwrap (n : BitVec 3) (p : Port) (s : State) : Host.Outcome State Fault Refusal :=
  .next (if mayUnwrap s n.toNat p then setWrap s n.toNat p false else s)

/-! ### Freshness (R167) -/

/-- Fresh for a reader at r of a writer at w. -/
def isFresh (w r : Nat) (fresh prior : Bool) : Bool :=
  (decide (w < r) && fresh && !prior) || (decide (r < w) && prior)

/-- The CYCLE an up-slice fresh at the reader was written in: this frame's, or the one before. -/
def writtenCycle (w r cycle : Nat) : Nat := if w < r then cycle else (cycle + 2 ^ 32 - 1) % 2 ^ 32

/-- Fresh by R167, STAMP included. -/
def upFresh (b : Slice) (r cycle : Nat) : Bool := isFresh b.pos r b.fresh b.prior && b.stamp = writtenCycle b.pos r cycle

/-! ### Up-slices into the snapshot planes (R31, R123) -/

def snapPayloadAddr (n p : Nat) : Nat := 0x06000000 + n * 0x40000 + p * 0x400

def snapStatusAddr (n p : Nat) : Nat := 0x06200000 + n * 0x400 + p * 4

/-- The IFV range of the ring plan for a position (R367). -/
def ifvInRange (s : State) (n : Nat) (b : Slice) : Bool :=
  let v := Store.get (fun _ => 0) s.planIfv (512 * n + 2 * b.pos + 1)
  decide (v % 256 ≤ b.ifv) && decide (b.ifv ≤ v / 256)

/-- Status word of R123. -/
def upStatus (len : Nat) (codes topo crc fresh void : Bool) : Word :=
  BitVec.ofNat 32 (len * 65536 + bitsOf [false, true, void, fresh, crc, topo, codes, codes && topo && crc && fresh && !void])

/-- UPSLICE_VERIFY: one up-slice enters a lane's plane, its codes verified under the lane's inbound keys over the CYCLE its STAMP names
(R163, R164). -/
def storeUpSlice (n : Nat) (b : Slice) (fresh topoOk : Bool) (s : State) (l : Lane) : State :=
  if ¬ (s.lane l).powered then s
  else
    let str := upString n b.pos b.topo (b.stamp % 2 ^ 32) b.payload
    let codes := s.verifyCode l (slotIn1 n) str b.code1 && s.verifyCode l (slotIn2 n) str b.code2
    let st := upStatus b.payload.length codes topoOk b.crcOk fresh b.void
    let ws := wordsOf (b.payload ++ List.replicate (1024 - b.payload.length) 0)
    s.updLane l fun x => { x with
      snapBack := Store.put (fun _ => 0) ((List.range 256).foldl (fun m k =>
        Store.put (fun _ => 0) m (snapPayloadAddr n b.pos + 4 * k) (ws.getD k 0)) x.snapBack) (snapStatusAddr n b.pos) st }

/-- The ring's part of a snapshot plane starts anew with each cycle taken. -/
def clearRingPlane (n : Nat) (m : Store Word) : Store Word :=
  m.filter fun x => !(decide (snapStatusAddr n 0 ≤ x.1) && decide (x.1 < snapStatusAddr n 256)) &&
    !(decide (snapPayloadAddr n 0 ≤ x.1) && decide (x.1 < snapPayloadAddr n 256))

/-- Slices taken under a counter no longer in force read TOPO_OK = 0, and so ACCEPTED = 0 (R123, R215). -/
def staleTopo (n : Nat) (m : Store Word) : Store Word :=
  m.filterMap fun x =>
    let w := if snapStatusAddr n 0 ≤ x.1 ∧ x.1 < snapStatusAddr n 256 then x.2 &&& 0xFFFFFF5F else x.2
    if w = 0 then none else some (x.1, w)

/-- The position of the pair partner on the ring: named in the layout, or by its own status block (R211). -/
def isPeerSlice (s : State) (x : Layout) (b : Slice) : Bool :=
  paired s && (match x.entryAt b.pos with
    | some e => e.uid = peerId s
    | none => bytesAt b.payload 2 6 = ownId)

/-- One up-slice read at position r (R123, R167, R367). -/
def readUpSlice (n r cycle : Nat) (x : Layout) (s : State) (b : Slice) : State :=
  if ¬ b.up then s
  else
    let inRange := ifvInRange s n b
    let topoOk : Bool := b.topo = x.topo
    let s := s.forLanes (storeUpSlice n b (upFresh b r cycle && inRange) topoOk)
    if ¬ b.crcOk then ringEvt (s.incF (RING_ERR_SLICE_CRC n)) n (RING_EVT_SLICE_CRC n)
    else
    let s := if inRange then s
      else (((s.incF SEC_IFV_REJ_COUNT).setF SEC_IFV_REJ_RING n).setF SEC_IFV_REJ_POS b.pos).setF SEC_IFV_REJ_IFV b.ifv
    let fr := upFresh b r cycle && topoOk
    if fr && isPeerSlice s x b then
      s.updRing n fun g => { g with
        peerSeen := true, peerStale := 0,
        peerBlock := if b.void then g.peerBlock else some (bytesAt b.payload 0 1, bytesAt b.payload 1 1) }
    else s

/-- The up-slices of a cycle. -/
def readUpSlices (s : State) (n r cycle : Nat) (x : Layout) (ss : List Slice) : State :=
  let s := s.forLanes fun s l => s.updLane l fun y => { y with snapBack := clearRingPlane n y.snapBack }
  ss.foldl (readUpSlice n r cycle x) (s.updRing n fun g => { g with taken := true })

/-- A brim message read at the module: a bad MCRC is counted and the message discarded (R171); a bridge message for this node enters the
bridge (R239, R243). -/
def readBrim (n : Nat) (s : State) (m : BrimMsg) : State :=
  if ¬ m.crcOk then s.incF (RING_ERR_BRIM_CRC n)
  else if m.mtype = 1 ∧ (m.dst = ownPos s n ∨ m.dst = 255) then brimIn s n m
  else s

/-- The brim messages of the windows fresh at the reader, in the order they stand in. -/
def readWindows (s : State) (n r : Nat) (ws : List Window) : State :=
  ((ws.filter fun w => isFresh w.pos r w.fresh w.prior).flatMap fun w => w.msgs).foldl (readBrim n) s

/-- The attention bits of the fresh up-slices, by R167 alone (R257); a slice whose SCRC is bad has none. -/
def readAttn (s : State) (n r cycle : Nat) (ss : List Slice) : State :=
  (ss.filter fun b => b.up && b.crcOk && upFresh b r cycle).foldl (fun s b => attnRead s n b.pos b.attn) s

/-- What a cycle brings the module: the up-slices, then the bridge messages, then the attention edges, so that a node's WRITE stands ahead of
the EVENT of the same frame (R258, R263). -/
def readCycle (s : State) (n r cycle : Nat) (x : Layout) (f : RunFrame) : State :=
  readAttn (readWindows (readUpSlices s n r cycle x f.slices) n r f.windows) n r cycle f.slices

/-! ### Crowns -/

/-- T of the head at the passage, from CYCLE, the nearest high bits of the own count, and the delay of R202 (R41). -/
def crownTime (s : State) (n : Nat) (c : Crown) : Int :=
  let own : Int := s.time.epoch * 20 + s.time.tick
  let lo : Int := own - own % 2 ^ 32 + c.cycle
  let near := if 2 ^ 31 < lo - own then lo - 2 ^ 32 else if lo - own < -(2 ^ 31) then lo + 2 ^ 32 else lo
  near * 500000 + s.fv (RING_DLY_DLY n)

/-- The selected ring's crown as a time source (R41). -/
def ringTime (s : State) (n sinceStrobe : Nat) (c : Crown) : State :=
  if s.fv TIME_CTRL_RING_SEL = n ∧ ringSource s then
    s.setOffset 4 (some (crownTime s n c - (s.time.t + sinceStrobe)))
  else s

/-- CYCLE is contiguous with the last crown, or the crown carries STEP (R161). -/
def cycleOk (r : RingSt) (c : Crown) : Bool :=
  c.step || (match r.lastCycle with
    | some k => c.cycle = (k + 1) % 2 ^ 32
    | none => true)

/-- A break in CYCLE without STEP (R161): it is counted, and the run of good crowns starts anew with this crown. -/
def cycleGap (s : State) (n : Nat) : State :=
  (ringEvt (s.incF (RING_ERR_CYCLE_GAP n)) n (RING_EVT_CYCLE_GAP n)).updRing n fun r => { r with validRun := 0 }

/-- CYCLE of a good crown that the node has read. -/
def noteCycle (s : State) (n : Nat) (c : Crown) : State :=
  (s.updRing n fun r => { r with lastCycle := some c.cycle }).setF (RING_CYCLE_CYCLE n) c.cycle

/-- A RUN crown whose CYCLE breaks without STEP (R161): nothing of it is accepted but EB. -/
def brokenCrown (s : State) (n : Nat) (c : Crown) : State :=
  (noteCycle (cycleGap s n) n c).updRing n fun r => { r with validRun := 1 }

/-- A good RUN crown accepted at a node that is not head: CYCLE, the run of good crowns (R190), the safe master, the time source. -/
def goodCrown (s : State) (n sinceStrobe : Nat) (c : Crown) : State :=
  let r := s.ring n
  let s := if c.smId = r.smSeen then s else lifeEvt s n (RING_LIFE_EVT_SM_CHANGE n) c.smPos
  let s := s.updRing n fun r => { r with
    validRun := if r.lastCycle ≠ none then r.validRun + 1 else 1, smSeen := c.smId, headSeen := c.headId }
  let s := (noteCycle s n c).setF (RING_TOPO_SM_POS n) c.smPos
  let s := s.setB (RING_STATUS_MASTER n) (c.smHeld && c.smId = ownId && c.smPos = ownPos s n && ownPos s n ≠ 255)
  ringTime s n sinceStrobe c

/-- A layout comes into force (R189, R200): RING_TOPO, RING_LEN, the version; a new counter is an event and reaches the bridge (R254). -/
def layoutInForce (s : State) (n : Nat) (x : Layout) : State :=
  let old := lastTopo (s.ring n)
  let s := s.updRing n fun r => { r with
    layout := some x, next := none, acked := false, lastTopo := x.topo, dirBad := 0, dirSeen := false, taken := r.taken && old = x.topo }
  let s := ((s.setF (RING_TOPO_LAST_POS n) x.lastPos).setF (RING_TOPO_TOPO n) x.topo).setF (RING_STATUS_VER_MAJ n) x.verMaj
  let s := (s.setF (RING_LEN_FRAME_LEN n) x.frameLen).setF (RING_LEN_BRIM_Q n) (x.brimLen / 4)
  if old = x.topo then s
  else
    let s := s.forLanes fun s l => s.updLane l fun y => { y with snapBack := staleTopo n y.snapBack }
    bridgeTopoChange (ringEvt s n (RING_EVT_TOPO_CHG n)) n

/-- Into RUN or WRAP under a layout: no phase of an inauguration is left. -/
def enterRun (s : State) (n : Nat) (x : Layout) : State :=
  ((layoutInForce s n x).setF (RING_STATUS_STATE n) (runState s n)).setF (RING_INAUG_PHASE n) 0

/-! ### Joining (R172, R190 to R192) -/

/-- An ENTRY layout naming the node, in the window of the head at position 0. -/
def entryLayout (f : RunFrame) : Option Layout :=
  let ms := (f.windows.filter fun w => isFresh w.pos 255 w.fresh w.prior).flatMap fun w => w.msgs
  (ms.filterMap fun m => if m.crcOk ∧ m.mtype = 6 then parseLayout m.body else none).find? fun x =>
    x.offs.isSome && x.entries.any fun e => e.uid = ownId

/-- The position an ENTRY layout gives. -/
def entryPos (x : Layout) : Nat :=
  match x.entries with
  | e :: _ => e.pos
  | [] => 255

/-- Write a join request into the first free slot. -/
def fillJoin (m : BrimMsg) : List (Option BrimMsg) → List (Option BrimMsg)
  | [] => []
  | none :: r => some m :: r
  | some x :: r => some x :: fillJoin m r

/-- A LISTEN node that has observed one full valid cycle: takes an ENTRY layout and stages its band, or asks to join. It writes no JOIN in a
cycle in which its band is closed by R178 to R179 or R40. -/
def listenPass (s : State) (n : Nat) (f : RunFrame) : State × RunFrame :=
  if (s.ring n).validRun < 2 then (s, f)
  else
    match entryLayout f with
    | some x =>
      let s := (s.setF (RING_STATUS_POS n) (entryPos x)).updRing n fun r => { r with next := some x }
      let s := match x.offs with
        | some (_, _, _, d) => s.setF (RING_DLY_DLY n) d
        | none => s
      (stageTable s n x (entryPos x), f)
    | none =>
      match (s.ring n).next with
      | some _ => (s, f)
      | none =>
        if bandShut s n ∨ (s.ring n).closedRun ≠ 0 then (s, f)
        else (s, { f with joins := fillJoin (joinMsg 1 0 (lastTopo (s.ring n)) 255 0) f.joins })

/-- LISTEN to RUN or WRAP: an ENTRY layout under this counter is held and the band is armed. -/
def listenReady (s : State) (n : Nat) (c : Crown) : Option Layout :=
  let r := s.ring n
  match r.next with
  | some x => if 2 ≤ r.validRun ∧ s.fb (BAND_STATUS_ARMED n) ∧ x.topo = c.topo ∧ x.dirCrc = c.dirCrc then some x else none
  | none => none

/-! ### RUN passages -/

/-- The forward passage of a RUN frame at a position, in RUN, WRAP or REPEATER with the band open: the module's own bytes are written. -/
def writeFrame (s : State) (n : Nat) (x : Layout) (f : RunFrame) : State × RunFrame :=
  let down := s.fb (RING_STATUS_MASTER n) && decide (ringState s n ≠ 7)
  (writeOwn s n x (ownPos s n) down (some (bandTable s n)) [] f).2

/-- The states in which a node at a position writes (R188). -/
def writesIn (st : Nat) : Bool := st = 4 || st = 5 || st = 7

/-- A good RUN crown at a node that holds a layout (R178, R180, R189, R209). -/
def placedPass (s : State) (n : Nat) (x : Layout) (f : RunFrame) : State × RunFrame :=
  let c := f.crown
  let st := ringState s n
  if c.topo ≠ x.topo then ((if st = 7 then giveUpPos s n else enterListen s n), f)
  else if c.dirCrc ≠ x.dirCrc ∨ c.frameLen ≠ x.frameLen then
    let k := (s.ring n).dirBad + 1
    let s := s.updRing n fun r => { r with dirBad := k, dirSeen := true }
    (if 4 ≤ k ∧ st ≠ 7 then enterListen s n else s, f)
  else
    let s := s.updRing n fun r => { r with dirBad := 0, dirSeen := false }
    -- R209: the second of two good crowns 500 µs ± 2 µs apart ends LISTEN_ONLY
    let s := if st = 6 ∧ (s.ring n).closedRun = 0 ∧ 2 ≤ (s.ring n).validRun then s.setF (RING_STATUS_STATE n) (runState s n) else s
    let s := readCycle s n (ownPos s n) c.cycle x f
    if writesIn (ringState s n) ∧ s.fb (BAND_STATUS_OPEN n) then writeFrame s n x f else (s, f)

/-- A node in INAUG whose ACK was not written enters LISTEN when the inauguration is over: at the first RUN crown under the new counter, or,
without a layout of its own, at one that assigns its position (R201). -/
def ackMissed (s : State) (n : Nat) (c : Crown) : Bool :=
  match (s.ring n).next with
  | some x => !(s.ring n).acked && c.topo = x.topo
  | none => decide (ownPos s n ≤ c.lastPos)

/-- An accepted RUN crown, by node state. -/
def runByState (s : State) (n : Nat) (f : RunFrame) : State × RunFrame :=
  let c := f.crown
  let st := ringState s n
  if st = 1 then
    match listenReady s n c with
    | some x => placedPass (enterRun s n x) n x f
    | none => listenPass s n f
  else if st = 3 then
    if ackMissed s n c then (enterListen s n, f)
    else match (s.ring n).next with
      | some x =>
        if (s.ring n).acked ∧ c.topo = x.topo ∧ c.dirCrc = x.dirCrc then placedPass (enterRun s n x) n x f else (s, f)
      | none => (s, f)
  else
    match (s.ring n).layout with
    | some x => placedPass s n x f
    | none => (s, f)

/-- The forward passage of a RUN frame. A crown with a bad CRC, or with a break in CYCLE without STEP, is read and written for EB alone
(R161). -/
def runForward (s : State) (n : Nat) (f : RunFrame) (i : PassIn) : State :=
  let s := readEb s n i.sinceStrobe f.crown
  let s := bandArrival s n i.early
  let (s, f) :=
    if ¬ f.crown.crcOk then (badCrown s n, f)
    else if cycleOk (s.ring n) f.crown then runByState (goodCrown s n i.sinceStrobe f.crown) n f
    else (brokenCrown s n f.crown, f)
  let s := bandSuppress s n i.suppressed
  forward s n i.port (.run { f with crown := writeEb s n f.crown })

/-- A second passage of the same frame at a node without orientation port. -/
def samePassage (s : State) (n : Nat) (c : Crown) : Bool :=
  !oriented s n && c.crcOk && ((s.ring n).lastCycle = some c.cycle)

/-- A crown other than a placed node's RUN crown: its CRC error, or its CYCLE; it breaks the run of RUN crowns (R190). -/
def endedCrown (s : State) (n : Nat) (c : Crown) : State :=
  if c.crcOk then (noteCycle s n c).updRing n fun r => { r with validRun := 0 } else badCrown s n

/-- RUN_FRAME_PASSAGE (R167, R184, R187): OFF is dark; a claimant ends the frame and gives way; the head and a reverse passage only
forward. -/
def execRunFramePassage (n : BitVec 3) (f : RunFrame) (i : PassIn) (s : State) : Host.Outcome State Fault Refusal :=
  .next (
    let n := n.toNat
    let st := ringState s n
    if st = 0 then s
    else
      let s := noteFrame s n i.port f.crown.crcOk false
      if st = 2 then
        let s := bandSuppress (endedCrown (readEb s n i.sinceStrobe f.crown) n f.crown) n i.suppressed
        if f.crown.crcOk ∧ f.crown.headId ≠ ownId then enterListen s n else s
      else if isHead s n ∨ ¬ isForward s n i.port ∨ samePassage s n f.crown then
        forward (bandSuppress s n i.suppressed) n i.port (.run f)
      else runForward s n f i)

/-! ### Inauguration passages (R196 to R203) -/

/-- What every passage of an INAUG frame does first: a claimant gives way, the head and reverse passages forward, EB is read. `none`: the
passage is over. -/
def inaugEnter (s : State) (n : Nat) (f : InaugFrame) (i : PassIn) : State ⊕ State :=
  let h := f.head
  let st := ringState s n
  let good := h.crown.crcOk && h.bodyOk
  if st = 0 then .inl s
  else
    let s := noteFrame s n i.port h.crown.crcOk false
    if st = 2 then
      let s := bandSuppress (endedCrown (readEb s n i.sinceStrobe h.crown) n h.crown) n i.suppressed
      .inl (if good ∧ h.crown.headId ≠ ownId then enterListen s n else s)
    else if isHead s n then .inl (forward (bandSuppress s n i.suppressed) n i.port (.inaug f))
    else
      let s := s.updRing n fun r => { r with validRun := 0 }
      .inr (s.setF (BAND_STATUS_PREDICTED n) 1)

def withCrown (s : State) (n : Nat) (f : InaugFrame) : InaugFrame :=
  let up := fun (h : InaugHead) => { h with crown := writeEb s n h.crown }
  match f with
  | .roll h r => .roll (up h) r
  | .layout h m => .layout (up h) m
  | .measure h d => .measure (up h) d
  | .ack h d a => .ack (up h) d a
  | .echo h => .echo (up h)

/-- The end of a forward INAUG passage: the frame leaves with EB OR-ed. -/
def inaugLeave (s : State) (n : Nat) (i : PassIn) (f : InaugFrame) : State :=
  forward (bandSuppress s n i.suppressed) n i.port (.inaug (withCrown s n f))

/-- Head and body of the frame are good, or the crown's error is counted. -/
def inaugGood (s : State) (n : Nat) (h : InaugHead) (i : PassIn) : Bool × State :=
  let s := readEb s n i.sinceStrobe h.crown
  if ¬ h.crown.crcOk then (false, badCrown s n)
  else
    let s := if cycleOk (s.ring n) h.crown then s else cycleGap s n
    (h.bodyOk, noteCycle (s.updRing n fun r => { r with headSeen := h.crown.headId }) n h.crown)

/-- The module's roll record (R173, R197, R431). -/
def ownRoll (s : State) (n : Nat) (p : Port) : RollRec :=
  let req := fun k => Store.get (fun _ => 0) s.planReq (4 * n + k)
  { crcOk := true, uid := ownId, vmin := 1, vmax := 1, headElig := s.fb (RING_CTRL_HEAD_ELIG n), isModule := true,
    wake := s.fb (RING_CTRL_WAKE n), prio := s.fv (RING_CTRL_PRIO n), endpoints := (Config.ownEndpoints n).toNat % 65,
    allocDn := req 0, allocUp := req 1, credit := req 2, dly := 240, orient := (match p with | .east => 0 | .west => 1),
    lastTopo := lastTopo (s.ring n), wrapped := anyWrap s n, wrappedOrient := wrapped s n p }

/-- The first passage of ROLL: orientation, position, the record; the inauguration ends muting and the locks on the ring (R179, R184,
R216). The band opens the roll area whatever its table (R198), but not while the guardian is not trusted. -/
def rollFirst (s : State) (n : Nat) (recs : List RollRec) (i : PassIn) (cycle attempt : Nat) : State × List RollRec :=
  let s := bandUnmute (ringLocksLost s n) n
  let keep := lastTopo (s.ring n)
  let s := s.updRing n fun r => { r with
    next := none, acked := false, lastTopo := keep, rollAt := some (cycle, i.clock), delta1 := 0, merge := none }
  let s := (s.setF (RING_STATUS_STATE n) 3).setF (RING_STATUS_ORIENT n) (match i.port with | .east => 0 | .west => 1)
  let s := ((s.setF (RING_INAUG_PHASE n) 1).setF (RING_INAUG_ATTEMPT n) attempt).incF (RING_INAUG_COUNT n)
  if recs.length < 255 ∧ ¬ grdClosed s then (s.setF (RING_STATUS_POS n) recs.length, recs ++ [ownRoll s n i.port])
  else (s.setF (RING_STATUS_POS n) 255, recs)

/-- ROLL at a node: the first passage writes the record, the second only times it (R202). -/
def rollPass (s : State) (n : Nat) (h : InaugHead) (recs : List RollRec) (i : PassIn) : State :=
  let again := match (s.ring n).rollAt with
    | some (c, _) => decide (c = h.crown.cycle) && decide (ringState s n = 3)
    | none => false
  if again then
    let s := s.updRing n fun r => { r with delta1 := match r.rollAt with
      | some (_, t) => if r.delta1 = 0 then (i.clock : Int) - t else r.delta1
      | none => 0 }
    forward (bandSuppress s n i.suppressed) n i.port (.inaug (.roll h recs))
  else
    let (ok, s) := inaugGood s n h i
    if ok ∧ ringState s n ≠ 7 then
      let (s, recs) := rollFirst s n recs i h.crown.cycle h.attempt
      inaugLeave s n i (.roll h recs)
    else inaugLeave s n i (.roll h recs)

def execRollPassage (n : BitVec 3) (h : InaugHead) (recs : List RollRec) (i : PassIn) (s : State) : Host.Outcome State Fault Refusal :=
  .next (
    match inaugEnter s n.toNat (.roll h recs) i with
    | .inl s => s
    | .inr s => rollPass s n.toNat h recs i)

/-- ECHO: its passage is timed (R202), and EB is read and OR-written as in every INAUG crown (R168, R196, R198). It is launched the other way
round, so it counts on either port. -/
def execEchoPassage (n : BitVec 3) (h : InaugHead) (i : PassIn) (s : State) : Host.Outcome State Fault Refusal :=
  .next (
    let n := n.toNat
    match inaugEnter s n (.echo h) i with
    | .inl s => s
    | .inr s =>
      let s := readEb s n i.sinceStrobe h.crown
      let s := if ¬ h.crown.crcOk then badCrown s n
        else if h.bodyOk then s.updRing n fun r => { r with echoAt := some (h.crown.cycle, i.clock) } else s
      inaugLeave s n i (.echo h))

/-- LAYOUT: the node finds its entry, stages its window table; without one it enters LISTEN (R189, R196). -/
def layoutPass (s : State) (n : Nat) (m : BrimMsg) : State :=
  match (if m.crcOk then parseLayout m.body else none) with
  | none => s
  | some x =>
    match x.entryAt (ownPos s n) with
    | some e =>
      if e.uid = ownId ∧ x.offs.isNone then
        stageTable ((s.updRing n fun r => { r with next := some x, acked := false }).setF (RING_INAUG_PHASE n) 2) n x (ownPos s n)
      else enterListen s n
    | none => enterListen s n

/-- The forward passage of a later INAUG frame: `f` acts when the frame is good and the node is in INAUG. -/
def phasePass (s : State) (n : Nat) (fr : InaugFrame) (i : PassIn) (f : State → State × InaugFrame) : State :=
  match inaugEnter s n fr i with
  | .inl s => s
  | .inr s =>
    if ¬ isForward s n i.port then forward (bandSuppress s n i.suppressed) n i.port (.inaug fr)
    else
      let (ok, s) := inaugGood s n fr.head i
      if ok ∧ ringState s n = 3 then
        let (s, fr) := f s
        inaugLeave s n i fr
      else inaugLeave s n i fr

def execLayoutPassage (n : BitVec 3) (h : InaugHead) (m : BrimMsg) (i : PassIn) (s : State) : Host.Outcome State Fault Refusal :=
  .next (phasePass s n.toNat (.layout h m) i fun s => (layoutPass s n.toNat m, .layout h m))

/-- Δ1 and Δ2 of R202. -/
def deltas (r : RingSt) : Int × Int :=
  (r.delta1, match r.rollAt, r.echoAt with
    | some (c, t), some (d, e) => if c = d then (e : Int) - t else 0
    | _, _ => 0)

def execMeasurePassage (n : BitVec 3) (h : InaugHead) (ds : List (Nat × Int × Int)) (i : PassIn) (s : State) :
    Host.Outcome State Fault Refusal :=
  .next (phasePass s n.toNat (.measure h ds) i fun s =>
    let n := n.toNat
    let d := deltas (s.ring n)
    if ownPos s n ≠ 255 ∧ ¬ bandShut s n then (s.setF (RING_INAUG_PHASE n) 3, .measure h (ds ++ [(ownPos s n, d.1, d.2)]))
    else (s, .measure h ds))

/-- ACK: the node takes its delay and writes its word; one whose band is not armed writes 0x00. That node enters LISTEN, and so does one that
writes no word: it has no layout, or its band is closed (R196, R201). -/
def ackPass (s : State) (n : Nat) (dly : List (Nat × Nat)) (acks : List (Nat × Nat × Bool)) : State × List (Nat × Nat × Bool) :=
  let pos := ownPos s n
  let armed := s.fb (BAND_STATUS_ARMED n)
  match (s.ring n).next with
  | none => (enterListen s n, acks)
  | some x =>
    if bandShut s n then (enterListen s n, acks)
    else
      let s := match dly.find? fun d => d.1 = pos with
        | some d => s.setF (RING_DLY_DLY n) d.2
        | none => s
      let s := (s.updRing n fun r => { r with acked := true }).setF (RING_INAUG_PHASE n) 4
      (if armed then s else enterListen s n, acks ++ [(pos, x.verMaj, armed)])

def execAckPassage (n : BitVec 3) (h : InaugHead) (dly : List (Nat × Nat)) (acks : List (Nat × Nat × Bool)) (i : PassIn) (s : State) :
    Host.Outcome State Fault Refusal :=
  .next (phasePass s n.toNat (.ack h dly acks) i fun s =>
    let x := ackPass s n.toNat dly acks
    (x.1, .ack h dly x.2))

/-! ### Claims (R193, R194) -/

/-- The own claim came back in this cycle on every usable port. -/
def claimWon (s : State) (n : Nat) : Bool :=
  let r := s.ring n
  (usable s n .east || usable s n .west) && bothPorts.all fun p => !usable s n p || at2 r.claimBack p

/-- The claimant becomes head: the first ROLL leaves at its next strobe (R161, R194), with the EB of the claim that came back as EB_PRIOR
(R160). The holder named by the last RUN crown is the former holder (R213). -/
def becomeHead (s : State) (n : Nat) : State :=
  let s := (s.setF (RING_STATUS_HEAD n) 1).setF (RING_STATUS_STATE n) 3
  let s := (s.setF (RING_STATUS_POS n) 0).setF (RING_DLY_DLY n) 0
  let s := s.updRing n fun r => { r with claimRound := 0, head := { HeadSt.init with cause := 1, stepNext := true, ebBack := r.claimEb, former := r.smSeen } }
  lifeEvt s n (RING_LIFE_EVT_HEAD_GAINED n) 0

/-- The claim came back as it was launched in this cycle, EB aside (R193, R194). -/
def unaltered (r : RingSt) (f : ClaimFrame) : Bool :=
  match r.claimSent with
  | some g => { f with crown := { f.crown with eb := g.crown.eb } } = g
  | none => false

/-- A CLAIM frame at a claimant: its own may win, a better one ends its claim, a worse one is dropped. -/
def claimMeet (s : State) (n : Nat) (p : Port) (f : ClaimFrame) : State :=
  let good := f.crown.crcOk && f.bodyOk
  let prio := s.fv (RING_CTRL_PRIO n)
  if ¬ good then s
  else if f.id = ownId ∧ f.crown.headId = ownId then
    let s := s.updRing n fun r => { r with claimBack := set2 r.claimBack p (at2 r.claimBack p || unaltered r f), claimEb := f.crown.eb }
    if claimWon s n then becomeHead s n else s
  else if f.prio < prio ∨ (f.prio = prio ∧ f.id < ownId) then
    enterListen (lifeEvt (s.incF (RING_CNT_CLAIMS_LOST n)) n (RING_LIFE_EVT_CLAIM_LOST n) (ownPos s n)) n
  else s

def execClaimFrame (n : BitVec 3) (p : Port) (sinceStrobe : Nat) (f : ClaimFrame) (s : State) : Host.Outcome State Fault Refusal :=
  .next (
    let n := n.toNat
    if ringState s n = 0 then s
    else
      let s := noteFrame s n p f.crown.crcOk true
      let s := endedCrown (readEb s n sinceStrobe f.crown) n f.crown
      if ringState s n = 2 then claimMeet s n p f
      else forward s n p (.claim { f with crown := writeEb s n f.crown }))

/-- CLAIM_TIMEOUT: no win after CL_ROUND 8; listening starts again. -/
def execClaimTimeout (n : BitVec 3) (s : State) : Host.Outcome State Fault Refusal :=
  .next (
    let n := n.toNat
    if ringState s n = 2 ∧ 8 ≤ (s.ring n).claimRound then
      let s := lifeEvt (s.incF (RING_CNT_CLAIM_TIMEOUTS n)) n (RING_LIFE_EVT_CLAIM_TIMEOUT n) (ownPos s n)
      enterListen (s.updRing n fun r => { r with noCrown := 0 }) n
    else s)

/-- NO_CROWN_TIMEOUT (R189): 4 strobes without a good crown; in INAUG, without an INAUG or RUN frame. After a MERGE the head claims only after 4 cycles without a frame (R207). -/
def execNoCrownTimeout (n : BitVec 3) (s : State) : Host.Outcome State Fault Refusal :=
  .next (
    let n := n.toNat
    let r := s.ring n
    let st := ringState s n
    if st = 3 ∧ ¬ isHead s n ∧ 4 ≤ r.noRun then enterListen s n
    else if r.noCrown < 4 then s
    else if st = 4 ∨ st = 5 ∨ st = 6 then enterListen s n
    else if st = 1 ∧ s.fb (RING_CTRL_HEAD_ELIG n) ∧ (s.mode = .standby ∨ s.mode = .active) ∧ (¬ r.mergeHold ∨ 4 ≤ r.noFrame) then
      (s.updRing n fun r => { r with mergeHold := false, claimRound := 0, claimEb := 0, claimBack := (false, false) }).setF
        (RING_STATUS_STATE n) 2
    else s)

/-! ### Foreign frames (R207) -/

/-- A frame of another ring has arrived on port p with a good crown: it counts as a frame and as a good crown heard (R186, R189, R207), in
the run of cycles of its port, and not as the own ring's. -/
def noteForeign (s : State) (n : Nat) (p : Port) : State :=
  s.updRing n fun r =>
    let x := at2 r.foreign p
    { r with
      sawFrame := true, noFrame := 0, sawCrown := true, noCrown := 0, goodOn := set2 r.goodOn p true,
      foreign := set2 r.foreign p (if x.2 then x.1 else x.1 + 1, true) }

/-- FOREIGN_FRAME: a good crown of another head on a wrapped port; in the port's second consecutive cycle the head stops, any other node at a
position writes a MERGE. -/
def execForeignFrame (n : BitVec 3) (p : Port) (c : Crown) (s : State) : Host.Outcome State Fault Refusal :=
  .next (
    let n := n.toNat
    let r := s.ring n
    let own := if isHead s n then ownId else r.headSeen
    if ¬ (ringState s n ≠ 0 ∧ wrapped s n p ∧ c.crcOk ∧ c.headId ≠ own) then s
    else
      let s := noteForeign s n p
      if (at2 (s.ring n).foreign p).1 < 2 then s
      else if isHead s n then
        (lifeEvt s n (RING_LIFE_EVT_MERGE n) 0).updRing n fun r => { r with mergeHold := true, head := { r.head with stop := true } }
      else if oriented s n ∧ r.merge = none then
        (lifeEvt s n (RING_LIFE_EVT_MERGE n) (ownPos s n)).updRing n fun r => { r with merge := some (c.headId, c.topo) }
      else s)

/-! ### Commands to the ring (R208, R214) -/

def releaseHead (s : State) (n : Nat) : State := if isHead s n then s.updHead n fun h => { h with stop := true } else s

def reinaug (s : State) (n : Nat) : State :=
  if isHead s n then s.updHead n fun h => { h with cause := if h.cause = 0 then 4 else h.cause } else s

def execReleaseHead (n : BitVec 3) (s : State) : Host.Outcome State Fault Refusal := .next (releaseHead s n.toNat)

def execReinaug (n : BitVec 3) (s : State) : Host.Outcome State Fault Refusal := .next (reinaug s n.toNat)

/-- Why an isolation is refused; 0: it proceeds. -/
def isoRefusal (s : State) (n : Nat) (p : Port) : Nat :=
  if ¬ portGood s n p.other then 1
  else if (s.ring n).iso = some p.other then 2
  else if ringState s n = 2 ∨ ringState s n = 3 then 3
  else 0

/-- Writing 1 to an ISOLATE bit (R214). -/
def portIsolate (s : State) (n : Nat) (p : Port) : State :=
  let s := s.setF (fIso n p) 1
  if (s.ring n).iso = some p then s
  else
    let k := isoRefusal s n p
    if k ≠ 0 ∨ s.prepared 5 then
      lifeEvt ((s.setF (RING_PORT_TEST_STATUS n) 3).setF (RING_PORT_TEST_REFUSE n) k) n (RING_LIFE_EVT_ISO_REFUSED n) (ownPos s n)
    else
      let s := ((s.setF (RING_PORT_TEST_STATUS n) 1).setF (RING_PORT_TEST_REFUSE n) 0).setF (RING_PORT_TEST_ERR_CNT n) 0
      let s := (s.setF (RING_PORT_TEST_SECONDS n) 0).updRing n fun r => { r with iso := some p, isoFrom := s.E, usableRun := set2 r.usableRun p 0 }
      checkWrap s n p

/-- Clearing it ends the test with `errs` errors counted; the port rejoins by UNWRAP. -/
def portIsolateEnd (s : State) (n : Nat) (p : Port) (errs : Nat) : State :=
  let s := s.setF (fIso n p) 0
  if (s.ring n).iso = some p then
    let t := (s.E - (s.ring n).isoFrom) / 100
    let s := (s.setF (RING_PORT_TEST_STATUS n) 2).setF (RING_PORT_TEST_ERR_CNT n) (min 65535 errs)
    let s := (s.setB (RING_PORT_TEST_PASS n) (errs = 0)).setF (RING_PORT_TEST_SECONDS n) (min 255 t)
    s.updRing n fun r => { r with iso := none }
  else s

def execPortIsolate (n : BitVec 3) (p : Port) (s : State) : Host.Outcome State Fault Refusal := .next (portIsolate s n.toNat p)

def execPortIsolateEnd (n : BitVec 3) (p : Port) (errs : Nat) (s : State) : Host.Outcome State Fault Refusal :=
  .next (portIsolateEnd s n.toNat p errs)

/-! ### Band commands -/

/-- BAND_MISSED_CYCLE (R204): missed, not closed; the prediction moves on by 500 µs, so the next arrival is measured from it. -/
def execBandMissedCycle (n : BitVec 3) (s : State) : Host.Outcome State Fault Refusal :=
  .next (if s.fb (BAND_STATUS_PREDICTED n.toNat) then s.setF (BAND_STATUS_OPEN n.toNat) 0 else s)

def execBandArmReq (n : BitVec 3) (s : State) : Host.Outcome State Fault Refusal := .next (bandArmReq s n.toNat (tableTopo s n.toNat))

def execBandConfirm (n : BitVec 3) (l : Lane) (v : Option Word) (s : State) : Host.Outcome State Fault Refusal :=
  .next (if (s.lane l).powered then bandConfirm s n.toNat l v else s)

end Sys2Proof.Machine
end

