-- ==== Sys2Proof/Machine/RingHead.lean ====
section
/-!
DEFINITION. The head of a ring: launches (R165, R196, R200), the layout it computes (R175, R199, R202), the return of a frame (R187,
R192, R201, R205, R206, R212, R213), claims at the strobe (R193, R194), and the ring's part of a tick strobe (R432).

Readings and choices: log entries 2 (DESIGN CHOICE), 28 (DEDUCED), 29 (DEDUCED).
-/

namespace Sys2Proof.Machine

/-! ### Crowns the module makes -/

/-- The low 32 bits of the tick count (R41). -/
def cycleNow (s : State) : Nat := (s.time.epoch * 20 + s.time.tick) % 2 ^ 32

/-- A crown of the module as head or claimant (R160, R161): `sm` the safe master named, if any. -/
def mkCrown (s : State) (n topo lastPos brimLen frameLen dirCrc : Nat) (prior : Byte) (step : Bool) (sm : Nat × Nat) : Crown :=
  { crcOk := true, verMaj := 1, verMin := Config.verMin.toNat,
    cycle := cycleNow s, topo := topo, headId := ownId, smId := sm.1, smPos := sm.2, smHeld := sm.1 ≠ 0,
    lastPos := lastPos, step := step, brimLen := brimLen, frameLen := frameLen, dirCrc := dirCrc,
    eb := if ebAsked s n then 0xFF else 0, ebPrior := prior, headT := s.time.t }

def noMaster : Nat × Nat := (0, 255)

/-- The launch port (R187): none where neither port is usable. -/
def launchPort (s : State) (n : Nat) : Option Port :=
  if usable s n .east then some .east else if usable s n .west then some .west else none

/-- The receive port (R187). -/
def receivePort (s : State) (n : Nat) : Port := if usable s n .west then .west else .east

/-- A launch strobe of the head is over: the next return is awaited, the EB of the last one is spent. -/
def awaitReturn (s : State) (n : Nat) : State :=
  s.updHead n fun h => { h with arrived := false, returned := none, ebBack := 0, phaseOk := false }

/-- The head sends a frame on its launch port. -/
def launch (s : State) (n : Nat) (f : RingFrame) (cycle : Nat) (more : List (Port × RingFrame)) : State :=
  let out := (match launchPort s n with | some p => [(p, f)] | none => []) ++ more
  (awaitReturn (sendOut s n out) n).updHead n fun h => { h with stepNext := false, cycle := cycle }

/-- An INAUG frame leaves, whatever the band's table (R198); its launch predicts the next one (R178). While the guardian is not trusted the
band is closed to it (R40). -/
def launchInaug (s : State) (n : Nat) (f : InaugFrame) (more : List (Port × RingFrame)) : State :=
  let s := s.setF (BAND_STATUS_PREDICTED n) 1
  if bandShut s n then awaitReturn s n else launch s n (.inaug f) f.head.crown.cycle more

/-! ### Layouts (R162, R175, R199) -/

/-- The versions of the head's own range: the module runs major version 1 (R160). -/
def versionOf (_roll : List RollRec) : Nat := 1

/-- An allocation as granted: a multiple of 4, at most 1,024. -/
def grantAlloc (a : Nat) : Nat := min 1024 ((a + 3) / 4 * 4)

/-- The entry of a position (R197, R199). -/
def rollEntry (v : Nat) (k : Nat) (r : RollRec) : LayEntry :=
  if r.vmin ≤ v ∧ v ≤ r.vmax then
    ⟨r.uid, k, false, r.isModule, r.headElig, false, grantAlloc r.allocDn, grantAlloc r.allocUp, max 64 r.credit⟩
  else ⟨r.uid, k, true, r.isModule, r.headElig, false, 0, 0, 0⟩

/-- One more than the largest last counter, 0 skipped (R200). -/
def nextTopo (own : Nat) (roll : List RollRec) : Nat :=
  let t := ((roll.map fun r => r.lastTopo).foldl max own + 1) % 65536
  if t = 0 then 1 else t

def layoutOf (v topo : Nat) (es : List LayEntry) : Layout :=
  let brim := 256 + (es.map fun e => e.credit).sum
  { verMaj := v, lastPos := es.length - 1, topo := topo, brimLen := brim, frameLen := 128 + sliceArea es + brim, dirCrc := dirCrcOf es,
    entries := es, offs := none }

/-- The layout the head computes from the roll. -/
def computeLayout (own : Nat) (roll : List RollRec) : Layout :=
  let v := versionOf roll
  layoutOf v (nextTopo own roll) ((List.range roll.length).filterMap fun k => (roll[k]?).map (rollEntry v k))

/-- t_W in ns, rounded up (R157). -/
def wireTime (frameLen : Nat) : Nat := (8 * (frameLen + 16) + 9) / 10

/-- RING_BUDGET.REASON (R175): the first check that fails, 0 within budget. -/
def budgetReason (x : Layout) (loop : Nat) (wrappedLoop : Bool) : Nat :=
  if (if wrappedLoop then 480000 else 400000) < wireTime x.frameLen + loop then 1
  else if 245760 < x.frameLen then 2
  else if 16384 < x.brimLen then 3
  else 0

/-- The layout of a head over budget (R201): the crown, the join area and its own window. -/
def overLayout (x : Layout) : Layout :=
  layoutOf x.verMaj x.topo ((x.entries.take 1).map fun e => { e with allocDn := 0, allocUp := 0 })

/-! ### RUN launches (R165) -/

/-- A slice of the returned frame, carried for one cycle or blanked. -/
def relaySlice (f : Option RunFrame) (topo pos alloc : Nat) (up : Bool) : Slice :=
  match f.bind fun f => f.slices.find? fun b => b.pos = pos && b.up = up with
  | some b => if b.crcOk ∧ b.fresh ∧ b.topo = topo then { b with fresh := false, prior := true } else blankSlice pos topo alloc up
  | none => blankSlice pos topo alloc up

/-- The slices of an entry, down-slice first (R162). -/
def relayEntry (f : Option RunFrame) (topo : Nat) (e : LayEntry) : List Slice :=
  (if e.allocDn = 0 then [] else [relaySlice f topo e.pos e.allocDn false]) ++
  (if e.allocUp = 0 then [] else [relaySlice f topo e.pos e.allocUp true])

/-- A brim window of the returned frame, carried or blanked. -/
def relayWindow (f : Option RunFrame) (pos : Nat) : Window :=
  match f.bind fun f => f.windows.find? fun w => w.pos = pos with
  | some w => if w.fresh then { w with fresh := false, prior := true } else ⟨false, false, pos, []⟩
  | none => ⟨false, false, pos, []⟩

/-- The ENTRY layout the head owes a node (R192, R197). -/
def entryMsg (s : State) (n : Nat) (x : Layout) (uid : Nat) : List BrimMsg :=
  match x.entries.find? fun e => e.uid = uid with
  | some e =>
    let o := layoutOffs x e.pos
    let d := ((s.ring n).head.measured.find? fun m => m.1 = e.pos).map fun m => m.2.1.toNat
    [⟨true, 6, 0, 255, 0, layoutBytes { x with entries := [e], offs := some (o.1, o.2.1, o.2.2, d.getD 0) }⟩]
  | none => []

/-- The head's own slices and window (R165), inside the one window of its launch (R177). -/
def headWrites (s : State) (n : Nat) (x : Layout) (f : RunFrame) : State × RunFrame :=
  let first := (s.ring n).head.entryFor.flatMap (entryMsg s n x)
  let (k, s, f) := writeOwn s n x 0 (s.fb (RING_STATUS_MASTER n)) none first f
  (s.updHead n fun h => { h with entryFor := h.entryFor.drop k }, f)

/-- What the crown of a launch shows of the safe master, in the head's own registers (R212). -/
def showMaster (s : State) (n : Nat) : State :=
  let h := (s.ring n).head
  let s := if h.smId = (s.ring n).smSeen then s else lifeEvt s n (RING_LIFE_EVT_SM_CHANGE n) h.smPos
  let s := s.updRing n fun r => { r with smSeen := h.smId, headSeen := ownId }
  (s.setF (RING_TOPO_SM_POS n) h.smPos).setB (RING_STATUS_MASTER n) (h.smId = ownId)

/-- The RUN frame of a launch, built from the returned one (R165). -/
def buildRun (s : State) (n : Nat) (x : Layout) : RunFrame :=
  let h := (s.ring n).head
  let c := { mkCrown s n x.topo x.lastPos x.brimLen x.frameLen x.dirCrc h.ebBack (h.stepNext || s.time.stepped) (h.smId, h.smPos) with
    verMaj := x.verMaj }
  let ws := (x.entries.filter fun e => e.credit ≠ 0).map fun e => relayWindow h.returned e.pos
  ⟨c, x.entries.flatMap (relayEntry h.returned x.topo), List.replicate 4 none, ws⟩

/-- FRAME_LAUNCH of a RUN frame, `early` ns after the band's prediction. The launch is the head's window, so a band that is closed lets no
byte of it out (R177, R178, log entry 29). -/
def launchRun (s : State) (n : Nat) (x : Layout) (early : Int) : State :=
  let s := bandArrival (showMaster s n) n early
  if ¬ s.fb (BAND_STATUS_OPEN n) then awaitReturn s n
  else
    let (s, f) := headWrites s n x (buildRun s n x)
    let s := launch s n (.run f) f.crown.cycle []
    (s.updHead n fun h => { h with launched := true }).setF (RING_CYCLE_CYCLE n) f.crown.cycle

/-! ### Inauguration at the head (R196, R200 to R202) -/

/-- Head and body of an INAUG frame. -/
def mkInaug (s : State) (n topo lastPos brimLen dirCrc layoutCrc loop tR : Nat) : InaugHead :=
  let h := (s.ring n).head
  { crown := mkCrown s n topo lastPos brimLen (192 + brimLen) dirCrc h.ebBack (h.stepNext || s.time.stepped) noMaster, bodyOk := true,
    attempt := s.fv (RING_INAUG_ATTEMPT n), hPrio := s.fv (RING_CTRL_PRIO n), hVmin := 1, hVmax := 1, layoutCrc := layoutCrc, loop := loop,
    tR := tR }

/-- ROLL, with ECHO on the other port when that port is usable; record 0 is the head's own, which has no passage and shows no wrap: R175
asks for the head's wrap beside the records'. -/
def launchRoll (s : State) (n : Nat) : State :=
  let s := s.setF (RING_INAUG_PHASE n) 1
  let h := mkInaug s n (lastTopo (s.ring n)) 0 10200 0 0 0 0
  let p := (launchPort s n).getD .east
  let e := { h with crown := { h.crown with brimLen := 0, frameLen := 192 } }
  let echo := if usable s n p.other then [(p.other, RingFrame.inaug (.echo e))] else []
  launchInaug s n (.roll h [{ ownRoll s n p with wrapped := false, wrappedOrient := false }]) echo

/-- An attempt begins: the former holder is kept, the locks on the ring are void (R213, R216). -/
def startRoll (s : State) (n attempt : Nat) : State :=
  let s := ringLocksLost (bandUnmute s n) n
  let s := ((s.setF (RING_STATUS_STATE n) 3).setF (RING_INAUG_ATTEMPT n) attempt).setF (RING_STATUS_MASTER n) 0
  let s := s.updHead n fun h => { h with
    cause := 0, former := if h.smId = 0 then h.former else h.smId, smId := 0, smPos := 255, launched := false, late := 0, entryFor := [], backoff := none,
    overBudget := false, obRun := 0 }
  launchRoll s n

/-- An inauguration with a cause (R165, R192, R205, R208): a head whose module has withdrawn stops instead. -/
def startInaug (s : State) (n cause : Nat) : State :=
  if ¬ (s.mode = .standby ∨ s.mode = .active) then enterListen s n
  else
    let s := (s.setF (RING_INAUG_CAUSE n) cause).incF (RING_INAUG_COUNT n)
    startRoll s n 1

/-- INAUG_ATTEMPT_FAIL (R201): again from ROLL; after the third failure the head is silent. -/
def inaugFail (s : State) (n : Nat) : State :=
  let s := lifeEvt s n (RING_LIFE_EVT_INAUG_FAIL n) (ownPos s n)
  let a := s.fv (RING_INAUG_ATTEMPT n)
  if 3 ≤ a then (s.setF (RING_INAUG_PHASE n) 0).updHead n fun h => { h with backoff := some 0 }
  else startRoll s n (a + 1)

/-- RING_WRAP.E_POS: the lowest position whose record shows a wrap (R202); 255 for none. -/
def ePosOf (roll : List RollRec) : Nat :=
  ((List.range roll.length).find? fun k => (roll.getD k ⟨false, 0, 0, 0, false, false, false, 0, 0, 0, 0, 0, 0, 0, 0, false, false⟩).wrapped).getD 255

/-- The message of a FULL layout and its CRC. -/
def layoutMsg (x : Layout) : BrimMsg := ⟨true, 6, 0, 255, 0, layoutBytes x⟩

def layoutCrc (x : Layout) : Nat := crc32 (brimBytes (layoutMsg x))

/-- After ROLL: E_POS, which no rule gives where no record shows a wrap (log entry 2); the layout, the budget (R175), the band's table; LAYOUT, or RUN frames without process data (R201). -/
def launchLayout (s : State) (n : Nat) (early : Int) : State :=
  let h := (s.ring n).head
  let x := computeLayout (lastTopo (s.ring n)) h.roll
  let wrap := anyWrap s n || h.roll.any fun r => r.wrapped
  let why := budgetReason x h.loop wrap
  let s := (s.setF (RING_BUDGET_LOOP n) (min 65535 (h.loop / 10))).setF (RING_BUDGET_REASON n) why
  let s := if h.ePos = 255 then (s.setF (RING_WRAP_E_POS n) (s.freeVal.toNat % 256)).drawn else s.setF (RING_WRAP_E_POS n) h.ePos
  let s := if x.entries.any fun e => e.verRej then ringEvt s n (RING_EVT_VERSION_REJ n) else s
  if why ≠ 0 then
    let s := (ringEvt s n (RING_EVT_OVER_BUDGET n)).setF (RING_INAUG_PHASE n) 0
    let o := overLayout x
    let s := enterRun s n o
    launchRun (s.updHead n fun h => { h with overBudget := true, obRun := 0, wrapNews := false, absent := [], silent := [] }) n o early
  else
    let s := s.setF (RING_INAUG_PHASE n) 2
    let s := s.updRing n fun r => { r with next := some x, head := { r.head with layout := some x } }
    let s := stageTable s n x 0
    let m := layoutMsg x
    let i := mkInaug s n x.topo x.lastPos ((msgBytes m + 3) / 4 * 4) x.dirCrc (layoutCrc x) h.loop 0
    launchInaug s n (.layout i m) []

def launchMeasure (s : State) (n : Nat) (x : Layout) : State :=
  let s := s.setF (RING_INAUG_PHASE n) 3
  launchInaug s n (.measure (mkInaug s n x.topo x.lastPos 2040 x.dirCrc (layoutCrc x) (s.ring n).head.loop 0) []) []

/-- DLY of a position (R202): its delay from the head's launch to its forward passage. -/
def dlyOf (h : HeadSt) (closed : Bool) (m : Nat × Int × Int) : Nat :=
  let L : Int := h.loop
  let d :=
    if m.2.1 = 0 ∧ (m.2.2 ≠ 0 ∨ closed) then (L - m.2.2) / 2
    else if m.1 ≤ h.ePos then (h.tR : Int) / 2 - m.2.1 / 2
    else h.tR + (L - h.tR) / 2 - m.2.1 / 2
  d.toNat

/-- The DLY table; it stands in `measured` for the ENTRY layouts of later joins. -/
def launchAck (s : State) (n : Nat) (x : Layout) : State :=
  let h := (s.ring n).head
  let closed := !anyWrap s n && h.ePos = 255
  let ds := h.measured.map fun m => (m.1, dlyOf h closed m)
  let s := (s.setF (RING_INAUG_PHASE n) 4).updHead n fun h => { h with measured := ds.map fun d => (d.1, (d.2 : Int), 0) }
  launchInaug s n (.ack (mkInaug s n x.topo x.lastPos 2048 x.dirCrc (layoutCrc x) h.loop h.tR) ds []) []

/-- The first RUN frame under the new counter (R200): the former holder is named again at its new position when it is in the roll (R213). -/
def firstRun (s : State) (n : Nat) (x : Layout) (early : Int) : State :=
  let s := enterRun s n x
  let h := (s.ring n).head
  let sm := match x.entries.find? fun e => h.former ≠ 0 && e.uid = h.former with
    | some e => (h.former, e.pos)
    | none => noMaster
  let s := s.updHead n fun h => { h with
    smId := sm.1, smPos := sm.2, former := 0, notFresh := 0, absent := [], silent := (x.entries.filter fun e => e.silent).map fun e => e.pos,
    wrapNews := false, mreq := [] }
  let s := s.setF (RING_WRAP_SILENT_CNT n) (s.ring n).head.silent.length
  launchRun s n x early

/-- The next frame of an inauguration, at a strobe. -/
def inaugStep (s : State) (n : Nat) (early : Int) : State :=
  let h := (s.ring n).head
  let ph := s.fv (RING_INAUG_PHASE n)
  match h.backoff with
  | some k => s.updHead n fun h => { h with backoff := some (k + 1) }
  | none =>
    if h.cause ≠ 0 then startInaug s n h.cause
    else if ¬ h.phaseOk then inaugFail s n
    else if ph = 1 then launchLayout s n early
    else match h.layout with
      | some x => if ph = 2 then launchMeasure s n x else if ph = 3 then launchAck s n x else firstRun s n x early
      | none => inaugFail s n

/-! ### Presence (R205) -/

/-- One more cycle: a position whose window was fresh starts again, any other counts one more. -/
def countAbsent (fresh : List Nat) (pos : List Nat) (m : Store Nat) : Store Nat :=
  pos.foldl (fun acc p => Store.put (fun _ => 0) acc p (if p ∈ fresh then 0 else min 255 (Store.get (fun _ => 0) m p + 1))) m

/-- The positions that are counted: not rejected, and not the head's own. -/
def presentPositions (x : Layout) : List Nat := (x.entries.filter fun e => !e.verRej && decide (e.pos ≠ 0)).map fun e => e.pos

/-- The counts of a cycle, and what they lead to: silent again fresh, missing, newly silent. -/
def presence (s : State) (n : Nat) (x : Layout) (fresh : List Nat) : State :=
  let ps := presentPositions x
  let s := s.updHead n fun h => { h with absent := countAbsent fresh ps h.absent, silent := h.silent.filter fun p => p ∉ fresh }
  let h := (s.ring n).head
  let gone := ps.filter fun p => decide (4 ≤ Store.get (fun _ => 0) h.absent p)
  let s := if h.wrapNews ∧ gone ≠ [] then
      let s := gone.foldl (fun s p => if Store.get (fun _ => 0) h.absent p = 4 ∨ p ∈ h.silent then lifeEvt s n (RING_LIFE_EVT_NODE_MISSING n) p else s) s
      (s.setF (RING_WRAP_MISSING_FIRST n) (gone.foldl min 255)).updHead n fun h => { h with cause := 3 }
    else
      let new := gone.filter fun p => p ∉ h.silent
      let s := new.foldl (fun s p => lifeEvt s n (RING_LIFE_EVT_NODE_SILENT n) p) s
      s.updHead n fun h => { h with silent := h.silent ++ new }
  s.setF (RING_WRAP_SILENT_CNT n) (s.ring n).head.silent.length

/-! ### Safe mastership (R212, R213) -/

/-- A position's status block in the returned frame: MREQ and WITHDRAW when its up-slice was fresh; a VOID slice reads as MREQ = 0. -/
def readStatus (x : Layout) (f : RunFrame) (pos : Nat) : Option (Bool × Bool) :=
  match f.slices.find? fun b => b.up && b.pos = pos with
  | some b =>
    if b.crcOk ∧ upFresh b 256 f.crown.cycle ∧ b.topo = x.topo then
      some (if b.void then (false, false) else (natBit (bytesAt b.payload 1 1) 0, natBit (bytesAt b.payload 1 1) 1))
    else none
  | none => none

/-- The head's own status is its own to read (R212). -/
def statusAt (s : State) (x : Layout) (f : Option RunFrame) (pos : Nat) : Option (Bool × Bool) :=
  if pos = 0 then some (s.fb PAIR_STATUS_MREQ, s.mode = .withdrawn) else f.bind fun f => readStatus x f pos

/-- The claim priority a position gave in the roll. -/
def prioAt (h : HeadSt) (pos : Nat) : Nat := match h.roll[pos]? with | some r => r.prio | none => 255

/-- The best candidate: lowest priority, then lowest unique ID. -/
def bestMaster (h : HeadSt) (cs : List LayEntry) : Option LayEntry :=
  cs.foldl (fun b e => match b with
    | none => some e
    | some d => if prioAt h e.pos < prioAt h d.pos ∨ (prioAt h e.pos = prioAt h d.pos ∧ e.uid < d.uid) then some e else b) none

/-- MASTERSHIP_CHANGE at a return: release, or grant once a crown without holder has come back. A return of which nothing is accepted (`none`)
shows no status but the head's own (R161). -/
def mastership (s : State) (n : Nat) (x : Layout) (f : Option RunFrame) : State :=
  let h := (s.ring n).head
  let wants := x.entries.filter fun e => e.isModule && (match statusAt s x f e.pos with | some (m, _) => m | none => false)
  -- a position whose status was not fresh at this return keeps what its last one read
  let kept := h.mreq.filter fun p => (statusAt s x f p).isNone
  let s := s.updHead n fun h => { h with mreq := kept ++ wants.map fun e => e.pos }
  if h.smId ≠ 0 then
    let st := statusAt s x f h.smPos
    let k := if st.isSome then 0 else h.notFresh + 1
    let gone := h.wrapNews && decide (4 ≤ Store.get (fun _ => 0) h.absent h.smPos)
    let rel := (match st with | some (m, w) => !m || w | none => false) || decide (8 ≤ k) || gone
    s.updHead n fun h => if rel then { h with smId := 0, smPos := 255, notFresh := 0 } else { h with notFresh := k }
  else if f.any fun f => !f.crown.smHeld then
    match bestMaster h wants with
    | some e => s.updHead n fun h => { h with smId := e.uid, smPos := e.pos, notFresh := 0 }
    | none => s
  else s

/-! ### Returns -/

/-- JOINs of the returned frame, and MERGEs of its windows (R192, R207): unique ID and kind. -/
def joinsOf (f : RunFrame) : List Nat :=
  f.joins.filterMap fun j => match j with
    | some m => if m.crcOk ∧ m.mtype = 2 ∧ bytesAt m.body 6 1 = 1 then some (bytesAt m.body 0 6) else none
    | none => none

def hasMerge (f : RunFrame) : Bool :=
  (f.windows.filter fun w => isFresh w.pos 256 w.fresh w.prior).any fun w =>
    w.msgs.any fun m => m.crcOk && m.mtype = 2 && bytesAt m.body 6 1 = 2

/-- One JOIN: a known node is owed an ENTRY layout; an unknown one causes an inauguration. -/
def headJoin (n : Nat) (x : Layout) (s : State) (uid : Nat) : State :=
  match x.entries.find? fun e => e.uid = uid with
  | some e =>
    let s := s.updHead n fun h => { h with entryFor := if uid ∈ h.entryFor then h.entryFor else h.entryFor ++ [uid] }
    lifeEvt s n (RING_LIFE_EVT_REJOIN n) e.pos
  | none => s.updHead n fun h => { h with cause := if h.cause = 0 then 2 else h.cause }

/-- A RUN frame comes back good: it is read at r = 256, and built into the next launch. -/
def runReturn (s : State) (n : Nat) (x : Layout) (f : RunFrame) (i : RetIn) : State :=
  let s := s.updHead n fun h => { h with returned := some f, late := 0, wrapNews := h.wrapNews || decide (1000 < absDiff i.loop h.loop) }
  let s := (s.setF (RING_CYCLE_CYCLE n) f.crown.cycle).updRing n fun r => { r with lastCycle := some f.crown.cycle }
  let s := readCycle s n 256 f.crown.cycle x f
  let badJoins := (f.joins.filter fun j => match j with | some m => !m.crcOk | none => false).length
  let s := s.incF (RING_ERR_BRIM_CRC n) badJoins
  let s := presence s n x ((f.windows.filter fun w => w.fresh && !w.prior).map fun w => w.pos)
  let s := mastership ((joinsOf f).foldl (headJoin n x) s) n x (some f)
  if hasMerge f then
    (lifeEvt s n (RING_LIFE_EVT_MERGE n) 0).updRing n fun r => { r with mergeHold := true, head := { r.head with stop := true } }
  else s

/-- The ROLL frame is whole: every record's MCRC good, no unique ID twice (R201). -/
def rollGood (recs : List RollRec) : Bool :=
  recs ≠ [] && recs.all (fun r => r.crcOk) && decide ((recs.map fun r => r.uid).Nodup)

/-- Positions whose ACK did not come back or was not armed are SILENT (R201). -/
def markSilent (x : Layout) (acks : List (Nat × Nat × Bool)) : Layout :=
  { x with entries := x.entries.map fun e =>
    { e with silent := !e.verRej && decide (e.pos ≠ 0) && !acks.any fun a => a.1 = e.pos && a.2.2 } }

/-- An INAUG frame comes back: what the phase gathers. -/
def inaugReturn (s : State) (n : Nat) (f : InaugFrame) (i : RetIn) : State :=
  let ph := s.fv (RING_INAUG_PHASE n)
  match f with
  | .roll _ recs =>
    if ph = 1 then s.updHead n fun h => { h with
      phaseOk := rollGood recs, roll := recs, loop := i.loop, ePos := ePosOf recs,
      tR := if usable s n .east && usable s n .west then i.tR else i.loop }
    else s
  | .layout _ m => if ph = 2 then s.updHead n fun h => { h with phaseOk := m.crcOk } else s
  | .measure _ ds => if ph = 3 then s.updHead n fun h => { h with phaseOk := true, measured := ds } else s
  | .ack _ _ acks => if ph = 4 then s.updHead n fun h => { h with phaseOk := true, layout := h.layout.map fun x => markSilent x acks } else s
  | .echo _ => s

def RingFrame.crown : RingFrame → Crown
  | .run f => f.crown | .claim f => f.crown | .inaug f => f.head.crown

/-- A RUN return of which nothing is accepted: no window and no up-slice is fresh in that cycle (R161, R205, R212). -/
def unreadReturn (s : State) (n : Nat) : State :=
  match (s.ring n).layout with
  | some x => if ringState s n = 3 then s
    else mastership (if (s.ring n).head.overBudget then s else presence s n x []) n x none
  | none => s

/-- EB of a crown that came back stands in the next launch as EB_PRIOR (R165). -/
def keepEb (s : State) (n : Nat) (c : Crown) : State := s.updHead n fun h => { h with ebBack := h.ebBack ||| c.eb }

/-- The launched frame is back, complete. -/
def returnOf (s : State) (n : Nat) (f : RingFrame) (i : RetIn) : State :=
  let s := s.updHead n fun h => { h with arrived := true, late := 0 }
  if ¬ (RingFrame.crown f).crcOk then unreadReturn (badCrown s n) n
  else match f with
    | .run f => match (s.ring n).layout with
      | some x => if ringState s n ≠ 3 then runReturn s n x f i else s
      | none => s
    | .inaug f => if ringState s n = 3 ∧ f.head.bodyOk then inaugReturn s n f i else s
    | .claim _ => s

/-- FRAME_RETURN (R187): the head ends the frame, and reads EB in it. One that does not come back complete, and one of an earlier launch, is
not the frame awaited for the next launch (R165, R206). -/
def execFrameReturn (n : BitVec 3) (f : RingFrame) (i : RetIn) (s : State) : Host.Outcome State Fault Refusal :=
  .next (
    let n := n.toNat
    if ¬ (isHead s n ∧ (ringState s n = 3 ∨ ringState s n = 4 ∨ ringState s n = 5)) then s
    else
      let c := RingFrame.crown f
      let s := noteFrame s n (receivePort s n) c.crcOk false
      let s := bandSuppress (keepEb (readEb s n (min 499999 i.loop) c) n c) n i.suppressed
      if ¬ i.complete ∨ (c.crcOk ∧ c.cycle ≠ (s.ring n).head.cycle) then s else returnOf s n f i)

/-- INAUG_BACKOFF_END (R201): 8 silent cycles after the third failure; a claim follows. -/
def execInaugBackoffEnd (n : BitVec 3) (s : State) : Host.Outcome State Fault Refusal :=
  .next (match (s.ring n.toNat).head.backoff with
    | some k => if isHead s n.toNat ∧ 8 ≤ k then enterListen s n.toNat else s
    | none => s)

/-- OVER_BUDGET_RETRY (R201): once every 2,000 cycles. The rule names no CAUSE for it; RING_INAUG repeats the last one (log entry 29,
DEDUCED). -/
def execOverBudgetRetry (n : BitVec 3) (s : State) : Host.Outcome State Fault Refusal :=
  .next (
    let n := n.toNat
    let h := (s.ring n).head
    if isHead s n ∧ h.overBudget ∧ 2000 ≤ h.obRun then
      s.updHead n fun h => { h with cause := if h.cause = 0 then s.fv (RING_INAUG_CAUSE n) else h.cause, obRun := 0 }
    else s)

/-! ### The tick strobe -/

/-- The counts of a cycle (R186, R432): ports, crowns, frames, the partner's slice, foreign frames, suppressions. -/
def ringCounts (s : State) (n : Nat) : State :=
  let far := fun (x : Nat × Bool) => (if x.2 then x.1 else 0, false)
  let run := fun (r : RingSt) (p : Port) => if usable s n p then at2 r.usableRun p + 1 else 0
  let quiet := fun (r : RingSt) (p : Port) => if at2 r.goodOn p then 0 else at2 r.quietRun p + 1
  let s := s.updRing n fun r => { r with
    out := [], usableRun := (run r .east, run r .west), quietRun := (quiet r .east, quiet r .west),
    goodOn := (false, false), noCrown := if r.sawCrown then 0 else r.noCrown + 1, crownAge := if r.sawCrown then 0 else min 255 (r.crownAge + 1),
    noFrame := if r.sawFrame then 0 else r.noFrame + 1, noRun := if r.sawRun then 0 else r.noRun + 1, sawRun := false, sawCrown := false, sawFrame := false,
    peerStale := if r.peerSeen then 0 else min 255 (r.peerStale + 1), peerSeen := false,
    dirBad := if r.dirSeen then r.dirBad else 0, dirSeen := false, foreign := (far r.foreign.1, far r.foreign.2), suppr := (0 :: r.suppr).take 16, claimBack := (false, false) }
  s.setF (BAND_STATUS_SUPPR_16 n) (min 15 (s.ring n).suppr.sum)

/-- A launch strobe of a running head: LATE when the frame is not back (R165, R206), a pending cause, or the next RUN frame. LATE is not set at
the first RUN launch after an inauguration, where no RUN frame is awaited (log entry 29, DEDUCED). -/
def runStrobe (s : State) (n : Nat) (early : Int) : State :=
  match (s.ring n).layout with
  | none => enterListen s n
  | some x =>
    let h := (s.ring n).head
    let s := if h.launched ∧ ¬ h.arrived then
        let s := ringEvt s n (RING_EVT_LATE n)
        let s := s.updHead n fun h => { h with
          late := h.late + 1, cause := if 4 ≤ h.late + 1 ∧ ¬ h.overBudget then 3 else h.cause }
        if h.overBudget then s else presence s n x []
      else s
    let s := s.updHead n fun h => { h with obRun := h.obRun + 1 }
    let c := (s.ring n).head.cause
    if c ≠ 0 then startInaug s n c else launchRun s n x early

/-- A CLAIM of the module (R193). -/
def ownClaim (s : State) (n : Nat) : ClaimFrame :=
  let r := s.ring n
  { crown := mkCrown s n (lastTopo r) 0 0 192 0 r.claimEb false noMaster, bodyOk := true, prio := s.fv (RING_CTRL_PRIO n), vmin := 1,
    vmax := 1, isModule := true, id := ownId, round := r.claimRound + 1 }

/-- CLAIM_LAUNCH on every usable port, rounds 1 to 8 (R194). A band that is shut lets no claim out (R179, R198). -/
def claimStrobe (s : State) (n : Nat) : State :=
  if (s.ring n).claimRound < 8 then
    let f := ownClaim s n
    let out := if bandShut s n then [] else (bothPorts.filter (usable s n)).map fun p => (p, RingFrame.claim f)
    (sendOut s n out).updRing n fun r => { r with claimRound := r.claimRound + 1, claimSent := some f }
  else s.updRing n fun r => { r with claimSent := none }

/-- One ring at a tick strobe. A ring that is OFF sends nothing, a head in LISTEN_ONLY launches nothing (R188). -/
def ringTick (early : Int) (s : State) (n : Nat) : State :=
  let s := lockCycle (ringCounts s n) n
  let st := ringState s n
  if st = 2 then claimStrobe s n
  else if isHead s n then
    if (s.ring n).head.stop then enterListen s n
    else if st = 3 then inaugStep s n early
    else if st = 4 ∨ st = 5 then runStrobe s n early
    else s
  else s

/-- Every ring; the first crown after a step of the timebase carries it (R161). `early`: the launch against the bands' predictions, in ns on
the guardian clock (R178). -/
def ringsTick (early : Int) (s : State) : State :=
  let heads := ringList.any fun n => isHead s n
  let s := ringList.foldl (ringTick early) s
  if heads then { s with time := { s.time with stepped := false } } else s

end Sys2Proof.Machine
end

