-- ==== Sys2Proof/Machine/Pair.lean ====
section
/-!
DEFINITION. Module pairs: links and heartbeats (R296, R297), roles (R298 to R300), tinning (R301 to R305), readiness and takeover
(R306 to R311), health reports (R313, R314).

Readings and choices: log entry 30 (DESIGN CHOICE).
-/

namespace Sys2Proof.Machine

/-! ### Configured rings -/

def pairRings (s : State) : List Nat := ringList.filter fun n => natBit (s.fv PAIR_CFG_RINGS) n

/-- More than half of the rings; of an even number exactly half counts when ring 0 is among them (R307). -/
def majority (all sub : List Nat) : Bool :=
  decide (all.length < 2 * sub.length) || (all.length = 2 * sub.length && decide (0 < sub.length) && decide (0 ∈ sub))

/-- The partner's up-slice has not been fresh for `k` cycles on a majority of the configured rings. -/
def peerStaleMaj (s : State) (k : Nat) : Bool :=
  majority (pairRings s) ((pairRings s).filter fun n => decide (k ≤ (s.ring n).peerStale))

/-- It has been fresh within the last `k` cycles on a majority. -/
def peerFreshMaj (s : State) (k : Nat) : Bool :=
  majority (pairRings s) ((pairRings s).filter fun n => decide ((s.ring n).peerStale < k))

/-- What the partner's mode as last known is: from its heartbeats, or while it is silent from its status block on a majority of the rings
(R298). A mode nothing has told is not known. -/
def peerModeIs (s : State) (p : Nat → Bool) : Bool :=
  if s.fb PAIR_STATUS_SILENT then
    majority (pairRings s) ((pairRings s).filter fun n => decide ((s.ring n).peerStale < 8) && (match (s.ring n).peerBlock with
      | some (m, _) => p m
      | none => false))
  else s.pair.last.isSome && p (s.fv PAIR_STATUS_PEER_MODE)

def peerActive (s : State) : Bool := peerModeIs s fun m => m = Mode.active.code

def peerNotActive (s : State) : Bool := peerModeIs s fun m => m ≠ Mode.active.code

/-- Neither STANDBY nor ACTIVE. -/
def peerAway (s : State) : Bool := peerModeIs s fun m => m ≠ Mode.standby.code && m ≠ Mode.active.code

/-! ### Bytes (R297, R302, R303) -/

def recBody (r : TinRec) : List Byte :=
  beBytes 4 (r.obj * 32768 + b2n r.sweep * 16384) ++ r.v.flatMap (beBytes 4) ++ beBytes 4 r.rseq ++ beBytes 6 r.e ++ List.replicate 14 0

def recBytes (r : TinRec) : List Byte := recBody r ++ beBytes 4 (crc32c (recBody r))

/-- SCRC: over all records in RSEQ order. -/
def streamCrc (rs : List TinRec) : Nat := crc32c (rs.flatMap recBytes)

/-- Bytes 0 to 595 of a marker with MFLAGS[4:3] taken as 0: what its codes cover. -/
def markerString (m : Marker) : List Byte :=
  [0x03] ++ beBytes 1 (bitsOf [m.resync, m.sweepDone, m.handover]) ++ beBytes 2 m.schema ++ beBytes 6 m.e ++ [0, 0] ++ beBytes 4 m.rcount ++
  beBytes 4 m.scrc ++ beBytes 32 m.digest.toNat ++ beBytes 32 m.sum.toNat ++ beBytes 512 m.locked.toNat

/-! ### Readiness and role (R299, R306, R311) -/

/-- 0 COLD, 1 SYNCING, 2 READY, 3 not a standby: a change raises source 75 and is recorded. -/
def setReadiness (s : State) (r : Nat) : State :=
  if s.fv PAIR_STATUS_READINESS = r then s
  else ((s.setF PAIR_STATUS_READINESS r).raiseAll 75).record 0x09 0x03 0 []

/-- A standby's readiness falls to COLD. -/
def toCold (s : State) : State :=
  let r := s.fv PAIR_STATUS_READINESS
  if r = 1 ∨ r = 2 then setReadiness s 0 else s

/-- MREQ set or cleared; one cleared does not count as set before the tick 0 strobe (R299). -/
def setMreq (s : State) (b : Bool) : State := (s.setB PAIR_STATUS_MREQ b).updPair fun p => { p with mreqOld := b && p.mreqOld }

/-- A change of role: source 72 and its record. -/
def roleChange (s : State) : State := (s.raiseAll 72).record 0x09 0x01 0 []

/-- ACTIVE to STANDBY at a tick 0 (R20): readiness COLD. -/
def enterStandby (s : State) : State :=
  if s.mode ≠ .active then s
  else
    let s := setMreq ({ s with mode := .standby }.setF PAIR_STATUS_ACTIVE 0) false
    let s := if paired s then roleChange (setReadiness s 0) else s
    s.updPair fun p => { p with switchSt := 0, giveUp := false, handover := false, decided := none, resync := 0, marker := none, stream := [] }

/-! ### Takeover conditions (R307, R308) -/

/-- Which of the conditions of R307 holds: 0 none, 1 WITHDRAW, 2 silence, 3 switchover. -/
def takeCondition (s : State) : Nat :=
  let p := s.pair
  if p.withdraw then 1
  else if s.fb PAIR_STATUS_SILENT ∧ peerStaleMaj s 8 then 2
  else if p.handover then 3
  else 0

/-- The conditions are read: when they first hold a READY standby takes copied state, another takes over cold or refuses (R308). -/
def takeEval (s : State) : State :=
  if ¬ (paired s ∧ s.mode = .standby) then s
  else
    let k := takeCondition s
    let was := s.fb PAIR_STATUS_TAKE_COND
    let s := s.setB PAIR_STATUS_TAKE_COND (k ≠ 0)
    if k = 0 then
      (s.setF PAIR_STATUS_TAKE_REFUSED 0).updPair fun p => { p with decided := if s.fb PAIR_STATUS_MREQ then p.decided else none }
    else if was then s
    else if s.fv PAIR_STATUS_READINESS = 2 then s.updPair fun p => { p with decided := some false, takeCause := k, coldWait := 0 }
    else if s.fb PAIR_CFG_COLD_TAKE then
      s.updPair fun p => { p with decided := some true, takeCause := k, coldWait := 2, coldStart := p.coldStart || s.fb PAIR_STATUS_MREQ }
    else s.setF PAIR_STATUS_TAKE_REFUSED 1

/-- R298: a standby whose output start conditions hold sets MREQ. -/
def mreqEval (s : State) : State :=
  let p := s.pair
  if ¬ (paired s ∧ s.mode = .standby ∧ s.sec.startOk ∧ ¬ s.fb PAIR_STATUS_MREQ) then s
  else
    match p.decided with
    | some cold => (setMreq s true).updPair fun p => { p with coldStart := cold }
    | none =>
      if peerNotActive s ∧ ¬ s.fb PAIR_STATUS_TAKE_COND ∧ ¬ s.fb PAIR_STATUS_RANK_CLASH ∧ (s.fv PAIR_CFG_RANK = 0 ∨ 4 ≤ p.modeRun) then
        setMreq s true
      else s

def pairEval (s : State) : State := mreqEval (takeEval s)

/-! ### Heartbeats received (R297) -/

/-- A heartbeat of the partner: good CRC, its ID. -/
def hbOfPeer (s : State) (h : Heartbeat) : Bool := h.crcOk && h.id = peerId s

/-- Valid: E within 1 of the own. -/
def hbValid (s : State) (h : Heartbeat) : Bool := hbOfPeer s h && decide (absDiff h.e s.time.epoch ≤ 1)

/-- The second copy of a heartbeat already received (R296). -/
def hbCopy (s : State) (h : Heartbeat) : Bool := s.pair.echo = some h.t

/-- The link delay, shown in PAIR_LINK_DLY. -/
def linkDelay (now : Nat) (h : Heartbeat) : Int := ((now : Int) - h.tEcho - h.echoAge) / 2

/-- PAIR_LINK_LOST begins, or ends (R306, R312). -/
def linkLost (s : State) (b : Bool) : State :=
  if s.fb PAIR_STATUS_LINK_LOST = b then s
  else if b then (s.setF PAIR_STATUS_LINK_LOST 1).record 0x09 0x04 0 []
  else s.setF PAIR_STATUS_LINK_LOST 0

/-- The partner is heard: silence ends. -/
def peerHeard (s : State) : State :=
  let s := linkLost s false
  if s.fb PAIR_STATUS_SILENT then (s.setF PAIR_STATUS_SILENT 0).raiseAll 74 else s

/-- A resynchronisation begins in the next epoch (R304). -/
def startResync (s : State) : State :=
  if s.mode = .active ∧ paired s ∧ s.pair.resync = 0 then
    ((s.incF PAIR_CNT_RESYNC).raiseAll 76).updPair fun p => { p with resync := 1 }
  else s

/-- R306: an epoch that the standby has not committed, when the active partner is already in the next one. -/
def missedEpoch (s : State) (h : Heartbeat) : Bool :=
  h.mode = Mode.active.code && !h.withdraw && decide (committedE s + 1 < h.e)

/-- The partner's time from any heartbeat of its own, `now` the T at receipt: the offset that a standby aligns by, however far its E lies off
(R41, R44), and the echo for the next heartbeat sent. -/
def hearTime (s : State) (h : Heartbeat) (now : Nat) : State :=
  let s := if h.tEcho = 0 then s
    else
      let d := linkDelay now h
      (s.setF PAIR_LINK_DLY_DLY d.toNat).setOffset 3 (some ((h.t : Int) + d - now))
  s.updPair fun p => { p with echo := some h.t, lastAt := now }

/-- What a valid heartbeat tells of the partner. -/
def hearPeer (s : State) (h : Heartbeat) : State :=
  let s := peerHeard (s.setF PAIR_STATUS_PEER_MODE h.mode)
  let s := s.setB PAIR_STATUS_RANK_CLASH (h.rank = s.fv PAIR_CFG_RANK)
  let s := s.updPair fun p => { p with hbAge := 0, last := some h, withdraw := h.withdraw }
  let s := if s.mode = .standby ∧ missedEpoch s h then toCold s else s
  let s := if h.readiness = 0 ∧ h.mode = Mode.standby.code then startResync s else s
  pairEval s

/-- PAIR_HEARTBEAT on one link, `sinceStrobe` ns after the latest strobe. -/
def pairHeartbeat (s : State) (h : Heartbeat) (sinceStrobe : Nat) : State :=
  if ¬ paired s then s
  else if ¬ h.crcOk then s.incF PAIR_CNT_FRAME_CRC
  else if ¬ hbOfPeer s h ∨ hbCopy s h then s
  else
    let t := hearTime s h (s.time.t + sinceStrobe)
    if hbValid s h then hearPeer t h else t

def execPairHeartbeat (_link : Bool) (h : Heartbeat) (sinceStrobe : Nat) (s : State) : Host.Outcome State Fault Refusal :=
  .next (pairHeartbeat s h sinceStrobe)

/-- PAIR_SILENCE: 4 strobes without a valid heartbeat; with fresh up-slices it is PAIR_LINK_LOST (R306). -/
def pairSilence (s : State) : State :=
  if ¬ (paired s ∧ 4 ≤ s.pair.hbAge ∧ ¬ s.fb PAIR_STATUS_SILENT) then s
  else
    let s := (s.setF PAIR_STATUS_SILENT 1).raiseAll 74
    let s := if peerFreshMaj s 2 then
        let s := linkLost s true
        if s.mode = .standby then toCold s else s
      else s
    pairEval s

def execPairSilence (s : State) : Host.Outcome State Fault Refusal := .next (pairSilence s)

/-- PAIR_LINK_CHANGE (R296): the link's lines, as R158. -/
def execPairLinkChange (link1 : Bool) (lines : BitVec 6) (s : State) : Host.Outcome State Fault Refusal :=
  .next (
    let f := if link1 then PAIR_STATUS_LINK1 else PAIR_STATUS_LINK0
    let up := linkLines lines
    if s.fb f = up then s else (s.setB f up).raiseAll 78)

/-! ### Tinning at the active (R301 to R304) -/

/-- The tinning lane: the first VOTING lane. -/
def tinningLane (s : State) : Option Lane := s.voting.head?

/-- v of the eight fields of an object. -/
def objValues (s : State) (l : Lane) (i : Nat) : List Nat := (List.range 8).map fun f => wordV (omemWord s l i f)

/-- Objects of `a .. b - 1` that are not FREE and not among the dirty ones. -/
def sweepObjects (s : State) (l : Lane) (dirty : List Nat) (a b : Nat) : List Nat :=
  ((List.range (b - a)).map fun k => a + k).filter fun i => objType s l i ≠ 0 && decide (i ∉ dirty)

/-- Take at most `room` objects from the pointer on, passing over those that are FREE or dirty: those taken, and where the pointer stands then. -/
def sweepFrom (s : State) (l : Lane) (dirty : List Nat) : Nat → Nat → Nat → List Nat × Nat
  | 0, _, p => ([], p)
  | k + 1, room, p =>
    if 131072 ≤ p then ([], p)
    else if objType s l p ≠ 0 ∧ p ∉ dirty then
      if room = 0 then ([], p)
      else
        let x := sweepFrom s l dirty k (room - 1) (p + 1)
        (p :: x.1, x.2)
    else sweepFrom s l dirty k room (p + 1)

/-- The records of a stream, numbered from 0. -/
def mkStream (s : State) (l : Lane) (e : Nat) (dirty swept : List Nat) : List TinRec :=
  let mk := fun (k : Nat) (i : Nat) (sw : Bool) => (⟨true, i, sw, objValues s l i, k, e⟩ : TinRec)
  let xs := dirty.map (fun i => (i, false)) ++ swept.map fun i => (i, true)
  (List.range xs.length).map fun k => mk k (xs.getD k (0, false)).1 (xs.getD k (0, false)).2

/-- What a marker carries of a lane. -/
def markerBody (s : State) (l : Lane) : Option (BitVec 256) × BitVec 256 × BitVec 4096 :=
  ((s.lane l).vote.digest, (s.lane l).osum, (s.lane l).locked)

/-- The pair whose two VOTING lanes supply identical bodies, placed as R68 places codes. -/
def markerPair (s : State) (e : Nat) : Nat :=
  ((rotationPair e :: [1, 2, 3]).find? fun p => match pairLanes p with
    | some (l, m) => (s.lane l).st = .voting && (s.lane m).st = .voting && (markerBody s l = markerBody s m)
    | none => false).getD 0

/-- The epoch's marker with both codes. -/
def mkMarker (s : State) (e : Nat) (rs : List TinRec) (resync done handover : Bool) : Option Marker :=
  let p := markerPair s e
  match pairLanes p with
  | some (l, m) =>
    let b := markerBody s l
    let x : Marker := {
      crcOk := true, resync := resync, sweepDone := done, handover := handover, pair := p, schema := s.sec.img.schema, e := e,
      rcount := rs.length, scrc := streamCrc rs, digest := b.1.getD 0, sum := b.2.1, locked := b.2.2, code1 := [], code2 := [] }
    some { x with code1 := s.makeCode l (slotPair l.num) (markerString x), code2 := s.makeCode m (slotPair m.num) (markerString x) }
  | none => none

/-- Blocks of up to 16 records. -/
def blocksOf : Nat → List TinRec → List PairFrame
  | 0, _ => []
  | k + 1, rs => if rs = [] then [] else .block (rs.take 16) :: blocksOf k (rs.drop 16)

/-- Each lane copies its map into the stream list and clears it. -/
def clearTinMaps (s : State) : State := s.forLanes fun s l => s.updLane l fun x => { x with tinDirty := [] }

/-- TINNING_STREAM at the tick 17 strobe: the records of the epoch, and the marker that will follow them. -/
def tinningTick17 (s : State) : State :=
  let p0 := s.updPair fun p => { p with tinLane := none, stream := [], marker := none }
  match (if paired s ∧ s.mode = .active then tinningLane s else none) with
  | none => clearTinMaps p0
  | some l =>
    let e := s.time.epoch
    let dirty := (s.lane l).tinDirty.mergeSort (· ≤ ·)
    if 16384 < dirty.length then
      let s := clearTinMaps p0
      let s := if s.pair.resync = 0 then startResync s else s.updPair fun p => { p with resync := 1 }
      s.setF PAIR_TIN_RECORDS 0
    else
      let running : Bool := s.pair.resync = 2
      let ptr := s.fv PAIR_TIN_SWEEP_PTR
      let sw := if running then sweepFrom s l dirty 131072 (18432 - dirty.length) ptr
        else (sweepObjects s l dirty (e % 64 * 2048) (e % 64 * 2048 + 2048), ptr)
      let done : Bool := running && decide (131072 ≤ sw.2)
      let rs := mkStream s l e dirty sw.1
      let m := mkMarker s e rs running done (s.pair.switchSt = 2)
      let s := clearTinMaps p0
      let s := (s.setF PAIR_TIN_RECORDS rs.length).setF PAIR_TIN_SWEEP_PTR (min 131071 sw.2)
      s.updPair fun p => { p with tinLane := some l, stream := rs, marker := m }

/-- TIN_MARKER_SEND: in tick 19 FX sends the marker of the epoch (R30, R301), while the tinning lane and both lanes of its pair are still VOTING. -/
def tinMarkerSend (s : State) : State :=
  match s.pair.marker, s.pair.tinLane with
  | some m, some l =>
    let pairOk : Bool := match pairLanes m.pair with
      | some (l1, l2) => (s.lane l1).st = .voting && (s.lane l2).st = .voting
      | none => false
    if s.time.tick = 19 ∧ s.mode = .active ∧ (s.lane l).st = .voting ∧ pairOk then
      let s := (s.setF PAIR_COMMITTED_LO_E_LO (m.e % 2 ^ 32)).setF PAIR_COMMITTED_HI_E_HI (m.e / 2 ^ 32)
      let s := s.updPair fun p => { p with marker := none, sent := p.sent ++ [.marker m], resync := if m.sweepDone then 0 else p.resync }
      if m.sweepDone then s.raiseAll 76 else s
    else s
  | _, _ => s

def execTinMarkerSend (s : State) : Host.Outcome State Fault Refusal := .next (tinMarkerSend s)

/-- PAIR_RESYNC, PAIR_CMD.RESYNC (R304): the active starts a full resynchronisation. -/
def pairResync (s : State) : State :=
  if s.pair.resync = 2 then (s.incF PAIR_CNT_RESYNC).updPair fun p => { p with resync := 1 } else startResync s

def execPairResync (s : State) : Host.Outcome State Fault Refusal := .next (pairResync s)

/-! ### Commit at the standby (R305, R306) -/

/-- A record enters a bank at its place in RSEQ order; a second copy is discarded (R296). -/
def insertRec (r : TinRec) : List TinRec → List TinRec
  | [] => [r]
  | b :: t => if r.rseq < b.rseq then r :: b :: t else if r.rseq = b.rseq then b :: t else b :: insertRec r t

/-- TINNING_BLOCK: a block with a bad CRC is counted, in any mode; a standby collects the records. -/
def tinningBlock (s : State) (crcOk : Bool) (rs : List TinRec) : State :=
  if ¬ paired s then s
  else if ¬ crcOk then s.incF PAIR_CNT_FRAME_CRC
  else if s.mode ≠ .standby then s
  else
    let e := match rs with | r :: _ => r.e | [] => 0
    s.updPair fun p => { p with bank := rs.foldl (fun b r => insertRec r b) (p.bank.filter fun b => b.e = e) }

def execTinningBlock (_link crcOk : Bool) (rs : List TinRec) (s : State) : Host.Outcome State Fault Refusal :=
  .next (if 1 ≤ rs.length ∧ rs.length ≤ 16 then tinningBlock s crcOk rs else s)

/-- The conditions of a commit but the schema: in time, own E, all records, SCRC. -/
def bankWhole (s : State) (m : Marker) (since19 : Nat) : Bool :=
  let rs := s.pair.bank.filter fun r => r.e = m.e
  s.time.tick = 19 && decide (since19 ≤ 400000) && m.e = s.time.epoch && rs.length = m.rcount &&
  decide (rs.map (fun r => r.rseq) = List.range m.rcount) && rs.all (fun r => r.crcOk) && streamCrc rs = m.scrc

/-- The schema is the standby's own, or one its image imports (R305, R316). -/
def schemaOk (s : State) (m : Marker) : Bool := m.schema = s.sec.img.schema || decide (m.schema ∈ s.sec.img.imports)

/-- A lane verifies both marker codes itself. -/
def markerOk (s : State) (l : Lane) (m : Marker) : Bool :=
  match pairLanes m.pair with
  | some (l1, l2) => s.verifyCode l (slotPair l1.num) (markerString m) m.code1 && s.verifyCode l (slotPair l2.num) (markerString m) m.code2
  | none => false

/-- One word of a record: coded with the lane's own A and the current D; S follows; the anneal map counts it, the tinning map does not,
and CHG stays (R305). -/
def applyField (l : Lane) (s : State) (i f v : Nat) : State :=
  let t := (s.lane l).tinDirty
  (fieldWrite s l i f (codeWord l v (fieldSig s l i f) (s.dNow l))).updLane l fun x => { x with tinDirty := t }

def applyRec (l : Lane) (s : State) (r : TinRec) : State :=
  (List.range 8).foldl (fun s f => applyField l s r.obj f (r.v.getD f 0)) s

/-- A lane that holds OMEM applies the epoch, when it verifies the codes. -/
def applyLane (m : Marker) (rs : List TinRec) (s : State) (l : Lane) : State :=
  let x := s.lane l
  if (x.st.counted ∨ x.st = .shadow) ∧ markerOk s l m then
    (rs.foldl (applyRec l) s).updLane l fun x => { x with locked := m.locked }
  else s

/-- Lanes whose S differs from the marker's, and lanes whose S equals it. -/
def sumsDiffer (s : State) (m : Marker) : Nat := (s.counted.filter fun l => (s.lane l).osum ≠ m.sum).length

def sumsMatch (s : State) (m : Marker) : Nat := (s.counted.filter fun l => (s.lane l).osum = m.sum).length

/-- Readiness after a commit (R306). -/
def commitReadiness (s : State) (m : Marker) : State :=
  let r := s.fv PAIR_STATUS_READINESS
  let differ := (r = 2 ∨ m.sweepDone) ∧ 2 ≤ sumsDiffer s m
  let done := m.sweepDone ∧ 2 ≤ sumsMatch s m
  if differ then toCold s
  else if r = 0 then
    if m.resync ∧ ¬ done then (setReadiness s 1).raiseAll 76
    else if m.resync then (setReadiness (setReadiness s 1) 2).raiseAll 76
    else s
  else if r = 1 ∧ done then (setReadiness s 2).raiseAll 76
  else s

/-- An epoch that is not committed: the bank is discarded, OMEM is left. -/
def epochFail (s : State) : State :=
  (s.incF PAIR_CNT_COMMIT_FAIL).updPair fun p => { p with bank := [], epochDone := true }

/-- TIN_MARKER at the standby; one with a bad CRC is counted, in any mode. A second copy changes nothing. The heartbeat of the commit leaves
within 10 µs of it, and the commit within 200 µs of the marker (R297, R305). -/
def tinMarker (s : State) (m : Marker) (since19 : Nat) : State :=
  if ¬ paired s then s
  else if ¬ m.crcOk then s.incF PAIR_CNT_FRAME_CRC
  else if s.mode ≠ .standby ∨ s.pair.epochDone then s
  else if ¬ schemaOk s m then epochFail (s.setF PAIR_STATUS_SCHEMA_REJ 1)
  else if ¬ bankWhole s m since19 then epochFail s
  else
    let s := s.setF PAIR_STATUS_SCHEMA_REJ 0
    let rs := s.pair.bank.filter fun r => r.e = m.e
    let s := s.forLanes (applyLane m rs)
    let s := (s.setF PAIR_COMMITTED_LO_E_LO (m.e % 2 ^ 32)).setF PAIR_COMMITTED_HI_E_HI (m.e / 2 ^ 32)
    let s := commitReadiness s m
    let s := s.updPair fun p => { p with bank := [], epochDone := true, handover := p.handover || m.handover }
    sendHeartbeat (pairEval s) since19 210000

def execTinMarker (_link : Bool) (m : Marker) (since19 : Nat) (s : State) : Host.Outcome State Fault Refusal :=
  .next (tinMarker s m since19)

/-! ### Switchover (R311) -/

/-- PAIR_SWITCH: refused, source 79, unless the partner is READY, or a cold one is permitted at both ends. The partner's COLD_TAKE is
the partner's own. -/
def pairSwitch (s : State) (cold peerColdTake : Bool) : State :=
  let ready : Bool := match s.pair.last with
    | some h => h.readiness = 2
    | none => false
  if ¬ (s.mode = .active ∧ paired s) then s.raiseAll 79
  else if ready ∨ (cold ∧ peerColdTake) then s.updPair fun p => { p with switchSt := if p.switchSt = 0 then 1 else p.switchSt }
  else s.raiseAll 79

def execPairSwitch (cold peerColdTake : Bool) (s : State) : Host.Outcome State Fault Refusal := .next (pairSwitch s cold peerColdTake)

/-! ### Health reports (R314) -/

/-- A bit of PAIR_PEER_FLT. -/
def peerFlt (s : State) (k : Nat) : State :=
  let f : Fld := ⟨PAIR_PEER_FLT, k, k⟩
  if s.fb f then s else ((s.setF f 1).raiseAll 77).record 0x09 0x05 k []

def fltIf (c : Bool) (k : Nat) (s : State) : State := if c then peerFlt s k else s

/-- The seven rotation figures of a report: bytes 5 to 11. -/
def progOf (b : List Byte) : List Nat := (List.range 7).map fun k => bytesAt b (5 + k) 1

/-- Bits 4 and 3 of the ring view: the partner's slice fresh, the ring running. -/
def viewOf (b : List Byte) (n : Nat) : Nat := bytesAt b (24 + 2 * n + 1) 1 / 8 % 4

/-- HEALTH_REPORT: the report is shown; the active judges it, each count by the epochs since the report before (R314). The second copy, of the same
E, is discarded (R296). -/
def healthIn (s : State) (b : List Byte) : State :=
  if ¬ paired s then s
  else if b.length ≠ 64 ∨ bytesAt b 0 1 ≠ 4 ∨ bytesAt b 60 4 ≠ crc32c (b.take 60) then s.incF PAIR_CNT_FRAME_CRC
  else if s.pair.watch.lastE = some (bytesAt b 40 6) then s
  else
    let le := some (bytesAt b 40 6)
    let s := (List.range 16).foldl (fun s k => s.wr (PAIR_PEER_HEALTH k) (BitVec.ofNat 32 (bytesAt b (4 * k) 4))) s
    if s.mode ≠ .active then s.updPair fun p => { p with watch := { p.watch with age := 0, lastE := le } }
    else
      let w := s.pair.watch
      let dt := match w.lastE with
        | some e => max 1 (bytesAt b 40 6 - e)
        | none => 1
      let st := fun (l : Lane) => bytesAt b (2 + l.num) 1
      let down := fun l => if st l = LState.voting.code then 0 else w.down.get l + dt
      let prog := progOf b
      let still := (List.range 7).map fun k => if prog.getD k 0 = w.prog.getD k 256 then w.still.getD k 0 + dt else 0
      let behind := if decide (bytesAt b 12 6 + 1 < s.time.epoch) && s.fv PAIR_STATUS_READINESS = 3 && s.pair.tinLane.isSome then w.behind + 1 else 0
      let view := ringList.map fun n =>
        if n ∈ pairRings s ∧ viewOf b n ≠ viewOf (List.replicate 24 0 ++ ringList.flatMap (ringView s)) n then w.view.getD n 0 + dt else 0
      let nr := if bytesAt b 1 1 = 2 then 0 else w.notReady + dt
      let s := s.updPair fun p => { p with watch :=
        { age := 0, lastE := le, down := ⟨down .a, down .b, down .c⟩, prog := prog, still := still, behind := behind, view := view, notReady := nr } }
      let s := fltIf (allLanes.any fun l => st l = LState.lockedOut.code || decide (100 ≤ down l)) 1 s
      let s := fltIf (still.any fun k => decide (360000 ≤ k)) 2 s
      let s := fltIf (decide (10 ≤ behind)) 3 s
      let s := fltIf (decide (bytesAt b 18 2 < 168) || decide (bytesAt b 20 2 < 168)) 4 s
      let s := fltIf (view.any fun k => decide (100 ≤ k)) 5 s
      fltIf (decide (1000 ≤ nr)) 6 s

def execHealthReport (_link : Bool) (bytes : List Byte) (s : State) : Host.Outcome State Fault Refusal := .next (healthIn s bytes)

/-! ### The strobes -/

/-- Running configured rings, and those whose latest crown names another module. -/
def runningRings (s : State) : List Nat := (pairRings s).filter (ringRunning s)

def namesOther (s : State) (n : Nat) : Bool := (s.ring n).smSeen ≠ ownId && (s.ring n).smSeen ≠ 0

def namesUs (s : State) (n : Nat) : Bool := (s.ring n).smSeen = ownId

/-- Most running configured rings name another module (R299). -/
def ousted (s : State) : Bool := runningRings s ≠ [] && majority (runningRings s) ((runningRings s).filter (namesOther s))

/-- R299: an ACTIVE module ousted for 2 cycles clears MREQ and goes to STANDBY; a standby whose partner took the role clears MREQ and is
COLD (R321). -/
def oustEval (s : State) : State :=
  let k := if ousted s then s.pair.otherRun + 1 else 0
  let s := s.updPair fun p => { p with otherRun := k }
  if k < 2 then s
  else if s.mode = .active then (setMreq s false).updPair fun p => { p with giveUp := true }
  else if s.mode = .standby ∧ s.fb PAIR_STATUS_MREQ ∧ peerActive s then
    (toCold (setMreq s false)).updPair fun p => { p with decided := none, coldStart := false, handover := false }
  else s

/-- PEER_MODE while the partner is silent: the mode its status blocks show on a majority of the rings (R298). -/
def showPeerMode (s : State) : State :=
  match (if s.fb PAIR_STATUS_SILENT then (List.range 8).find? fun m => peerModeIs s fun k => k = m else none) with
  | some m => s.setF PAIR_STATUS_PEER_MODE m
  | none => s

/-- The pair controller at every strobe: counts, the heartbeat, the health report after tick 1 (R297, R313), the tinning blocks in tick 18
(R30). -/
def pairTick (s : State) : State :=
  if ¬ paired s then s
  else
    let s := s.updPair fun p => { p with hbAge := p.hbAge + 1, modeRun := if peerAway s then p.modeRun + 1 else 0 }
    let s := sendHeartbeat (pairEval (oustEval (showPeerMode s))) 0 2000
    if s.time.tick = 1 then s.updPair fun p => { p with sent := p.sent ++ [.health (healthReport s)] }
    else if s.time.tick = 18 ∧ s.mode = .active then
      s.updPair fun p => { p with sent := p.sent ++ blocksOf p.stream.length p.stream }
    else s

/-- ROLE_GRANT at tick 17 (R299): the conditions on the rings. -/
def ringsGrant (s : State) : Bool := runningRings s ≠ [] && (runningRings s).all (namesUs s)

/-- The takeover is counted and shown with its first publication (R308); the bridge starts empty (R254). -/
def noteTakeover (s : State) : State :=
  match s.pair.decided with
  | some cold =>
    let s := ((s.setF PAIR_TAKE_CAUSE s.pair.takeCause).setB PAIR_TAKE_COLD cold).setF PAIR_TAKE_EPOCH (s.time.epoch % 2 ^ 24)
    let s := bridgeTakeover s
    (((s.incF PAIR_CNT_TAKEOVERS).raiseAll 73).recordRegs 0x09 0x02 0 [PAIR_TAKE]).updPair fun p => { p with decided := none, handover := false }
  | none => s

/-- STANDBY to ACTIVE at tick 17 (R20, R22, R299, R363). An unpaired module needs the output start conditions alone. -/
def roleTick17 (s : State) (startOk : Bool) : State :=
  let s := { s with sec := { s.sec with startOk := startOk } }
  let wait := s.pair.coldWait
  let s := if s.pair.decided.isSome then s.updPair fun p => { p with coldWait := p.coldWait - 1 } else s
  if s.mode ≠ .standby ∨ ¬ startOk then s
  else if ¬ paired s then setMreq { s with mode := .active } true
  else if s.fb PAIR_STATUS_MREQ ∧ s.pair.mreqOld ∧ ringsGrant s ∧ wait ≤ 1 then
    let s := { s with mode := .active }.setF PAIR_STATUS_ACTIVE 1
    let s := (noteTakeover (roleChange (setReadiness s 3))).setF PAIR_STATUS_TAKE_COND 0
    s.updPair fun p => { p with withdraw := false, coldStart := false, resync := 0, tinLane := none }
  else s

/-- The switchover at tick 19: the active clears MREQ (R311). -/
def switchTick19 (s : State) : State :=
  if s.mode = .active ∧ s.pair.switchSt = 2 then (setMreq s false).updPair fun p => { p with switchSt := 3 } else s

/-- The switchover at tick 0: carried out when the standby's commit heartbeat came, else cancelled; R299's switchover; the epoch's marks
(R304, R306, R311). -/
def pairTick0 (s : State) : State :=
  let last := s.time.epoch - 1
  let s := if s.mode = .active ∧ s.pair.switchSt = 3 then
      (if (match s.pair.last with | some h => decide (h.committed = last) | none => false) then enterStandby s
       else (setMreq (s.raiseAll 79) true).updPair fun p => { p with switchSt := 0 })
    else if s.pair.giveUp then enterStandby s
    else if s.pair.switchSt = 1 then s.updPair fun p => { p with switchSt := 2 }
    else s
  let s := if s.pair.resync = 1 ∧ s.mode = .active then
      (s.updPair fun p => { p with resync := 2 }).setF PAIR_TIN_SWEEP_PTR 0
    else s
  let r := s.fv PAIR_STATUS_READINESS
  let s := if paired s ∧ s.mode = .standby ∧ (r = 1 ∨ r = 2) ∧ ¬ s.pair.epochDone then s.incF PAIR_CNT_COMMIT_FAIL else s
  let age := s.pair.watch.age + 1
  let s := s.updPair fun p => { p with
    epochDone := false, bank := [], mreqOld := s.fb PAIR_STATUS_MREQ, watch := { p.watch with age := age } }
  if paired s ∧ s.mode = .active ∧ 10 ≤ age then peerFlt s 0 else s

end Sys2Proof.Machine
end

