-- ==== Sys2Proof/Machine/Commit.lean ====
section
/-!
DEFINITION. Shadowed configuration and COMMIT (R6, R8, R358, R359): the snapshot, the cross-field checks of every block (R11, R177,
R219, R224, R242, R260, R282, R283, R294, R371), and its coming into force.

Readings and choices: log entry 33 (DEDUCED).
-/

namespace Sys2Proof.Machine

/-- A failed check: the register, the lowest bit of the field, the REASON. -/
structure Bad where
  addr : Nat
  lsb : Nat
  reason : Nat
  deriving DecidableEq, Repr

/-- A field as a snapshot holds it. -/
def cf (c : Store Word) (f : Fld) : Nat := getBits (Store.get regReset c f.key) f.hi f.lo

def cb (c : Store Word) (f : Fld) : Bool := cf c f ≠ 0

/-- A field is bad for a reason when the condition holds. -/
def badIf (p : Bool) (f : Fld) (reason : Nat) : List Bad := if p then [⟨f.key, f.lo, reason⟩] else []

/-! ### The checks of each block -/

/-- Bands: two confirms equal BAND_TAB_CRC (R177, R359). -/
def bandBads (s : State) : List Bad :=
  ringList.flatMap fun n =>
    badIf (decide ((allLanes.filter fun l => s.rd (fConfirm n l) = s.rd (BAND_TAB_CRC n)).length < 2)) (BAND_TAB_CRC_CRC n) 3

/-- One Hexlo session (R224). -/
def sesBads (c : Store Word) (n : Nat) : List Bad :=
  if ¬ cb c (HXL_SCFG0_EN n) then []
  else
    badIf (decide (19 < cf c (HXL_SCFG0_WIN_M1 n))) (HXL_SCFG0_WIN_M1 n) 1 ++
    badIf (cf c (HXL_SCFG0_FRESH_M1 n) = 255) (HXL_SCFG0_FRESH_M1 n) 1 ++
    badIf (decide (cf c (HXL_SCFG1_IFV_HI n) < cf c (HXL_SCFG1_IFV_LO n))) (HXL_SCFG1_IFV_HI n) 2 ++
    badIf (cb c (HXL_SCFG0_TOPO_USE n) && !cb c (RING_CTRL_EN (cf c (HXL_SCFG0_TOPO_RING n)))) (HXL_SCFG0_TOPO_RING n) 2 ++
    badIf (cf c (HXL_SLOCAL_ID_LOCAL_ID n) = cf c (HXL_SPEER_ID_PEER_ID n)) (HXL_SLOCAL_ID_LOCAL_ID n) 2 ++
    badIf (cb c (HXL_SCFG0_TX_EN n) && !cb c (HXL_SPEER_IP_A_PEER_IP_A n) && !cb c (HXL_SPEER_IP_B_PEER_IP_B n)) (HXL_SPEER_IP_A_PEER_IP_A n) 2

/-- One Ethernet port: MODE, and in an enabled port PREFIX and VID. -/
def ethBads (c : Store Word) (p : Nat) : List Bad :=
  badIf (cf c (ETH_CTRL_MODE p) = 3) (ETH_CTRL_MODE p) 5 ++
  badIf (cb c (ETH_CTRL_EN p) && (decide (cf c (ETH_PREFIX_PREFIX p) < 8) || decide (30 < cf c (ETH_PREFIX_PREFIX p)))) (ETH_PREFIX_PREFIX p) 1 ++
  badIf (cb c (ETH_VLAN_EN p) && (cf c (ETH_VLAN_VID p) = 0 || cf c (ETH_VLAN_VID p) = 4095)) (ETH_VLAN_VID p) 1

/-- A bit range of a word of a routing table entry. -/
def rw (k w hi lo : Nat) : Fld := ⟨BRG_ROUTE k w, hi, lo⟩

/-- A ring egress whose identifiers meet a read-sensitive range of its target (R260). -/
def readSensitive (c : Store Word) (k : Nat) : Bool :=
  let n := cf c (rw k 0 26 23)
  let pos := cf c (rw k 2 31 24)
  let w := 2 ^ cf c (rw k 3 4 0)
  let lo := cf c (rw k 2 23 0) / w * w
  let hi := lo + w - 1
  [0, 2].any fun j => decide (lo ≤ cf c (BRG_TGT_W n pos (j + 1))) && decide (cf c (BRG_TGT_W n pos j) ≤ hi) &&
    decide (cf c (BRG_TGT_W n pos j) ≤ cf c (BRG_TGT_W n pos (j + 1)))

/-- One routing table entry (R242, R260). -/
def routeBads (c : Store Word) (k : Nat) : List Bad :=
  let out := cf c (rw k 0 26 23)
  let ring : Bool := decide (out < 8)
  let eth : Bool := out = 8 || out = 9 || out = 10
  let w := cf c (rw k 3 4 0)
  let t := cf c (rw k 3 23 16)
  let pf := cb c (rw k 0 14 14)
  badIf (t = 255) (rw k 3 23 16) 1 ++ badIf (ring && decide (t < 2)) (rw k 3 23 16) 2 ++
  badIf (decide (26 < w)) (rw k 3 4 0) 1 ++ badIf (ring && decide (24 < w) && decide (w ≤ 26)) (rw k 3 4 0) 2 ++
  badIf (ring && cf c (rw k 2 31 24) = 255) (rw k 2 31 24) 1 ++
  badIf (ring && !cb c (RING_CTRL_EN out)) (rw k 0 26 23) 2 ++
  badIf (eth && cf c (BRG_PEER_IP_IP (cf c (rw k 2 31 26))) = 0) (rw k 2 31 26) 2 ++
  badIf (cf c (rw k 0 30 27) = out) (rw k 0 26 23) 2 ++
  badIf (pf && (decide (11 ≤ out) || (ring && readSensitive c k))) (rw k 0 14 14) 2 ++
  badIf (cb c (rw k 0 13 13) && !ring) (rw k 0 13 13) 2

/-- Two valid entries of one port match a common identifier. -/
def routesMeet (c : Store Word) (j k : Nat) : Bool :=
  let w := 2 ^ max (cf c (rw j 3 4 0)) (cf c (rw k 3 4 0))
  j ≠ k && cf c (rw j 0 30 27) = cf c (rw k 0 30 27) && cf c (rw j 1 31 0) / w = cf c (rw k 1 31 0) / w

def bridgeBads (c : Store Word) : List Bad :=
  let ks := (List.range 4096).filter fun k => cb c (rw k 0 31 31)
  badIf (cf c BRG_CTRL_PF_LEN_Q = 0) BRG_CTRL_PF_LEN_Q 5 ++ badIf (decide (16 < cf c BRG_CTRL_PF_LEN_Q)) BRG_CTRL_PF_LEN_Q 1 ++
  badIf (cf c BRG_DOM_LIMIT_LIMIT = 0) BRG_DOM_LIMIT_LIMIT 5 ++ badIf (decide (3584 < cf c BRG_DOM_LIMIT_LIMIT)) BRG_DOM_LIMIT_LIMIT 1 ++
  ks.flatMap fun k => routeBads c k ++ badIf (ks.any fun j => routesMeet c j k) (rw k 1 31 0) 2

/-- CH20 + k is in brake mode in the snapshot. -/
def cBrake (c : Store Word) (k : Nat) : Bool := cf c (IO_CH_CFG_MODE (20 + k)) = 2

/-- A channel that is an output or a brake channel. -/
def cOutput (c : Store Word) (ch : Nat) : Bool := cf c (IO_CH_CFG_MODE ch) = 1 || cf c (IO_CH_CFG_MODE ch) = 2

/-- One channel of IX (R283). -/
def chBads (c : Store Word) (ch : Nat) : List Bad :=
  let flt := cf c (IO_CH_CFG_FLT ch)
  let m := cf c (IO_CH_CFG_MODE ch)
  let fb := cb c (IO_CH_CFG_FB_EN ch)
  let fc := cf c (IO_CH_CFG_FB_CH ch)
  badIf (flt = 0) (IO_CH_CFG_FLT ch) 5 ++ badIf (decide (200 < flt)) (IO_CH_CFG_FLT ch) 1 ++
  badIf (m = 3) (IO_CH_CFG_MODE ch) 5 ++
  badIf ((decide (24 ≤ ch) && (m = 1 || m = 2)) || (decide (ch < 20) && m = 2)) (IO_CH_CFG_MODE ch) 2 ++
  badIf (fb && (decide (fc < 24) || decide (47 < fc))) (IO_CH_CFG_FB_CH ch) 1 ++
  badIf (fb && decide (199 < cf c (IO_CH_CFG_FB_M1 ch))) (IO_CH_CFG_FB_M1 ch) 1 ++
  badIf (m = 2 && fb && cOutput c fc) (IO_CH_CFG_FB_CH ch) 2

/-- The tests of one output channel. -/
def chTestBads (c : Store Word) (ch : Nat) : List Bad :=
  badIf (decide (59 < cf c (IO_CH_TEST_INT_M1 ch))) (IO_CH_TEST_INT_M1 ch) 1 ++
  badIf (decide (37 < cf c (IO_CH_TEST_DARK_Q ch))) (IO_CH_TEST_DARK_Q ch) 1 ++
  badIf (decide (17 < cf c (IO_CH_TEST_BRIGHT_Q ch))) (IO_CH_TEST_BRIGHT_Q ch) 1 ++
  badIf (cf c (IO_CH_CFG_MODE ch) = 2 && cb c (IO_CH_TEST_BRIGHT_EN ch)) (IO_CH_TEST_BRIGHT_EN ch) 2

/-- BRK_CFG_k of a channel in brake mode. -/
def brkBads (c : Store Word) (k : Nat) : List Bad :=
  if ¬ cBrake c k then []
  else
    let ps := cf c (BRK_CFG_PS_CH k)
    let out := decide (24 ≤ ps) && decide (ps ≤ 47)
    badIf (!out) (BRK_CFG_PS_CH k) 1 ++ badIf (out && cOutput c ps) (BRK_CFG_PS_CH k) 2 ++
    badIf ((List.range 16).any fun i => natBit (cf c (BRK_CFG_REQ k)) i && cOutput c (24 + i)) (BRK_CFG_REQ k) 2

/-- IX (R282, R283). -/
def ioBads (s : State) (c : Store Word) : List Bad :=
  let anyBrake := brakes.any (cBrake c)
  badIf (decide (popCount 3 (ioConfirms s) < 2)) IO_CFG_CRC_CRC 3 ++
  channels.flatMap (chBads c) ++ outChannels.flatMap (chTestBads c) ++ brakes.flatMap (brkBads c) ++
  badIf (anyBrake && decide (99 < cf c BRK_TEST_CFG_PS_M1)) BRK_TEST_CFG_PS_M1 1 ++
  badIf (anyBrake && decide (23 < cf c BRK_TEST_CFG_MAX_M1)) BRK_TEST_CFG_MAX_M1 1

/-- The peer in force has been heard within the last 4 ticks, at a strobe that is not counted yet: its PEER_ID stays (R294). -/
def peerIdBads (s : State) (c : Store Word) : List Bad :=
  let heard : Bool := paired s && s.pair.last.isSome && decide (s.pair.hbAge < 4)
  badIf (heard && cf c PAIR_PEER_ID_LO_ID_LO ≠ s.fv PAIR_PEER_ID_LO_ID_LO) PAIR_PEER_ID_LO_ID_LO 2 ++
  badIf (heard && cf c PAIR_PEER_ID_HI_ID_HI ≠ s.fv PAIR_PEER_ID_HI_ID_HI) PAIR_PEER_ID_HI_ID_HI 2

/-- The pair controller (R294), while EN = 1; PAIR of the image's flags permits it (R341). -/
def pairBads (s : State) (c : Store Word) : List Bad :=
  peerIdBads s c ++
  if ¬ cb c PAIR_CFG_EN then []
  else
    let id := cf c PAIR_PEER_ID_LO_ID_LO + cf c PAIR_PEER_ID_HI_ID_HI * 2 ^ 32
    let m := cf c PAIR_CFG_RINGS
    let rs := ringList.filter fun n => natBit m n
    let prio := cf c (RING_CTRL_PRIO (rs.headD 0))
    badIf (!s.sec.img.pairOk) PAIR_CFG_EN 4 ++
    badIf (id = 0 || id = ownId) PAIR_PEER_ID_LO_ID_LO 5 ++
    badIf (m = 0) PAIR_CFG_RINGS 5 ++ badIf (rs.any fun n => !cb c (RING_CTRL_EN n)) PAIR_CFG_RINGS 2 ++
    badIf (rs.length % 2 = 0 && !natBit m 0) PAIR_CFG_RINGS 5 ++
    rs.flatMap (fun n => badIf (cf c (RING_CTRL_PRIO n) ≠ prio) (RING_CTRL_PRIO n) 2)

/-- The assay intervals (R371). -/
def astBads (c : Store Word) : List Bad :=
  badIf (decide (6999 < cf c AST_CTRL_FX_INT_M1)) AST_CTRL_FX_INT_M1 1 ++
  allLanes.flatMap fun l =>
    badIf (decide (1999 < cf c (AST_LANE_CTRL_SRAM_INT_M1 l))) (AST_LANE_CTRL_SRAM_INT_M1 l) 1 ++
    badIf (decide (3999 < cf c (AST_LANE_CTRL_LOGIC_INT_M1 l))) (AST_LANE_CTRL_LOGIC_INT_M1 l) 1

/-- Every failed check of a snapshot. -/
def commitBads (s : State) (c : Store Word) : List Bad :=
  bandBads s ++ sessions.flatMap (sesBads c) ++ [0, 1, 2].flatMap (ethBads c) ++ bridgeBads c ++ ioBads s c ++ pairBads s c ++ astBads c

/-- The place of a REASON in the order of R359. -/
def reasonRank : Nat → Nat
  | 4 => 0 | 3 => 1 | 5 => 2 | 1 => 3 | _ => 4

/-- The check named: the lowest address, then the lowest bit, then the first REASON. A lane register is named by its lane-view address. -/
def badLt (x y : Bad) : Bool :=
  let a := keyOff x.addr
  let b := keyOff y.addr
  decide (a < b) || (a = b && (decide (x.lsb < y.lsb) || (x.lsb = y.lsb && decide (reasonRank x.reason < reasonRank y.reason))))

def firstBad : List Bad → Option Bad
  | [] => none
  | b :: r => match firstBad r with
    | some x => some (if badLt x b then x else b)
    | none => some b

/-! ### The effect -/

/-- Put a snapshot in force: the SH bits of every register. -/
def applyKeys (c : Store Word) (s : State) (k : Nat) : State :=
  let m := (accOf k).sh
  if m = 0 then s else s.wr k ((s.rd k &&& ~~~ m) ||| (Store.get regReset c k &&& m))

/-- What the blocks do when the configuration changes: filters (R268), sessions (R225), rings (R189). `f0`: FLT of each channel before. -/
def commitFollow (f0 : List Nat) (s : State) : State :=
  let s := (channels.filter fun ch => s.fv (IO_CH_CFG_FLT ch) ≠ f0.getD ch 0).foldl fltChanged s
  ringsFollow (hexFollow { s with sec := { s.sec with noCommit := false } }) false

/-- A COMMIT comes into force (R358, R359). -/
def commitApply (s : State) (c : Store Word) : State :=
  let f0 := channels.map fun ch => s.fv (IO_CH_CFG_FLT ch)
  let s := (c.map (fun p => p.1) ++ s.regs.map fun p => p.1).foldl (applyKeys c) s
  commitFollow f0 (s.setF SEC_COMMIT_ERR_ERR 0)

/-- Source 94 and the record of each COMMIT. -/
def commitTell (s : State) : State := (s.raiseAll 94).recordRegs 0x0B 0x03 0 [SEC_COMMIT_ERR, SEC_COMMIT_ERR_ADDR]

/-- A COMMIT fails: SEC_COMMIT_ERR, the old configuration stays; without confirms of IX also source 38 (R282). -/
def commitFail (s : State) (b : Bad) (noConfirm : Bool) : State :=
  let s := if noConfirm then s.raiseAll 38 else s
  let s := ((s.setF SEC_COMMIT_ERR_ERR 1).setF SEC_COMMIT_ERR_REASON b.reason).setF SEC_COMMIT_ERR_LSB b.lsb
  commitTell (s.setF SEC_COMMIT_ERR_ADDR_ADDR (keyOff b.addr))

def noConfirms (s : State) : Bool := decide (popCount 3 (ioConfirms s) < 2)

/-- COMMIT_SNAPSHOT at tick 19: a waiting request takes its snapshot. -/
def commitTick19 (s : State) : State :=
  if s.sec.commitReq then
    let s := { s with sec := { s.sec with commitReq := false } }
    match firstBad (commitBads s s.shadow) with
    | some b => commitFail s b (noConfirms s)
    | none => { s with sec := { s.sec with snapshot := some s.shadow } }
  else s

/-- COMMIT_APPLY at tick 0. -/
def commitTick0 (s : State) : State :=
  match s.sec.snapshot with
  | some c => commitTell (commitApply { s with sec := { s.sec with snapshot := none } } c)
  | none => s

/-- COMMIT_REQ: the next tick 19 strobe takes a snapshot. -/
def commitReq (s : State) : State := if ¬ (s.pwr.power = .run) then s else { s with sec := { s.sec with commitReq := true } }

def execCommitReq (s : State) : Host.Outcome State Fault Refusal := .next (commitReq s)

/-- SEC_COMMIT.PENDING: a shadow differs from the value in force. -/
def commitPending (s : State) : Bool :=
  (s.shadow.map (fun p => p.1) ++ s.regs.map fun p => p.1).any fun k => (Store.get regReset s.shadow k &&& (accOf k).sh) ≠ (s.rd k &&& (accOf k).sh)

end Sys2Proof.Machine
end

