-- ==== Sys2Proof/Machine/Hss.lean ====
section
/-!
DEFINITION. The signatures of images and tokens (R343): HSS of RFC 8554 with two levels, LMS_SHA256_M32_H10 above LMS_SHA256_M32_H15, both
over LMOTS_SHA256_N32_W8. The spec names RFC 8554 for the algorithm; its type codes and its order of bytes are taken from there (PRESUMED, log entry 14).

Readings and choices: log entry 14 (PRESUMED).
-/

namespace Sys2Proof.Machine

/-- The bytes from offset `o` on, `n` of them. -/
def cutBytes (b : List Byte) (o n : Nat) : List Byte := (b.drop o).take n

/-! ### LMOTS_SHA256_N32_W8: 34 chains of 255 steps -/

/-- What every hash of one tree and leaf begins with: the identifier I and a 32-bit number. -/
def hssTag (id : List Byte) (q : Nat) : List Byte := id ++ beBytes 4 q

/-- `n` steps of chain `i` from step `j` on. -/
def otsChain (tag : List Byte) (i : Nat) : Nat → Nat → List Byte → List Byte
  | 0, _, x => x
  | n + 1, j, x => otsChain tag i n (j + 1) (sha256 (tag ++ beBytes 2 i ++ beBytes 1 j ++ x))

/-- The 34 coefficients: the bytes of the message's digest, then its checksum. -/
def otsCoefs (tag c msg : List Byte) : List Nat :=
  let d := (sha256 (tag ++ [0x81, 0x81] ++ c ++ msg)).map fun x => x.toNat
  d ++ (beBytes 2 ((d.map fun x => 255 - x).foldl (· + ·) 0)).map fun x => x.toNat

/-- The public key that the ends of the chains give. -/
def otsPublic (tag : List Byte) (ends : List (List Byte)) : List Byte := sha256 (tag ++ [0x80, 0x80] ++ ends.flatten)

/-- The public key that a one-time signature (type, C, 34 values) gives for a message. -/
def otsCandidate (tag sig msg : List Byte) : List Byte :=
  let co := otsCoefs tag (cutBytes sig 4 32) msg
  otsPublic tag ((List.range 34).map fun i => otsChain tag i (255 - co.getD i 0) (co.getD i 0) (cutBytes sig (36 + 32 * i) 32))

def otsType : Nat := 4

/-- Length of a one-time signature. -/
def otsLen : Nat := 1124

/-! ### LMS: a tree of height h over the one-time keys -/

/-- From node `k` up to the root along the path. -/
def lmsClimb (id : List Byte) : List (List Byte) → Nat → List Byte → List Byte
  | [], _, x => x
  | y :: ys, k, x =>
    lmsClimb id ys (k / 2) (sha256 (hssTag id (k / 2) ++ [0x83, 0x83] ++ if k % 2 = 1 then y ++ x else x ++ y))

/-- The root that a leaf's public key and path give. -/
def lmsRoot (id : List Byte) (h q : Nat) (leaf : List Byte) (path : List (List Byte)) : List Byte :=
  lmsClimb id path (2 ^ h + q) (sha256 (hssTag id (2 ^ h + q) ++ [0x82, 0x82] ++ leaf))

/-- The type code of a tree of SHA-256 and height h. -/
def lmsType (h : Nat) : Nat := h / 5 + 4

/-- Length of a signature of a tree of height h: q, the one-time signature, the type, the path. -/
def lmsLen (h : Nat) : Nat := 8 + otsLen + 32 * h

/-- Verify under a public key: type, one-time type, I, root. -/
def lmsVerify (h : Nat) (pub msg sig : List Byte) : Bool :=
  let id := cutBytes pub 8 16
  let q := bytesAt sig 0 4
  let path := (List.range h).map fun i => cutBytes sig (8 + otsLen + 32 * i) 32
  bytesAt pub 0 4 = lmsType h && bytesAt pub 4 4 = otsType && bytesAt sig 4 4 = otsType && bytesAt sig (4 + otsLen) 4 = lmsType h &&
  decide (q < 2 ^ h) && cutBytes pub 24 32 = lmsRoot id h q (otsCandidate (hssTag id q) (cutBytes sig 4 otsLen) msg) path

/-! ### HSS with two levels -/

/-- Verify a 3,124-byte signature under a 60-byte key (R343): the upper tree signs the lower tree's public key, the lower one the message. -/
def hssVerify (key msg sig : List Byte) : Bool :=
  let s0 := cutBytes sig 4 (lmsLen 10)
  let p1 := cutBytes sig (4 + lmsLen 10) 56
  let s1 := cutBytes sig (60 + lmsLen 10) (lmsLen 15)
  key.length = 60 && sig.length = 3124 && bytesAt key 0 4 = 2 && bytesAt sig 0 4 = 1 &&
  lmsVerify 10 (cutBytes key 4 56) p1 s0 && lmsVerify 15 p1 msg s1

end Sys2Proof.Machine
end

