-- ==== Sys2Proof/Machine/Image.lean ====
section
/-!
DEFINITION. The image in a bank (R340 to R342), its authentication (R343 to R346, boot step 2), the loading of its sections into the lanes
and the module (boot steps 3 and 4), the checks of the route engine at load (R147).

Readings and choices: log entries 5 (PRESUMED), 24 (DEDUCED), 34 (DEDUCED), 51 (DESIGN CHOICE).
-/

namespace Sys2Proof.Machine

def State.updSec (s : State) (f : SecSt → SecSt) : State := { s with sec := f s.sec }

/-! ### NOR (R340): an erased byte reads 0xFF (PRESUMED, log entry 5) -/

def norDefault : Nat → Byte := fun _ => 0xFF

def norKey (bank off : Nat) : Nat := bank * 2 ^ 28 + off

def norBytes (s : State) (bank off n : Nat) : List Byte := Store.getList norDefault s.sec.nor (norKey bank off) n

def norNum (s : State) (bank off n : Nat) : Nat := ofBytes (norBytes s bank off n)

/-- An entry of the section table. -/
structure Section where
  ty : Nat
  off : Nat
  len : Nat
  digest : List Byte
  deriving DecidableEq, Repr

def sectionAt (s : State) (bank k : Nat) : Section :=
  let o := 512 + 48 * k
  ⟨norNum s bank o 1, norNum s bank (o + 4) 4, norNum s bank (o + 8) 4, norBytes s bank (o + 16) 32⟩

def sections (s : State) (bank : Nat) : List Section := (List.range (norNum s bank 6 2)).map (sectionAt s bank)

/-- The bytes of a section; none where it is absent or of LENGTH 0. -/
def secBytes (s : State) (bank ty : Nat) : List Byte :=
  match (sections s bank).find? fun x => x.ty = ty with
  | some x => norBytes s bank x.off x.len
  | none => []

/-- The largest LENGTH of each type; 0 for no such type. -/
def secMax : Nat → Nat
  | 1 => 0x400000 | 2 => 0x100000 | 3 => 4096 | 4 => 133120 | 5 => 0x400000 | 6 => 524288 | 7 => 0x200000 | 8 => 0x100000
  | 9 => 65536 | 10 => 196608 | 11 => 512 | 12 => 16384 | 13 => 16384 | _ => 0

/-- Two sections share no byte. -/
def apart (x y : Section) : Bool := x.len = 0 || y.len = 0 || decide (x.off + x.len ≤ y.off) || decide (y.off + y.len ≤ x.off)

def pairwiseApart : List Section → Bool
  | [] => true
  | x :: r => r.all (apart x) && pairwiseApart r

/-- The section table: within the bank, not overlapping, required types present. -/
def layoutOk (s : State) (bank : Nat) : Bool :=
  let n := norNum s bank 6 2
  let xs := sections s bank
  decide (1 ≤ n) && decide (n ≤ 32) &&
  (xs.all fun x => x.off % 4096 = 0 && decide (8192 ≤ x.off) && decide (x.off + x.len ≤ 2 ^ 28) && decide (x.len ≤ secMax x.ty)) &&
  pairwiseApart xs && ([1, 2, 3, 4].all fun t => xs.any fun x => x.ty = t && x.len ≠ 0)

/-! ### Life cycle and root keys (R344 to R350) -/

/-- 0 BLANK, 1 MANUFACTURE, 2 COMMISSION, 3 OPERATE, 4 SERVICE, 5 RETIRED (R349). -/
def lcState (s : State) : Nat :=
  if s.sec.lcBits = 4 then 5 else if s.sec.lcBits = 3 ∧ s.sec.exits < s.sec.enters then 4 else s.sec.lcBits

/-- The hash in a root slot. -/
def rootHash (s : State) (slot : Nat) : Option (BitVec 256) := (s.sec.roots.find? fun p => p.1 = slot).map fun p => p.2

/-- A slot may sign images in a life-cycle state (R344, R350). -/
def slotForImage (lc slot : Nat) : Bool :=
  if slot = 0 then lc = 1 || lc = 2 else decide (slot ≤ 3) && (lc = 2 || lc = 3 || lc = 4)

/-- Whether something is signed (R344): 0 it is, 2 the root slot does not allow it, 3 the signature does not verify. -/
def signedUnder (s : State) (slot : Nat) (allowed : Bool) (key msg sig : List Byte) : Nat :=
  match rootHash s slot with
  | some h =>
    if ¬ allowed ∨ slot ∈ s.sec.revoked ∨ sha256Num key ≠ h then 2
    else if hssVerify key msg sig then 0 else 3
  | none => 2

/-- Boot step 2 on a bank (R360): 0, or the failure code. -/
def authBank (s : State) (bank : Nat) : Nat :=
  let slot := norNum s bank 64 1
  if norNum s bank 0 4 ≠ 0x484D4B31 ∨ norNum s bank 4 2 ≠ 1 then 1
  else if ¬ layoutOk s bank then 6
  else
    match signedUnder s slot (slotForImage (lcState s) slot) (norBytes s bank 2048 60) (norBytes s bank 0 512) (norBytes s bank 2108 3124) with
    | 0 => if norNum s bank 50 2 < s.fv SEC_FLOOR_FLOOR then 5 else 0
    | k => k

/-- IMAGE_DIGEST of the hallmark. -/
def imageDigest (s : State) (bank : Nat) : List Byte := norBytes s bank 8 32

/-- The image digest a lane computes: over the section table with the digests it computed itself. -/
def laneDigest (s : State) (bank : Nat) : List Byte :=
  let n := norNum s bank 6 2
  sha256 ((List.range 32).flatMap fun k =>
    let o := 512 + 48 * k
    let x := sectionAt s bank k
    norBytes s bank o 16 ++ (if k < n then sha256 (norBytes s bank x.off x.len) else norBytes s bank (o + 16) 32))

/-! ### Loading the lanes (boot step 3) -/

/-- v of word f of object i of the initial OMEM. -/
def initV (b : List Byte) (i f : Nat) : Nat := bytesAt b (32 * i + 4 * f) 4

def initObjects (b : List Byte) : Nat := b.length / 32

/-- S over the image's initial contents (R56): objects the section does not give hold 0. -/
def initialSum (b : List Byte) : BitVec 256 :=
  (List.range 131072).foldl (fun a i => (List.range 8).foldl (fun a f => a + elemHash i f (if i < initObjects b then initV b i f else 0)) a) 0

/-- The cells of an 8-byte word at an address. -/
def wordCells (a : Nat) (w : DWord) : List Host.Cell := Store.run memDefault a (beBytes 8 w.toNat)

/-- The route region: each of its words a coded static word, 0 where the section gives none (R144, R342). -/
def codedRoutes (l : Lane) (rss : Nat) (b : List Byte) : List Host.Cell :=
  (List.range 131072).flatMap fun w => wordCells (routeWordAddr w) (codeWord l (bytesAt b (4 * w) 4) (shortSig rss w) 0)

/-- The words of section 0x08 whose address lies from `lo` to `hi - 1`, each as `f` makes it of its v and B (R342). -/
def initialLmem (lo hi : Nat) (b : List Byte) (f : Nat → Nat → DWord) : List Host.Cell :=
  (List.range (min 131072 (b.length / 8))).flatMap fun k =>
    let a := 0x02900000 + 8 * k
    if lo ≤ a ∧ a < hi then wordCells a (f (bytesAt b (8 * k) 4) (bytesAt b (8 * k + 4) 4)) else []

/-- The memories of a lane as loaded, but for what is coded at the start (R360). The SYS part of LMEM takes plain words from
LANE_LMEM_SPLIT on. -/
def loadMem (s : State) (bank : Nat) (l : Lane) (split rss : Nat) : List Host.Cell :=
  Store.run memDefault 0 ((secBytes s bank 1).take 0x400000) ++ Store.run memDefault 0x02000000 ((secBytes s bank 7).take 0x200000) ++
  codedRoutes l rss (secBytes s bank 6) ++ initialLmem split 0x02A00000 (secBytes s bank 8) mkWord

/-- The image's settings of one engine: descriptors of the plain thread and the entry point, kept for restarts (R90, R94). -/
def loadRegions (s : State) (e : Engine) (b : List Byte) (at0 : Nat) (entry : Word) : State :=
  let r := (List.range 32).foldl (fun m k => Store.put (fun _ => 0) m (csKey e + 0x10 + k) (Config.setting b (at0 + k))) s.imgRgn
  let s := { s with imgRgn := Store.put (fun _ => 0) r (entryKey e) entry }
  (List.range 32).foldl (fun s k => s.wr (csKey e + 0x10 + k) (Config.setting b (at0 + k))) s

/-- The type map of section 0x04. -/
def typeMapOf (b : List Byte) : Store Nat :=
  (List.range 131072).foldl (fun m i => Store.put (fun _ => 0) m i (bytesAt b i 1 % 64)) []

/-- Step 3 in one lane: its sections, settings and tables. -/
def loadLane (bank : Nat) (s : State) (l : Lane) : State :=
  let b3 := secBytes s bank 3
  let b4 := secBytes s bank 4
  let b5 := secBytes s bank 5
  let split := getBits (Config.setting b3 96) 31 16
  let rss := (Config.setting b3 99).toNat % 2048
  let tm := typeMapOf b4
  let s := s.updLane l fun x => { x with
    mem := loadMem s bank l (split * 65536) rss, typeMap := tm, locked := 0, osum := initialSum b5 }
  let s := (List.range 512).foldl (fun s k => s.wr (OBJ_FD_SIG l k) (BitVec.ofNat 32 (bytesAt b4 (131072 + 4 * k) 4))) s
  let s := ((s.setF (LANE_LMEM_SPLIT_SPLIT l) split).setF (RTE_RSS_RSS l) rss).setF (PIC_VEC_BASE_BASE (.lane l)) (getBits (Config.setting b3 97) 31 3)
  let s := loadRegions s (.lane l) b3 32 (BitVec.ofNat 32 (norNum s bank 160 4))
  let s := (List.range 32).foldl (fun s k => s.wr (csKey (.lane l) + 0x30 + k) (Config.setting b3 k)) s
  let used := ((List.range 131072).filter fun i => Store.get (fun _ => 0) tm i ≠ 0).length
  let s := s.setF (OBJ_INFO_USED l) (min 131071 used)
  let recs := (List.range 4096).map fun r => (bytesAt (secBytes s bank 6) (64 * r) 4, bytesAt (secBytes s bank 6) (64 * r + 4) 4 % 256)
  let s := s.setF (RTE_INFO_PRESENT l) (recs.filter fun r => natBit r.1 31).length
  let s := s.setF (RTE_INFO_MAX_EL l) ((recs.map fun r => r.2).foldl max 0)
  let fl := norNum s bank 65 1
  (s.setB (LANE_CTRL_RETIRE_OK l) (natBit fl 1)).loadF (LANE_CTRL_ANNEAL_EN l) (b2n (natBit fl 3))

/-- The image in force, as the hallmark gives it. -/
def imageOf (s : State) (bank : Nat) : ImageSt :=
  { schema := norNum s bank 48 2,
    imports := ((List.range 4).map fun k => norNum s bank (52 + 2 * k) 2).filter fun x => x ≠ 0,
    keyset := norNum s bank 60 4, root := norNum s bank 64 1, pairOk := natBit (norNum s bank 65 1) 0,
    entries := (List.range 4).map fun k => norNum s bank (148 + 4 * k) 4, required := (Config.ringPlan (secBytes s bank 9)).required,
    digests := (sections s bank).map fun x => (x.ty, x.len, x.digest) }

/-- The management program and its settings. -/
def loadMgmt (s : State) (bank : Nat) : State :=
  let b3 := secBytes s bank 3
  let s := { s with mmem := memWriteBytes [] 0 (secBytes s bank 2) }
  let s := loadRegions s .mgmt b3 64 (Config.setting b3 100)
  s.setF (PIC_VEC_BASE_BASE .mgmt) (getBits (Config.setting b3 98) 31 3)

/-! ### Loading the shadows (boot step 4) -/

/-- Write the SH bits of a register's shadow. -/
def writeShadow (s : State) (k : Nat) (w : Word) : State :=
  let m := (accOf k).sh
  if m = 0 then s else s.shWr k ((s.shRd k &&& ~~~ m) ||| (w &&& m))

/-- The ring plan: RING_CTRL, down-slices and IFVs, requests (R342, R367, R431). -/
def loadPlan (s : State) (p : Config.RingPlan) : State :=
  let s := (List.range 8).foldl (fun s n => writeShadow s (RING_CTRL n) (BitVec.ofNat 32 (p.ctrl.getD n 0xFF00))) s
  let dn := p.downs.foldl (fun m d => Store.put (fun _ => false) m (d.1 * 256 + d.2.1) true) []
  let v := p.downs.foldl (fun m d => Store.put (fun _ => 0) m (512 * d.1 + 2 * d.2.1) d.2.2) []
  let v := p.ups.foldl (fun m u => Store.put (fun _ => 0) m (512 * u.1 + 2 * u.2.1 + 1) (u.2.2.1 + 256 * u.2.2.2)) v
  let r := (List.range 8).foldl (fun m n =>
    let q := p.requests.getD n (0, 0, 0)
    Store.put (fun _ => 0) (Store.put (fun _ => 0) (Store.put (fun _ => 0) m (4 * n) q.1) (4 * n + 1) q.2.1) (4 * n + 2) q.2.2) []
  { s with planDn := dn, planIfv := v, planReq := r }

/-- The IX shadows (R342): section 0x0B gives them word by word from 0x80B0_0000; one it does not give takes 0, an IO_CH_CFG 1. -/
def ioWord (b : List Byte) (k : Nat) : Word :=
  let o := k - 0x80B00000
  if o + 4 ≤ b.length then BitVec.ofNat 32 (bytesAt b o 4) else if o < 0xC0 then 1 else 0

/-- An address of section 0x0A: the routing table, BRG_PEER_IP, BRG_TGT. -/
def isBridgePreset (a : Nat) : Bool :=
  (decide (0x80210000 ≤ a) && decide (a < 0x80228000)) || (decide (0x80200100 ≤ a) && decide (a < 0x80200200))

/-- An address of section 0x0C: HXL_, ETH_ and TIME_ registers. -/
def isSessionPreset (a : Nat) : Bool :=
  (decide (0x80300000 ≤ a) && decide (a < 0x80340000)) || (decide (0x80010000 ≤ a) && decide (a < 0x80020000))

def writePairs (ok : Nat → Bool) (s : State) (ps : List (Nat × Nat)) : State :=
  ps.foldl (fun s p => if ok p.1 then writeShadow s p.1 (BitVec.ofNat 32 p.2) else s) s

/-- Pairs of register address and value (section 0x0D); an interval of a lane's assay is written in every lane. -/
def otherPairs (b : List Byte) : List (Nat × Nat) :=
  ((List.range (b.length / 8)).map fun k => (bytesAt b (8 * k) 4, bytesAt b (8 * k + 4) 4)).flatMap fun p =>
    if p.1 < 0x80000000 then allLanes.map fun l => (laneKey l + p.1, p.2) else [p]

def loadShadows (s : State) (bank : Nat) : State :=
  let s := loadPlan s (Config.ringPlan (secBytes s bank 9))
  let s := writePairs isBridgePreset s (Config.presets 0x0A (secBytes s bank 0x0A))
  let s := ioCfgKeys.foldl (fun s k => writeShadow s k (ioWord (secBytes s bank 0x0B) k)) s
  let s := writePairs isSessionPreset s (Config.presets 0x0C (secBytes s bank 0x0C))
  writePairs (fun _ => true) s (otherPairs (secBytes s bank 0x0D))

/-- Each lane's boot ROM writes its IO_CONFIRM from the section it has loaded (R282, R360). -/
def bootConfirms (s : State) (bank : Nat) : State :=
  let c := crc32c (wordsBytes (ioCfgKeys.map fun k => ioWord (secBytes s bank 0x0B) k &&& (accOf k).sh))
  s.forLanes fun s l => s.wr (IO_CONFIRM l) (BitVec.ofNat 32 c)

/-! ### The lanes' start (R55, R73, R360) -/

/-- OMEM: every field of every object under its field signature, v of section 0x05 and 0 for the objects it does not give (R55, R342). -/
def codedObjects (s : State) (b : List Byte) (d : Nat) (l : Lane) : List Host.Cell :=
  (List.range 131072).flatMap fun i => (List.range 8).flatMap fun f =>
    wordCells (omemAddr i f) (codeWord l (if i < initObjects b then initV b i f else 0) (fieldSig s l i f) d)

/-- Code the initial OMEM and the SAFE part of LMEM with the D of the epoch that ends. -/
def codeInitial (s : State) (bank d : Nat) (l : Lane) : State :=
  let b5 := secBytes s bank 5
  let hi := max 0x02900000 (min (s.lmemSplit l) 0x02A00000)
  let m := Store.replace (s.lane l).mem 0x01000000 0x01800000 (codedObjects s b5 d l)
  let m := Store.replace m 0x02900000 hi (initialLmem 0x02900000 hi (secBytes s bank 8) fun v b => codeWord l v b d)
  s.updLane l fun x => { x with mem := m, locked := 0, osum := initialSum b5, dirty := [], tinDirty := [] }

/-! ### The checks of the route engine at load (R147) -/

/-- What the checks read: the sections of a bank. -/
structure RteImage where
  routes : List Byte
  cmx : List Byte
  omem : List Byte
  types : Store Nat

/-- v of word k of route r, and of list word w. -/
def rteV (x : RteImage) (r k : Nat) : Nat := bytesAt x.routes (64 * r + 4 * k) 4

def rteList (x : RteImage) (w : Nat) : Nat := bytesAt x.routes (4 * (65536 + w)) 4

/-- CMX(i, j) (R429). -/
def rteCmx (x : RteImage) (i j : Nat) : Bool := natBit (bytesAt x.cmx (512 * i + j / 8) 1) (7 - j % 8)

def rteType (x : RteImage) (i : Nat) : Nat := Store.get (fun _ => 0) x.types i

/-- v of field f of object i of the initial OMEM. -/
def rteObj (x : RteImage) (i f : Nat) : Nat := if i < initObjects x.omem then initV x.omem i f else 0

def present (x : RteImage) (r : Nat) : Bool := natBit (rteV x r 0) 31

/-- Pointer and count of the three lists of a route. -/
def rteLists (x : RteImage) (r : Nat) : List (Nat × Nat × List Nat) :=
  [(1, [1, 2, 4, 5]), (2, [1, 2, 4]), (3, [7])].map fun p => (rteV x r p.1 / 65536, rteV x r p.1 % 256, p.2)

/-- The objects of a route have the types of R145 and R146: the type alone is what check 0x06 asks; the REQ of a flank set entry is not. -/
def routeTypes (x : RteImage) (r : Nat) : Bool :=
  let named := fun (k : Nat) (ts : List Nat) => decide (rteType x (rteV x r k % 131072) ∈ ts)
  let valid := fun (k : Nat) => natBit (rteV x r k) 31
  named 0 [3] && (!valid 4 || named 4 [3]) && (!valid 6 || named 6 [1, 4]) && (!valid 9 || named 9 [6]) &&
  (rteLists x r).all fun p => (List.range p.2.1).all fun k =>
    let w := rteList x (p.1 + k)
    decide (rteType x (w / 32768) ∈ p.2.2)

/-- A flank element protects a point in a position, or a signal at danger. -/
def flankOk (x : RteImage) (i : Nat) : Bool :=
  let v := rteObj x i 1
  let t := rteType x (v / 32768)
  let q := v / 8192 % 4
  rteType x i ≠ 7 || (t = 2 && (q = 1 || q = 2)) || (t = 3 && q = 3)

def bound (x : RteImage) (i : Nat) : Bool := natBit (rteObj x i 0) 25

def binding (x : RteImage) (i : Nat) : Nat := rteObj x i 0 / 256 % 131072

/-- A bound object's binding is legal and its own. -/
def bindingOk (x : RteImage) (i : Nat) : Bool :=
  let p := rteObj x i 0 / 16384 % 256
  !bound x i || (p ≠ 0 && p ≠ 255 && (List.range i).all fun j => !bound x j || binding x j ≠ binding x i)

/-- The bits of route words 0 to 9 that R145 names. -/
def routeBits : List Nat :=
  [0xF001FFFF, 0xFFFF00FF, 0xFFFF00FF, 0xFFFF00FF, 0x8001FFFF, 0xFFFFFFFF, 0x8001FFFF, 0xFFFFFFFF, 0xE0000003, 0x8001FFFF]

def reservedOk (x : RteImage) (r : Nat) : Bool :=
  (List.range 10).all fun k => BitVec.ofNat 32 (rteV x r k) &&& ~~~ BitVec.ofNat 32 (routeBits.getD k 0) = 0

/-- The first index that fails a check. -/
def failAt (n : Nat) (ok : Nat → Bool) : Option Nat := (List.range n).find? fun i => !ok i

/-- The checks in the order of R147: code and what fails it. Within one code the spec gives no order, no INDEX of a failing list entry, and does
not say whether 0x06 covers absent routes: the model's choice (log entry 51) is routes before objects before list words, the route's number,
and the present routes only. -/
def rteChecks (x : RteImage) : List (Nat × Option Nat) :=
  [(1, failAt 4096 fun i => (List.range 4096).all fun j => rteCmx x i j = rteCmx x j i),
   (2, failAt 4096 fun i => !rteCmx x i i),
   (3, failAt 4096 fun i => present x i || (List.range 4096).all fun j => !rteCmx x i j),
   (4, failAt 4096 fun r => !present x r || rteV x r 1 % 256 ≠ 0),
   (5, failAt 4096 fun r => (rteLists x r).all fun p => decide (p.1 + p.2.1 ≤ 65536)),
   (6, failAt 4096 fun r => !present x r || routeTypes x r),
   (6, failAt 131072 (flankOk x)),
   (7, failAt 131072 fun i => rteObj x i 0 / 67108864 = rteType x i),
   (8, failAt 131072 (bindingOk x)),
   (9, failAt 4096 (reservedOk x)),
   (9, failAt 65536 fun w => rteList x w % 8192 = 0)]

def rteImage (s : State) (bank : Nat) : RteImage := ⟨secBytes s bank 6, secBytes s bank 7, secBytes s bank 5, typeMapOf (secBytes s bank 4)⟩

/-- The first failure found: code and index. -/
def rteLoadErr (s : State) (bank : Nat) : Option (Nat × Nat) :=
  (rteChecks (rteImage s bank)).findSome? fun p => p.2.map fun i => (p.1, i)

/-- IFSET includes ring major version 1 and Hexlo format 0x01 (R360). -/
def interfacesOk (s : State) (bank : Nat) : Bool :=
  [1, 2].all fun kind => (List.range 16).any fun k =>
    let o := 84 + 4 * k
    norNum s bank o 1 = kind && decide (norNum s bank (o + 1) 1 ≤ 1) && decide (1 ≤ norNum s bank (o + 2) 1)

end Sys2Proof.Machine
end

