-- ==== Sys2Proof/Machine/Recorder.lean ====
section
/-!
DEFINITION. The event recorder (R387 to R397): records as bytes, their slots, writing, the boot scan, reads, clears.

Readings and choices: log entries 25 (DESIGN CHOICE), 31 (DESIGN CHOICE).
-/

namespace Sys2Proof.Machine

def State.updRec (s : State) (f : RecSt → RecSt) : State := { s with recorder := f s.recorder }

def recSlot (s : State) (n : Nat) : List Byte := Store.get (fun _ => []) s.recorder.store n

def setSlot (s : State) (n : Nat) (b : List Byte) : State :=
  s.updRec fun r => { r with store := Store.put (fun _ => []) r.store n b }

def recClr (s : State) : Nat := s.fv REC_CLR_LO_CLR_LO + s.fv REC_CLR_HI_CLR_HI * 2 ^ 32

def recNewest (s : State) : Nat := s.fv REC_NEWEST_LO_NEWEST_LO + s.fv REC_NEWEST_HI_NEWEST_HI * 2 ^ 32

def setClr (s : State) (q : Nat) : State := (s.setF REC_CLR_LO_CLR_LO (q % 2 ^ 32)).setF REC_CLR_HI_CLR_HI (q / 2 ^ 32)

def setNewest (s : State) (q : Nat) : State := (s.setF REC_NEWEST_LO_NEWEST_LO (q % 2 ^ 32)).setF REC_NEWEST_HI_NEWEST_HI (q / 2 ^ 32)

def wrapLen : Nat := 2031616

/-- The slot that SEQ selects (R389). -/
def slotOfSeq (s : State) (q : Nat) : Nat :=
  let k := q - recClr s
  if k < 65536 then k else 65536 + (k - 65536) % wrapLen

/-- TOUCH of a record (R387). -/
def touchOf (q : Nat) : Nat := Nat.xor (q % 2 ^ 32) 0x7A113C5E

/-- The 64 bytes of a record. -/
def recordImage (q : Nat) (e : Event) : List Byte :=
  let b := beBytes 6 q ++ beBytes 1 e.src ++ beBytes 1 (bitsOf [e.src = 0x0D, e.late]) ++ beBytes 8 e.time ++ beBytes 2 e.code ++
    beBytes 2 e.aux ++ (e.data ++ List.replicate 36 0).take 36
  b ++ beBytes 4 (crc32c b) ++ beBytes 4 (touchOf q)

/-- SEQ of a slot's bytes. -/
def seqOf (b : List Byte) : Nat := bytesAt b 0 6

/-- Slot n holds a valid record (R388). -/
def slotValid (s : State) (n : Nat) : Bool :=
  let b := recSlot s n
  let q := seqOf b
  bytesAt b 60 4 = touchOf q && bytesAt b 56 4 = crc32c ((List.range 56).map fun k => b.getD k 0) && decide (recClr s ≤ q) &&
    slotOfSeq s q = n

/-- Write one record under the next SEQ: slot, REC_NEWEST, the checkpoint, the end of the first-fault region. -/
def putRecord (s : State) (e : Event) : State :=
  let q := s.recorder.nextSeq
  let k := q - recClr s
  let s := setNewest (setSlot s (slotOfSeq s q) (recordImage q e)) q
  let s := s.updRec fun r => { r with nextSeq := q + 1, checkpoint := if q % 4096 = 0 then q else r.checkpoint }
  if k = 65535 then (s.setF REC_STATUS_FF_FULL 1).raiseAll 88 else s

/-- A record about the recorder. -/
def selfEvent (s : State) (code aux : Nat) (data : List Byte) : Event :=
  ⟨0x0D, code, aux, data, s.time.t + s.subTick, !s.time.isSet⟩

/-- R390: a lap of the wrap region begins, with its WRAP record. -/
def beginLap (s : State) : State :=
  let q := s.recorder.nextSeq
  let lap := s.fv REC_LAP_LAP + 1
  let s := (s.setF REC_LAP_LAP lap).raiseAll 89
  putRecord s.drawn (selfEvent s 0x02 0 (beBytes 4 lap ++ beBytes 6 (q - wrapLen)))

/-- A record is due into the first slot of the wrap region, a lap after it was last written. -/
def lapDue (s : State) : Bool :=
  let q := s.recorder.nextSeq
  slotOfSeq s q = 65536 && decide (2097152 ≤ q - recClr s)

/-- Write a record that has left the queue, behind a WRAP record where a lap begins. -/
def writeEvent (s : State) (e : Event) : State := putRecord (if lapDue s then beginLap s else s) e

/-- R392: the LOST record enters the queue as soon as there is room: the count (4 bytes), SRC (1) and CODE (2) of the first and of the last
event lost. -/
def queueLost (s : State) : State :=
  match s.recorder.lost with
  | some (n, s0, c0, s1, c1) =>
    let ev := selfEvent s 0x04 0 (beBytes 4 n ++ beBytes 1 s0 ++ beBytes 2 c0 ++ beBytes 1 s1 ++ beBytes 2 c1)
    (s.drawn.updRec fun r => { r with queue := r.queue ++ [ev], lost := none }).raiseAll 90
  | none => s

/-- A write or its read-back failed: STORE_FAULT, source 90 and its record at the first; what is lost is counted. -/
def storeFault (s : State) (e : Event) : State :=
  let first := !s.fb REC_STATUS_STORE_FAULT
  let s := s.incF REC_CNT_LOST
  let lost := match s.recorder.lost with
    | none => (1, e.src, e.code, e.src, e.code)
    | some (n, s0, c0, _, _) => (n + 1, s0, c0, e.src, e.code)
  let s := s.updRec fun r => { r with lost := some lost }
  if first then
    let ev := selfEvent s 0x05 0 []
    ((s.setF REC_STATUS_STORE_FAULT 1).drawn.updRec fun r => { r with queue := r.queue ++ [ev] }).raiseAll 90
  else s

/-- RECORD_WRITE: the event at the head of the queue is written. `ok`: MRAM took the writes and they read back. -/
def recordWrite (s : State) (ok : Bool) : State :=
  match s.recorder.queue with
  | [] => s
  | e :: r =>
    let s := s.updRec fun x => { x with queue := r }
    if ok then queueLost (writeEvent s e) else storeFault s e

def execRecordWrite (ok : Bool) (s : State) : Host.Outcome State Fault Refusal := .next (recordWrite s ok)

/-- Empty the queue into the store (R320, R324, R396). `put`: how one record is written. -/
def drainQueue (put : State → Event → State) (s : State) : State :=
  let s := queueLost s
  (s.recorder.queue.foldl put s).updRec fun r => { r with queue := [] }

/-! ### Clears (R395, R396) -/

/-- Take a clear: the queue is emptied, no lap begins (R397), REC_CLR rises, the CLEAR record names what is cleared and goes into slot 0,
the background erase runs. -/
def recClear (s : State) (slot : Nat) (keyId : List Byte) : State :=
  let first := recClr s
  let s := drainQueue putRecord s
  let q := s.recorder.nextSeq
  let s := (setClr s q).setF REC_STATUS_FF_FULL 0
  let ev := selfEvent s 0x03 0 (beBytes 6 first ++ beBytes 6 (q - 1) ++ beBytes 1 slot ++ keyId)
  let s := (putRecord s.drawn ev).setF REC_LAP_LAP 0
  (s.setF REC_STATUS_ERASING 1).updRec fun r => { r with erasing := true }

/-- The touchmark of a slot that does not hold a valid record is zero. -/
def eraseSlot (s : State) (n : Nat) : State :=
  if n = 0 ∨ slotValid s n then s else setSlot s n ((recSlot s n).take 60)

/-- REC_ERASE_DONE: the touchmark of every other slot has been zeroed, records written since the clear apart; source 91. -/
def eraseDone (s : State) : State :=
  if s.recorder.erasing then
    let s := (s.recorder.store.map fun p => p.1).foldl eraseSlot s
    ((s.setF REC_STATUS_ERASING 0).updRec fun r => { r with erasing := false }).raiseAll 91
  else s

def execRecEraseDone (s : State) : Host.Outcome State Fault Refusal := .next (eraseDone s)

/-! ### Reads (R394) -/

/-- REC_READ: REC_RD_SEQ_HI is written and the read starts; the recovery service reads only within a maintenance session (R394). -/
def recRead (s : State) (hi : Nat) : State :=
  if ¬ serviceAllows s then s
  else ((s.setF REC_RD_SEQ_HI_SEQ_HI hi).setF REC_RD_STAT_BUSY 1).updRec fun r => { r with readBusy := true }

def execRecRead (hi : BitVec 16) (s : State) : Host.Outcome State Fault Refusal := .next (recRead s hi.toNat)

/-- SEQ asked for. -/
def readSeq (s : State) : Nat := s.fv REC_RD_SEQ_LO_SEQ_LO + s.fv REC_RD_SEQ_HI_SEQ_HI * 2 ^ 32

/-- SEQ lies within the records held: between REC_CLR and the newest, and not written over. -/
def seqHeld (s : State) (q : Nat) : Bool :=
  decide (recClr s ≤ q) && decide (q ≤ recNewest s) && (decide (q - recClr s < 65536) || decide (recNewest s < q + wrapLen))

def showRead (s : State) (res : Nat) (b : List Byte) : State :=
  let s := (List.range 16).foldl (fun s k => s.wr (REC_RD_DATA k) (BitVec.ofNat 32 (bytesAt b (4 * k) 4))) s
  ((s.setF REC_RD_STAT_RESULT res).setF REC_RD_STAT_BUSY 0).updRec fun r => { r with readBusy := false }

/-- REC_READ_DONE: OK with the record, NOT_HELD, or TORN, which is counted. -/
def recReadDone (s : State) : State :=
  if ¬ s.recorder.readBusy then s
  else
    let q := readSeq s
    let n := slotOfSeq s q
    if ¬ seqHeld s q then showRead s 1 []
    else if slotValid s n ∧ seqOf (recSlot s n) = q then showRead s 0 (recSlot s n)
    else (showRead s 2 []).incF REC_CNT_TORN

def execRecReadDone (s : State) : Host.Outcome State Fault Refusal := .next (recReadDone s)

/-! ### At boot (R393) -/

/-- SEQs read at boot: 4,096 from the checkpoint, none below REC_CLR. -/
def scanSeqs (s : State) : List Nat :=
  let c := max s.recorder.checkpoint (recClr s)
  (List.range 4096).map fun k => c + k

/-- The newest valid record. -/
def scanNewest (s : State) : Option Nat :=
  ((scanSeqs s).filter fun q => slotValid s (slotOfSeq s q) && seqOf (recSlot s (slotOfSeq s q)) = q).getLast?

/-- The starting T of R45: the newest timestamp rounded up to a whole second, plus 1 s; with no record, 1 s. -/
def startT (s : State) : Nat :=
  match scanNewest s with
  | some q => (bytesAt (recSlot s (slotOfSeq s q)) 8 8 + 999999999) / 1000000000 * 1000000000 + 1000000000
  | none => 1000000000

/-- Where the scan ends: the slot after the newest valid record. -/
def scanEnd (s : State) : Nat :=
  match scanNewest s with
  | some q => q + 1
  | none => max s.recorder.checkpoint (recClr s)

/-- Torn slots met by the scan. -/
def scanTorn (s : State) : Nat :=
  let n := scanEnd s
  ((scanSeqs s).filter fun q => decide (q ≤ n) && !slotValid s (slotOfSeq s q)).length

/-- RECORDER_BOOT_SCAN: REC_NEWEST, the next SEQ, torn slots counted; a background erase cut short is resumed (R397). -/
def bootScan (s : State) : State :=
  let torn := scanTorn s
  let s := match scanNewest s with
    | some q => (setNewest s q).updRec fun r => { r with nextSeq := q + 1 }
    | none => s.updRec fun r => { r with nextSeq := recClr s }
  (s.incF REC_CNT_TORN torn).setB REC_STATUS_ERASING s.recorder.erasing

end Sys2Proof.Machine
end

