-- ==== Sys2Proof/Machine/Boot.lean ====
section
/-!
DEFINITION. The module reset (R20, R338) and the boot (R351, R360, R361, R393): what a reset loses and keeps, the four boot steps, the mode
the boot ends in.

Readings and choices: log entries 25 (DESIGN CHOICE), 31 (DESIGN CHOICE), 34 (DEDUCED), 35 (DEDUCED), 51 (DESIGN CHOICE).
-/

namespace Sys2Proof.Machine

/-- The module resets by cause 0x4, MGT_RESTART, among others; the counters of R335 by cause start at index 32. -/
def accReset (c : ResetCause) : Nat := 31 + c.code

/-! ### What survives (R13, R294, R335, R337, R349, R353, R361, R393) -/

/-- Registers held in PD_AON, MRAM or OTP, or showing a pin, and the bits held. -/
def keptRegs : List (Nat × Word) :=
  [(REC_STATUS, 1), (REC_NEWEST_LO, 0xFFFFFFFF), (REC_NEWEST_HI, 0xFFFFFFFF), (REC_CLR_LO, 0xFFFFFFFF), (REC_CLR_HI, 0xFFFFFFFF),
   (REC_LAP, 0xFFFFFFFF), (PAIR_CFG, 0xFFFFFFFF), (PAIR_PEER_ID_LO, 0xFFFFFFFF), (PAIR_PEER_ID_HI, 0xFFFFFFFF),
   (PWR_WAKE_STAT, 0xFFFFFFFF), (PWR_PAD, 1), (PWR_RESET, 0xFFFFFFFF), (SEC_FLOOR, 0xFFFFFFFF), (AST_MAN_STAT, 0xFC),
   (SEC_STATUS, 0x8000)]

/-- Registers that PD_AON uses in DORMANT: wake sources and the ring flags (R329). -/
def dormantRegs : List (Nat × Word) :=
  [(PWR_STATE, 0xFFFFFFFF), (PWR_WAKE_EN, 0xFFFFFFFF), (PWR_WAKE_CFG, 0xFFFFFFFF), (PWR_WAKE_TIMER, 0xFFFFFFFF)] ++
  ringList.map fun n => (RING_CTRL n, 0xFFFFFFFF)

def keepRegs (m : Store Word) (ks : List (Nat × Word)) : Store Word :=
  ks.foldl (fun r k => Store.put regReset r k.1 (Store.get regReset m k.1 &&& k.2)) []

/-- A lane after a reset: its non-volatile keys come into force (R353). -/
def coldLane (on : Bool) (x : LaneSt) : LaneSt :=
  { LaneSt.init with powered := on, keyNv := x.keyNv, keys := x.keyNv, keysetId := x.keysetId }

def coldRec (r : RecSt) : RecSt :=
  { RecSt.init with store := r.store, nextSeq := r.nextSeq, checkpoint := r.checkpoint, erasing := r.erasing }

def coldPwr (p : PwrSt) (power : Power) : PwrSt :=
  { p with power := power, asked := 0, stood := none, dormLeft := none, reaching := false, heldWake := 0 }

def coldSec (x : SecSt) : SecSt :=
  { SecSt.init with
    nor := x.nor, selected := x.selected, previous := x.previous, trial := x.trial, roots := x.roots, revoked := x.revoked,
    lcBits := x.lcBits, enters := x.enters, exits := x.exits, attNext := x.attReserved, attReserved := x.attReserved,
    hxKeys := x.hxKeysNv, hxKeysNv := x.hxKeysNv }

/-- The state in which everything volatile is lost: the lanes powered or not, the registers `ks` held. -/
def coldState (s : State) (power : Power) (on : Bool) (ks : List (Nat × Word)) : State :=
  { State.reset with
    pending := s.pending, freeCnt := s.freeCnt, regs := keepRegs s.regs ks,
    shadow := keepRegs s.shadow [(PAIR_CFG, 0xFFFFFFFF), (PAIR_PEER_ID_LO, 0xFFFFFFFF), (PAIR_PEER_ID_HI, 0xFFFFFFFF)],
    lanes := ⟨coldLane on s.lanes.a, coldLane on s.lanes.b, coldLane on s.lanes.c⟩,
    recorder := coldRec s.recorder, feed := s.feed, pwr := coldPwr s.pwr power, sec := coldSec s.sec, fxSpare := s.fxSpare }

/-- The pads are latched no longer (R334): in reset they follow R19. -/
def unlatch (s : State) : State :=
  { s with pwr := { s.pwr with txLatch := 0, auxLatch := 0 } }.setF PWR_PAD_LATCHED 0

/-- Into reset: every session goes to OFF, which is recorded (R225); pending MRAM writes are completed, every domain but PD_AON is reset, every
gate is off (R19, R337). -/
def enterReset (s : State) : State :=
  unlatch (coldState (drainQueue writeEvent (sessions.foldl (fun s n => sesGo s n 0) s)) .reset false keptRegs)

/-! ### The end of a boot (R20, R360) -/

/-- The lanes named, bit 0 lane A. -/
def showBoot (s : State) (fail step lanes : Nat) : State :=
  ((s.setF SEC_BOOT_FAIL fail).setF SEC_BOOT_STEP step).setF SEC_BOOT_LANES lanes

/-- SEC_BOOT.TIME_MS is open (log entry 2); a boot after a module reset reports its cause (R338). -/
def bootReport (s : State) : State :=
  if s.mode = .boot then ((s.setF SEC_BOOT_TIME_MS (s.freeVal.toNat % 32768)).drawn).raiseAll 84 else s

/-- The boot ends in CONFIG_HOLD, or in SERVICE (R20). R20 lists no transition for a step that fails in a wake from STABLED: the module
stays in STANDBY with every lane OFF (log entry 35). -/
def bootEnd (s : State) (fail step lanes : Nat) : State :=
  let s := bootReport (showBoot s fail step lanes)
  let s := { s with pwr := { s.pwr with waking := 0 } }.setF PWR_STATE_STATE 0
  s.updSec fun x => { x with
    bootStep := 0,
    nextMode := if s.mode = .boot then some (if lcState s = 4 then .service else .configHold) else x.nextMode }

/-- A boot that failed has no image in force; a wake leaves the one that SYS of lane A and the management thread run. -/
def dropImage (s : State) : State := if s.mode = .boot then s.updSec fun x => { x with img := ImageSt.init } else s

/-- Step 2 on the bank selected, with no way back (R361). -/
def stepTwo (s : State) : State :=
  let s := s.setF SEC_STATUS_BANK s.sec.selected
  match authBank s s.sec.selected with
  | 0 => s.updSec fun x => { x with bootStep := 3 }
  | k => bootEnd s k 2 0

/-- A step from 2 to 4 fails: on trial the module reverts and runs step 2 again (R361). -/
def stepFails (s : State) (fail step lanes : Nat) : State :=
  if s.sec.trial then
    stepTwo ((s.updSec fun x => { x with selected := x.previous, trial := false, bootStep := 0, img := ImageSt.init }).setF SEC_BOOT_REVERTED 1)
  else bootEnd (dropImage s) fail step lanes

/-- BOOT_AUTHENTICATION. -/
def bootAuth (s : State) : State :=
  let s := s.setF SEC_STATUS_BANK s.sec.selected
  match authBank s s.sec.selected with
  | 0 => s.updSec fun x => { x with bootStep := 3 }
  | k => stepFails s k 2 0

/-! ### Step 1 -/

/-- R348: SEC_NONCE drawn from the random source (log entry 2). -/
def newNonce (s : State) : State :=
  (List.range 4).foldl (fun s k => (s.wr (SEC_NONCE k) (s.freeVal.truncate 32)).drawn) s

/-- R351: the record of a life-cycle change, and source 93. -/
def lcRecord (s : State) (old new : Nat) : State := (s.record 0x0B 0x02 (256 * old + new) []).raiseAll 93

/-- R396: the store is set up at the first boot in MANUFACTURE, as by a clear without a token. -/
def recSetup (s : State) : State :=
  let s := (setClr s 0).setF REC_STATUS_FF_FULL 0
  let s := s.updRec fun r => { r with nextSeq := 0 }
  let ev := selfEvent s 0x03 0 (List.replicate 12 0 ++ [0xFF] ++ List.replicate 16 0)
  let s := (putRecord s.drawn ev).setF REC_LAP_LAP 0
  (s.setF REC_STATUS_ERASING 1).updRec fun r => { r with erasing := true }

/-- RECORDER_BOOT_SCAN and the start of the timebase (R45, R393); the BOOT record is the first. -/
def bootRecorder (s : State) (c : ResetCause) : State :=
  let torn := scanTorn s
  let s := setTimebase (bootScan s) (startT s)
  let s := if s.sec.lcBits = 0 then recSetup s else s
  let b := s.sec.selected
  s.record 0x0D 0x01 c.code (beBytes 1 b ++ norBytes s b 40 8 ++ beBytes 4 torn)

/-- The records held for the boot: WAKE_FAIL (R333), RESET_STUCK (R337). -/
def bootHeld (s : State) (c : ResetCause) : State :=
  let s := if s.pwr.failNews then
      { s with pwr := { s.pwr with failNews := false } }.record 0x0A 0x06 (256 * s.fv PWR_WAKE_STAT_FAIL_DOM + s.fv PWR_WAKE_STAT_FAIL_STEP) []
    else s
  if c = .rstNStuck then (s.record 0x0A 0x07 0 []).raiseAll 84 else s

/-- A BLANK module blows the MANUFACTURE pair (R350). -/
def bootBlank (s : State) : State :=
  if s.sec.lcBits = 0 then lcRecord (s.updSec fun x => { x with lcBits := 1 }) 0 1 else s

/-- The pad latch survives a wake from DORMANT only (R334). -/
def keepsPads (s : State) (c : ResetCause) : Bool := c = .wake || (c = .wakeRetry && s.pwr.waking = 2)

/-- What the power controller holds when a boot starts. -/
def bootPwr (s : State) (c : ResetCause) : State :=
  let pads := keepsPads s c
  let wake : Bool := c = .wake || c = .wakeRetry
  let s := { s with pwr := { s.pwr with
    power := .run, rstHeld := false, failHold := false, groups := [], failed := false, dead := false,
    waking := if wake then s.pwr.waking else 0, txLatch := if pads then s.pwr.txLatch else 0 } }
  let s := if pads then s else s.setF PWR_PAD_LATCHED 0
  accAdd (s.setF PWR_RESET_CAUSE c.code) (accReset c) 1

/-- The boot from reset release up to the lanes' loading. -/
def startBoot (s : State) (c : ResetCause) : State :=
  let s := bootPwr (coldState s .run true keptRegs) c
  let s := ringsFollow s true
  let s := bootHeld (bootRecorder s c) c
  let s := newNonce (bootBlank s)
  bootAuth (s.setF SEC_BOOT_BANK_TRIED s.sec.selected)

/-- A module reset: reset, then the boot; from DORMANT the boot alone. -/
def moduleReset (s : State) (c : ResetCause) : State := startBoot (if s.alive then enterReset s else s) c

/-- MODULE_RESET (R20): without power only POWER_ON starts the module. -/
def execModuleReset (cause : ResetCause) (s : State) : Host.Outcome State Fault Refusal :=
  .next (if s.pwr.power = .off ∧ cause ≠ .powerOn then s else moduleReset s cause)

/-! ### Step 4 and the end -/

/-- The boot ends in STANDBY: it takes effect at the next tick 0, with every lane STARTING (R73). -/
def bootStandby (s : State) : State :=
  let s := bootReport (showBoot s 0 0 0)
  s.updSec fun x => { x with bootStep := 0, started := true, nextMode := if s.mode = .boot then some .standby else x.nextMode }

/-- A plain thread starts at an address; one that runs already goes on. -/
def startThread (t : Thr) (pc : Nat) (s : State) : State :=
  if (s.thread t).run = .stopped then s.setThread t { ThreadSt.init with run := .running, pc := BitVec.ofNat 32 pc } else s

/-- The SYS threads and, unless the recovery service runs (R362), the management program. -/
def startThreads (bank : Nat) (s : State) : State :=
  let s := s.forLanes fun s l => startThread (.sys l) (s.sec.img.entries.getD 3 0) s
  startThread .mgmt (Config.setting (secBytes s bank 3) 100).toNat s

/-- The mode after a boot in which every step passed (R20, R350). -/
def bootPass (s : State) (bank : Nat) : State :=
  match lcState s with
  | 2 => bootStandby (startThreads bank s)
  | 3 => bootStandby (startThreads bank s)
  | 4 => bootEnd (startThreads bank s) 0 0 0
  | _ => bootEnd s 0x0C 4 0

/-- The image in force, as the registers show it. -/
def showImage (s : State) (bank : Nat) : State :=
  let s := (List.range 8).foldl (fun s k => s.wr (SEC_IMAGE_DIGEST k) (BitVec.ofNat 32 (norNum s bank (8 + 4 * k) 4))) s
  let s := (s.setF SEC_BUILD_HI_BUILD (norNum s bank 40 4)).setF SEC_BUILD_LO_BUILD (norNum s bank 44 4)
  let s := (s.setF SEC_VERSIONS_SCHEMA (norNum s bank 48 2)).setF SEC_VERSIONS_SEC_VERSION (norNum s bank 50 2)
  s.setB SEC_STATUS_START_MODE (natBit (norNum s bank 65 1) 2)

/-- BOOT_FIRST_COMMIT: load checks, shadows, the COMMIT checks at once. `rte`: what the route engines found. -/
def bootCommit (s : State) (bank : Nat) (rte : Option (Nat × Nat)) : State :=
  if rte.isSome then stepFails s 0x0A 4 0
  else if ¬ interfacesOk s bank then stepFails s 0x09 4 0
  else
    let s := bootConfirms (loadShadows (s.updSec fun x => { x with img := imageOf s bank }) bank) bank
    match firstBad (commitBads s s.shadow) with
    | some b => stepFails (commitFail s b (noConfirms s)) 0x0B 4 0
    | none => bootPass (showImage (commitTell (commitApply s s.shadow)) bank) bank

/-! ### Step 3 -/

/-- A lane reports a digest equal to IMAGE_DIGEST. -/
def reportsOk (s : State) (bank : Nat) (r : HmReport) : Bool := r = .own && laneDigest s bank = imageDigest s bank

def keysetKey : Lane → Nat
  | .a => SEC_KEYSET_A | .b => SEC_KEYSET_B | .c => SEC_KEYSET_C

/-- The code of a failure of step 3 with the lanes it names; code 0: it passes. -/
def hallmarkFail (s : State) (bank : Nat) (reps : PerLane HmReport) : Nat × Nat :=
  let bad := laneMask fun l => !reportsOk s bank (reps.get l)
  let ks := laneMask fun l => (s.lane l).keysetId.toNat ≠ norNum s bank 60 4
  if bad = 7 then (4, 0) else if bad ≠ 0 then (7, bad) else if ks ≠ 0 then (8, ks) else (0, 0)

/-- HALLMARK_AGREEMENT (R147, R360): each lane loads its sections, the digests and key sets are compared. RTE_LOAD_ERR shows the checks of
this load: 0 where none failed, also after an earlier image's failure (log entry 51). -/
def hallmark (s : State) (reps : PerLane HmReport) : State :=
  if s.sec.bootStep ≠ 3 then s
  else
    let bank := s.sec.selected
    let rte := rteLoadErr s bank
    let s := s.forLanes fun s l => match rte with
      | some (c, i) => (s.setF (RTE_LOAD_ERR_CODE l) c).setF (RTE_LOAD_ERR_INDEX l) i
      | none => (s.setF (RTE_LOAD_ERR_CODE l) 0).setF (RTE_LOAD_ERR_INDEX l) 0
    let s := s.forLanes fun s l => if reps.get l = .missing then s else s.wr (keysetKey l) (s.lane l).keysetId
    match hallmarkFail s bank reps with
    | (0, _) =>
      let s := s.forLanes (loadLane bank)
      bootCommit (if s.mode = .boot then loadMgmt s bank else s) bank rte
    | (k, m) => stepFails s k 3 m

def execHallmarkAgreement (reps : PerLane HmReport) (s : State) : Host.Outcome State Fault Refusal := .next (hallmark s reps)

end Sys2Proof.Machine
end

