-- ==== Sys2Proof/Machine/Assay.lean ====
section
/-!
DEFINITION. The rotating assay (R369 to R378), and the manual BIST (R379).

Readings and choices: log entries 41 (DESIGN CHOICE), 42 (DEDUCED).
-/

namespace Sys2Proof.Machine

/-! ### When a slice runs (R369, R370, R373) -/

/-- A lane runs slices (R370). -/
def laneRuns (s : State) (l : Lane) : Bool :=
  (s.lane l).powered && ((s.lane l).st = .starting || (s.lane l).st = .voting || (s.lane l).st = .shadow) &&
  (s.mode = .standby || s.mode = .active)

/-- The unit's rotation goes on at all: power state RUN (R369), no manual BIST. -/
def unitRuns (s : State) : AssayUnit → Bool
  | .sram l => s.pwr.power = .run && !s.fb AST_MAN_STAT_BUSY && laneRuns s l
  | .logic l => s.pwr.power = .run && !s.fb AST_MAN_STAT_BUSY && laneRuns s l
  | .ix l => s.pwr.power = .run && !s.fb AST_MAN_STAT_BUSY && laneRuns s l
  | .fx => s.pwr.power = .run && !s.fb AST_MAN_STAT_BUSY

/-- Time of a start: E, or E and the tick in IX. -/
def assayStamp (s : State) : AssayUnit → Nat
  | .ix _ => 20 * s.E + s.time.tick
  | _ => s.E

/-- The interval between starts. -/
def assayInterval (s : State) : AssayUnit → Nat
  | .sram l => s.fv (AST_LANE_CTRL_SRAM_INT_M1 l) + 1
  | .logic l => s.fv (AST_LANE_CTRL_LOGIC_INT_M1 l) + 1
  | .ix _ => 1
  | .fx => s.fv AST_CTRL_FX_INT_M1 + 1

/-- The interval has passed since the last slice started; an E set back counts as passed. -/
def assayDue (s : State) (u : AssayUnit) : Bool :=
  match (s.asy u).lastE with
  | some e => decide (e + assayInterval s u ≤ assayStamp s u) || decide (assayStamp s u < e)
  | none => true

/-- The next item: NEXT. -/
def assayNext (s : State) : AssayUnit → Nat
  | .sram l => s.fv (AST_LANE_ITEM_SRAM_NEXT l)
  | .logic l => s.fv (AST_LANE_ITEM_LOGIC_NEXT l)
  | .ix l => s.fv (AST_LANE_ITEM_IX_NEXT l)
  | .fx => s.fv AST_STATUS_FX_NEXT

def setNext (s : State) (u : AssayUnit) (i : Nat) : State :=
  match u with
  | .sram l => s.setF (AST_LANE_ITEM_SRAM_NEXT l) i
  | .logic l => s.setF (AST_LANE_ITEM_LOGIC_NEXT l) i
  | .ix l => s.setF (AST_LANE_ITEM_IX_NEXT l) i
  | .fx => s.setF AST_STATUS_FX_NEXT i

def setProg (s : State) (u : AssayUnit) (p : Nat) : State :=
  match u with
  | .sram l => s.setF (AST_LANE_STATUS_SRAM_PROG l) p
  | .logic l => s.setF (AST_LANE_STATUS_LOGIC_PROG l) p
  | .ix l => s.setF (AST_LANE_STATUS_IX_PROG l) p
  | .fx => s.setF AST_STATUS_FX_PROG p

/-- The tick in which an item runs. -/
def assayTick (u : AssayUnit) (i tick : Nat) : Bool :=
  match u with
  | .sram _ => tick = 18
  | .logic _ => tick = 19
  | .ix _ => tick = 18 || tick = 19
  | .fx => if i < 384 then tick = 18 else tick = 19

/-- The channel (0 to 47) of a comparator item, or the network of a gate item: 0 to 23 a channel's, 24 and 25 a group's (R373). -/
def ixChannel (i : Nat) : Nat := if i < 48 then i else (i - 48) / 2

/-- What defers an IX item (R373): its channel's or network's test pulse in this tick, an energised network with fewer than three lanes VOTING,
another lane's item at the same channel or network. -/
def ixDeferred (s : State) (l : Lane) (i : Nat) : Bool :=
  let k := ixItem l i
  let c := ixChannel k
  let pulse := decide (c < 24) && (pulseDue s c || (inSlot s c && Store.get (fun _ => none) s.ix.lastTest c = some s.E) ||
    (match s.ix.pulse with | some p => p.ch = c | none => false))
  let few := decide (48 ≤ k) && conducts s c && decide (s.voting.length < 3)
  let same := (otherLanes l).any fun m => match (s.asy (.ix m)).running with | some j => ixChannel (ixItem m j) = c | none => false
  pulse || few || same

/-- A due slice cannot run: the BIST controller prepares for a power-state entry (R325), or its item is deferred (R373). -/
def deferred (s : State) (u : AssayUnit) : Bool :=
  s.prepared 6 || (match u with | .ix l => ixDeferred s l (assayNext s u) | _ => false)

/-- AST_LANE_STATUS.DEFERRED shows a waiting slice of any of the lane's rotations. -/
def showWaits (s : State) (l : Lane) : State :=
  s.setB (AST_LANE_STATUS_DEFERRED l) ((laneUnits l).any fun u => (s.asy u).waits)

def waitsOf (s : State) (u : AssayUnit) (w : Bool) : State :=
  let s := s.updAsy u fun x => { x with waits := w }
  match u with
  | .sram l => if w then (showWaits s l).incF (AST_LANE_CNT_DEFERRED l) else showWaits s l
  | .logic l => if w then (showWaits s l).incF (AST_LANE_CNT_DEFERRED l) else showWaits s l
  | .ix l => if w then (showWaits s l).incF (AST_LANE_CNT_DEFERRED l) else showWaits s l
  | .fx => s

/-- The network of a gate item conducts at its start. -/
def itemOn (s : State) (u : AssayUnit) (i : Nat) : Bool :=
  match u with
  | .ix l => decide (48 ≤ ixItem l i) && conducts s (ixChannel (ixItem l i))
  | _ => false

/-! ### The rotation (R375) -/

/-- The item after i; none: the rotation is complete. Items 384 + k of FX are the idle SerDes k (R374). -/
def itemAfter (s : State) (u : AssayUnit) (i : Nat) : Option Nat :=
  match u with
  | .fx => if i + 1 < 384 then some (i + 1) else
      ((List.range 20).find? fun k => decide (i + 1 ≤ 384 + k) && serdesIdle s k).map (384 + ·)
  | _ => if i + 1 < assayTotal s u then some (i + 1) else none

def showProg (s : State) (u : AssayUnit) : State := setProg s u (min 100 ((s.asy u).passed * 100 / assayTotal s u))

/-- The rotation passes item i: on to the next, or complete (source 101, record) and from item 0 again. -/
def advanceItem (s : State) (u : AssayUnit) (i : Nat) : State :=
  match itemAfter s u i with
  | some j => showProg (setNext s u j) u
  | none =>
    let s := showProg (setNext (s.updAsy u fun x => { x with passed := 0 }) u 0) u
    assayRecord (s.raiseAll 101) u i 3 ((List.range 4).map fun n => s.rd (resultKey u n))

/-- A SerDes that is idle no more is no item: the rotation passes it. -/
def skipBusy (s : State) : State :=
  let i := s.fv AST_STATUS_FX_NEXT
  if 384 ≤ i ∧ ¬ serdesIdle s (i - 384) then advanceItem s .fx i else s

/-- ASSAY_SLICE_START. -/
def sliceStart (s0 : State) (u : AssayUnit) : State :=
  let s := if u = .fx then skipBusy s0 else s0
  let i := assayNext s u
  if unitRuns s u ∧ (s.asy u).running = none ∧ assayTick u i s.time.tick ∧ assayDue s u then
    if deferred s u then waitsOf s u true
    else
      let on := itemOn s u i
      let stamp := assayStamp s u
      (waitsOf s u false).updAsy u fun x => { x with running := some i, wasOn := on, lastE := some stamp }
  else s0

def execAssaySliceStart (u : AssayUnit) (s : State) : Host.Outcome State Fault Refusal := .next (sliceStart s u)

/-! ### The end of a slice (R376 to R378) -/

/-- PASS: patterns and signature equal the ROM's; a SerDes passes with zero errors (R374, R377). -/
def slicePass (u : AssayUnit) (i : Nat) (o : SliceOut) : Bool :=
  let t := assayTarget u i
  o.patterns = Config.romPatterns t (assayItem u i) &&
  o.signature = (if t = 6 then 0 else Config.romSignature t (assayItem u i))

/-- The FX memory of a segment: 0 bridge buffer, 1 MMEM, 2 the others (R374). -/
def fxMemory (i : Nat) : Nat := if i < 256 then 0 else if i < 320 then 1 else 2

/-- The reaction to a FAIL (R378). -/
def failReaction (s : State) (u : AssayUnit) (i : Nat) : State :=
  match u with
  | .sram l => withdraw s l .assayFail
  | .logic l => withdraw s l .assayFail
  | .ix l =>
    let c := ixChannel (ixItem l i)
    let by3 := 2 ^ l.num
    if 48 ≤ ixItem l i ∧ 24 ≤ c then openGroups ((ioFault s 0x06 (grpChannel (c - 24)) 0 by3).raiseAll 34) 7 (c - 24)
    else discrepant s c by3
  | .fx =>
    if i < 384 then { s with fxSpare := natSetBit s.fxSpare (fxMemory i) true }
    else s.setF AST_SERDES_FAIL (natSetBit (s.fv AST_SERDES_FAIL) (i - 384) true)

/-- A SerDes that passes its last loopback shows no FAIL. -/
def serdesPassed (s : State) (u : AssayUnit) (i : Nat) : State :=
  if u = .fx ∧ 384 ≤ i then s.setF AST_SERDES_FAIL (natSetBit (s.fv AST_SERDES_FAIL) (i - 384) false) else s

/-- The lane whose SRAM a slice copies. -/
def sramLane : AssayUnit → Option Lane
  | .sram l => some l
  | _ => none

/-- A completed slice: PASS or FAIL. -/
def sliceDone (s : State) (u : AssayUnit) (i : Nat) (o : SliceOut) : State :=
  let pass := slicePass u i o
  let ws := resultWords s u i ⟨if pass then 1 else 2, false, 0, o.signature, o.patterns, o.us⟩
  let s := putResult s u ws
  if pass then advanceItem (serdesPassed (s.updAsy u fun x => { x with passed := x.passed + 1 }) u i) u i
  else failReaction (advanceItem (assayRecord (assaySource s u) u i 1 ws) u i) u i

/-- ASSAY_SLICE_END: an uncorrectable error in a copy of lane SRAM withdraws the lane, which ends the slice INCOMPLETE (R371). -/
def sliceEnd (s : State) (u : AssayUnit) (o : SliceOut) : State :=
  match (s.asy u).running with
  | none => s
  | some i =>
    match (if o.ecc then sramLane u else none) with
    | some l => withdraw s l .eccUncorr
    | none => sliceDone s u i o

def execAssaySliceEnd (u : AssayUnit) (o : SliceOut) (s : State) : Host.Outcome State Fault Refusal := .next (sliceEnd s u o)

/-- ASSAY_ROTATION_LATE: 6 h, 6 h, 10 s or 8 h have passed since the rotation began (R375). -/
def rotationLate (s : State) (u : AssayUnit) : State :=
  let s := match u with
    | .sram l => s.setF (AST_LANE_STATUS_SRAM_LATE l) 1
    | .logic l => s.setF (AST_LANE_STATUS_LOGIC_LATE l) 1
    | .ix l => s.setF (AST_LANE_STATUS_IX_LATE l) 1
    | .fx => s.setF AST_STATUS_FX_LATE 1
  assayRecord (s.raiseAll 102) u (assayNext s u) 4 ((List.range 4).map fun n => s.rd (resultKey u n))

def execAssayRotationLate (u : AssayUnit) (s : State) : Host.Outcome State Fault Refusal :=
  .next (if s.pwr.power = .run then rotationLate s u else s)

/-! ### Manual BIST (R379) -/

/-- AST_STATUS.MAN_OK: MANUFACTURE, COMMISSION or SERVICE, in CONFIG_HOLD or SERVICE. -/
def manOk (s : State) : Bool :=
  (lcState s = 1 || lcState s = 2 || lcState s = 4) && (s.mode = .configHold || s.mode = .service) && s.pwr.power = .run

/-- Every thread stops: its memories and its logic are under test. -/
def stopThreads (s : State) : State :=
  let s := s.forLanes fun s l => (s.updThread (.safe l) fun t => { t with run := .stopped }).updThread (.sys l) fun t => { t with run := .stopped }
  s.updThread .mgmt fun t => { t with run := .stopped }

/-- MANUAL_BIST_START. -/
def manualStart (s : State) : State :=
  if s.fb AST_MAN_STAT_BUSY ∨ s.pwr.power ≠ .run then s
  else if manOk s then stopThreads ((cutAll s 4).setF AST_MAN_STAT_BUSY 1)
  else (s.incF AST_MAN_STAT_REFUSED).record 0x0C 0x05 0 []

def execManualBistStart (s : State) : Host.Outcome State Fault Refusal := .next (manualStart s)

/-- MANUAL_BIST_END: the result, kept in PD_AON, then a module reset with cause MGT_RESTART. -/
def manualEnd (s : State) (ok : Bool) (die : BitVec 3) : State :=
  if s.fb AST_MAN_STAT_BUSY then
    let s := (s.setF AST_MAN_STAT_RESULT (if ok then 1 else 2)).setF AST_MAN_STAT_FAIL_DIE (if ok then 0 else die.toNat)
    moduleReset (s.raiseAll 103) .mgtRestart
  else s

def execManualBistEnd (ok : Bool) (die : BitVec 3) (s : State) : Host.Outcome State Fault Refusal := .next (manualEnd s ok die)

end Sys2Proof.Machine
end

