-- ==== Sys2Proof/Machine/Cvu.lean ====
section
/-!
DEFINITION. The check-value units (R383 to R386): the algorithms, feeding, scans. Unit u of a lane belongs to Engine.lane, a unit of FX to
Engine.mgmt.

Readings and choices: log entries 2 (DESIGN CHOICE), 43 (DESIGN CHOICE).
-/

namespace Sys2Proof.Machine

/-! ### The algorithms (R383) -/

def cvuWidth (poly : Nat) : Nat := if poly = 2 then 16 else if poly = 3 then 64 else 32

def cvuInit (poly : Nat) : Nat := if poly = 3 then 0 else 2 ^ cvuWidth poly - 1

def cvuXor (poly : Nat) : Nat := if poly < 2 then 0xFFFFFFFF else 0

/-- One byte through the running value. -/
def cvuByte (poly run : Nat) (b : Byte) : Nat :=
  match poly with
  | 0 => crcByteRefl 0xEDB88320 run b
  | 1 => crcByteRefl 0x82F63B78 run b
  | 2 => crcByteMsb 16 0x1021 run b
  | _ => crcByteMsb 64 0x42F0E1EBA9EA3693 run b

/-- The running value after bytes. -/
def cvuFeed (poly run : Nat) (bs : List Byte) : Nat := bs.foldl (cvuByte poly) run

/-! ### The unit's registers (R384) -/

def cvuPoly (s : State) (e : Engine) (u : Nat) : Nat := s.fv (CVU_CTRL_POLY e u)

/-- The running value under the present POLY: bits above its width read 0. -/
def cvuRun (s : State) (e : Engine) (u : Nat) : Nat :=
  (s.fv (CVU_RUN_HI_RUN_HI e u) * 2 ^ 32 + s.fv (CVU_RUN_LO_RUN_LO e u)) % 2 ^ cvuWidth (cvuPoly s e u)

/-- Write the running value; bits above the width keep what they hold. -/
def setRun (s : State) (e : Engine) (u v : Nat) : State :=
  let w := cvuWidth (cvuPoly s e u)
  let old := s.fv (CVU_RUN_HI_RUN_HI e u) * 2 ^ 32 + s.fv (CVU_RUN_LO_RUN_LO e u)
  let new := old / 2 ^ w * 2 ^ w + v % 2 ^ w
  (s.setF (CVU_RUN_LO_RUN_LO e u) (new % 2 ^ 32)).setF (CVU_RUN_HI_RUN_HI e u) (new / 2 ^ 32)

/-- CVU_RESULT: the running value XOR the final XOR. -/
def cvuResult (s : State) (e : Engine) (u : Nat) : Nat := Nat.xor (cvuRun s e u) (cvuXor (cvuPoly s e u))

/-- The unit is powered and clocked (R17, R410). -/
def cvuOn (s : State) : Engine → Bool
  | .lane l => s.alive && (s.lane l).powered
  | .mgmt => s.pwr.power = .run

/-- A write ignored while a scan runs. -/
def ctxErr (s : State) (e : Engine) (u : Nat) : State := s.setF (CVU_STAT_CTX_ERR e u) 1

/-- A write to the unit other than CVU_CTRL: ignored with CTX_ERR while a scan runs. -/
def unlessRun (s : State) (e : Engine) (u : Nat) (f : State → State) : State :=
  if ¬ cvuOn s e then s else if s.fb (CVU_CTRL_RUN e u) then ctxErr s e u else f s

/-- CVU_DATA_W and CVU_DATA_B. -/
def cvuData (s : State) (e : Engine) (u : Nat) (bs : List Byte) : State :=
  unlessRun s e u fun s => setRun s e u (cvuFeed (cvuPoly s e u) (cvuRun s e u) bs)

/-- The source of a scan's end: 18 in a lane, 24 + u in the management controller. -/
def cvuSource (s : State) (e : Engine) (u : Nat) : State :=
  match e with
  | .lane l => s.raise (.lane l) 18
  | .mgmt => s.raise .mgmt (24 + u)

/-! ### What a scan reads (R385) -/

/-- A byte of MRAM: the recorder store, then the system region, whose layout is not given (log entry 2). -/
def mramByte (s : State) (a : Nat) : Byte :=
  if a < 2 ^ 27 then (recSlot s (a / 64)).getD (a % 64) 0 else Config.mramSystem (a - 2 ^ 27)

/-- The byte at an address of the scan's memory. -/
def scanByte (s : State) (e : Engine) (space a : Nat) : Byte :=
  match e with
  | .lane l => memRead (s.lane l).mem a
  | .mgmt =>
    match space with
    | 0 => memRead s.mmem a
    | 1 => Store.get norDefault s.sec.nor (norKey 0 a)
    | 2 => Store.get norDefault s.sec.nor (norKey 1 a)
    | _ => mramByte s a

def scanBytes (s : State) (e : Engine) (u n : Nat) : List Byte :=
  let a := s.fv (CVU_START_START e u)
  let sp := s.fv (CVU_CTRL_SPACE e u)
  (List.range n).map fun k => scanByte s e sp (a + k)

/-- Both ends of a lane's scan lie in one of PMEM, OMEM, CMX and LMEM. -/
def laneScanOk (s : State) (l : Lane) (a n : Nat) : Bool :=
  let mem := fun t => t = Target.pmem || t = .omem || t = .cmx || t = .lmemSafe || t = .lmemSys
  let isL := fun t => t = Target.lmemSafe || t = .lmemSys
  let t0 := laneTarget s l a
  let t1 := laneTarget s l (a + n - 1)
  mem t0 && (t0 = t1 || (isL t0 && isL t1))

/-- The range lies within descriptor RGN and within the device. -/
def scanRangeOk (s : State) (e : Engine) (u : Nat) : Bool :=
  let a := s.fv (CVU_START_START e u)
  let n := s.fv (CVU_LEN_LENGTH e u)
  let r := s.fv (CVU_CTRL_RGN e u)
  let inRgn := fun t => rgnR s t r && decide (rgnBase s t r ≤ a) && decide (a + n - 1 ≤ rgnLast s t r + 7)
  match e with
  | .lane l => inRgn (.sys l) && laneScanOk s l a n
  | .mgmt =>
    match s.fv (CVU_CTRL_SPACE e u) with
    | 0 => inRgn .mgmt && decide (a + n ≤ 0x100000)
    | 3 => decide (a + n ≤ 2 ^ 27 + 2 ^ 24)
    | _ => decide (a + n ≤ 2 ^ 28)

/-! ### Scans (R385, R386) -/

/-- The scan has taken n bytes. -/
def scanTake (s : State) (e : Engine) (u n : Nat) : State :=
  let s' := setRun s e u (cvuFeed (cvuPoly s e u) (cvuRun s e u) (scanBytes s e u n))
  (s'.setF (CVU_START_START e u) (s.fv (CVU_START_START e u) + n)).setF (CVU_LEN_LENGTH e u) (s.fv (CVU_LEN_LENGTH e u) - n)

/-- Completion. -/
def scanComplete (s : State) (e : Engine) (u : Nat) : State :=
  let s := (scanTake s e u (s.fv (CVU_LEN_LENGTH e u))).setF (CVU_CTRL_RUN e u) 0
  cvuSource (s.setF (CVU_STAT_DONE e u) 1) e u

/-- Error: ERR and the same source. -/
def scanError (s : State) (e : Engine) (u : Nat) : State :=
  cvuSource ((s.setF (CVU_CTRL_RUN e u) 0).setF (CVU_STAT_ERR e u) 1) e u

/-- Abort with n bytes taken; completion in the same cycle wins. -/
def scanAbort (s : State) (e : Engine) (u n : Nat) : State :=
  if s.fv (CVU_LEN_LENGTH e u) ≤ n then scanComplete s e u
  else ((scanTake s e u n).setF (CVU_CTRL_RUN e u) 0).setF (CVU_STAT_ABORTED e u) 1

/-- RUN written 1: LENGTH 0 completes at once; a bad range starts nothing and is a bounds fault of a lane's SYS thread, whose OST (0x39)
wrote it. -/
def scanStart (s : State) (e : Engine) (u : Nat) : State :=
  if s.fv (CVU_LEN_LENGTH e u) = 0 then scanComplete s e u
  else if scanRangeOk s e u then s.setF (CVU_CTRL_RUN e u) 1
  else
    let a := s.rd (CVU_START e u)
    let s := scanError s e u
    match e with
    | .lane l => plainFault s (.lane l) .bounds 0x39 a
    | .mgmt => s

/-- How far a running scan has come is open (log entry 2). -/
def scanPoint (s : State) (e : Engine) (u : Nat) : Nat := s.freeVal.toNat % (s.fv (CVU_LEN_LENGTH e u) + 1)

/-- A write to CVU_CTRL. -/
def cvuCtrlWrite (s : State) (e : Engine) (u : Nat) (w : Word) : State :=
  if ¬ cvuOn s e then s
  else if s.fb (CVU_CTRL_RUN e u) then
    if natBit w.toNat 30 then scanAbort s.drawn e u (scanPoint s e u) else ctxErr s e u
  else if natBit w.toNat 30 then s
  else
    let s := (s.setF (CVU_CTRL_POLY e u) (getBits w 1 0)).setF (CVU_CTRL_RGN e u) (getBits w 23 20)
    let s := if e = .mgmt then s.setF (CVU_CTRL_SPACE e u) (getBits w 25 24) else s
    let s := if natBit w.toNat 29 then setRun s e u (cvuInit (getBits w 1 0)) else s
    if natBit w.toNat 31 then scanStart s e u else s

/-- CVU_SCAN_START: a CVU_CTRL write whose RUN is 1. -/
def execCvuScanStart (e : Engine) (u : BitVec 2) (w : Word) (s : State) : Host.Outcome State Fault Refusal :=
  .next (cvuCtrlWrite s e u.toNat (w ||| 0x80000000#32))

/-- CVU_INIT: a CVU_CTRL write whose INIT is 1. -/
def execCvuInit (e : Engine) (u : BitVec 2) (w : Word) (s : State) : Host.Outcome State Fault Refusal :=
  .next (cvuCtrlWrite s e u.toNat (w ||| 0x20000000#32))

/-- CVU_ABORT: a CVU_CTRL write whose ABORT is 1, with the scan n bytes on. -/
def execCvuAbort (e : Engine) (u : BitVec 2) (n : Nat) (s : State) : Host.Outcome State Fault Refusal :=
  .next (if cvuOn s e ∧ s.fb (CVU_CTRL_RUN e u.toNat) then scanAbort s e u.toNat n else s)

/-- CVU_DATA_W: four bytes, [31:24] first. -/
def execCvuDataW (e : Engine) (u : BitVec 2) (w : Word) (s : State) : Host.Outcome State Fault Refusal :=
  .next (cvuData s e u.toNat (beBytes 4 w.toNat))

/-- CVU_DATA_B: one byte. -/
def execCvuDataB (e : Engine) (u : BitVec 2) (b : BitVec 8) (s : State) : Host.Outcome State Fault Refusal :=
  .next (cvuData s e u.toNat [b])

/-- The scan ends: complete, or at an uncorrectable error, which withdraws a lane (R385). -/
def cvuScanEnd (s : State) (e : Engine) (u : Nat) (ecc : Bool) : State :=
  if ¬ (cvuOn s e ∧ s.fb (CVU_CTRL_RUN e u)) then s
  else if ecc then
    let s := scanError (scanTake s.drawn e u (scanPoint s e u)) e u
    match e with
    | .lane l => withdraw s l .eccUncorr
    | .mgmt => s
  else scanComplete s e u

def execCvuScanEnd (e : Engine) (u : BitVec 2) (ecc : Bool) (s : State) : Host.Outcome State Fault Refusal :=
  .next (cvuScanEnd s e u.toNat ecc)

end Sys2Proof.Machine
end

