-- ==== Sys2Proof/Machine/Mailbox.lean ====
section
/-!
DEFINITION. The mailboxes between the lanes and the management engine (R95 to R97).

Readings and choices: log entry 40 (DEDUCED).
-/

namespace Sys2Proof.Machine

def State.mbox (s : State) (l : Lane) : Mbx := s.mbx.get l

def State.setMbox (s : State) (l : Lane) (m : Mbx) : State := { s with mbx := s.mbx.set l m }

/-- The message a POST makes: LEN staging words, a length above 16 taken as 16 (R96). -/
def stagedMsg (st : Store Word) (len : Nat) : List Word := Store.getList (fun _ => 0) st 0 (min 16 len)

/-- UP: the lane posts to the management engine. -/
def mbxUpPost (s : State) (l : Lane) (len : Nat) : State :=
  let m := s.mbox l
  if len = 0 then s
  else if 8 ≤ m.upQ.length then s.setMbox l { m with upOvf := true }
  else (s.setMbox l { m with upQ := m.upQ ++ [stagedMsg m.upStage len] }).raise .mgmt (13 + l.num)

/-- The management thread discards the UP head; a slot freed in a full queue raises the lane's space source. -/
def mbxUpPop (s : State) (l : Lane) : State :=
  let m := s.mbox l
  let s' := s.setMbox l { m with upQ := m.upQ.tail }
  if m.upQ.length = 8 then s'.raise (.lane l) 15 else s'

/-- DN: the management thread posts to the lane. -/
def mbxDnPost (s : State) (l : Lane) (len : Nat) : State :=
  let m := s.mbox l
  if len = 0 then s
  else if 8 ≤ m.dnQ.length then s.setMbox l { m with dnOvf := true }
  else (s.setMbox l { m with dnQ := m.dnQ ++ [stagedMsg m.dnStage len] }).raise (.lane l) 14

def mbxDnPop (s : State) (l : Lane) : State :=
  let m := s.mbox l
  let s' := s.setMbox l { m with dnQ := m.dnQ.tail }
  if m.dnQ.length = 8 then s'.raise .mgmt 23 else s'

/-- A write to the mailbox of a lane without power is an offline access: logged (R336), and the fault of the thread whose OST (0x39) it is
(R93), where that thread runs. -/
def mbxGuard (s : State) (l : Lane) (t : Thr) (a : Nat) (f : State → State) : State :=
  if ¬ s.alive then s
  else if (s.lane l).powered then f s
  else if (s.thread t).run = .running then deliverFault (accErr s (.thr t) a true) t .offline 0x39 (BitVec.ofNat 32 a)
  else s

def execLaneMbxUpPost (l : Lane) (len : BitVec 5) (s : State) : Host.Outcome State Fault Refusal :=
  .next (mbxGuard s l (.sys l) (LANE_MBX_UP_POST l.num) fun s => mbxUpPost s l len.toNat)

def execLaneMbxUpPop (l : Lane) (s : State) : Host.Outcome State Fault Refusal :=
  .next (mbxGuard s l .mgmt (LANE_MBX_UP_POP l.num) fun s => mbxUpPop s l)

def execLaneMbxDnPost (l : Lane) (len : BitVec 5) (s : State) : Host.Outcome State Fault Refusal :=
  .next (mbxGuard s l .mgmt (LANE_MBX_DN_POST l.num) fun s => mbxDnPost s l len.toNat)

def execLaneMbxDnPop (l : Lane) (s : State) : Host.Outcome State Fault Refusal :=
  .next (mbxGuard s l (.sys l) (LANE_MBX_DN_POP l.num) fun s => mbxDnPop s l)

end Sys2Proof.Machine
end

