-- ==== Sys2Proof/Machine/PervoFlow.lean ====
section
/-!
DEFINITION. Control flow (R130, R131) and the system instructions (R101, R104, R132).

Readings and choices: log entries 2 (DESIGN CHOICE), 15 (DESIGN CHOICE), 50 (DEDUCED).
-/

namespace Sys2Proof.Machine

/-- Branch target: the address of the branch plus 8 × IMM, IMM signed (R130); the product wraps in 32 bits. -/
def branchTo (s : State) (op : PervoOp) : Word := (s.thread op.thr).pc + 8 * op.imm

/-- No operand field used (R107). -/
def noFields (op : PervoOp) : Bool := op.d = 0 && op.s1 = 0 && op.s2 = 0 && op.x = 0

def execNop (op : PervoOp) (s : State) : Host.Outcome State Fault Refusal :=
  .next (issue op 0x01 (!noFields op || op.imm ≠ 0) none [] (fun s => .done s) s)

def execBr (op : PervoOp) (s : State) : Host.Outcome State Fault Refusal :=
  .next (issue op 0x08 (!noFields op) none [] (fun s => .jump s (branchTo s op)) s)

/-- X[0] = 0 branches if the predicate is 1, X[0] = 1 if it is 0. -/
def execBrp (op : PervoOp) (s : State) : Host.Outcome State Fault Refusal :=
  .next (issue op 0x09 (op.d ≠ 0 || op.s2 ≠ 0 || xBits op 8 1 ≠ 0 || decide (16 ≤ op.s1.toNat)) none
    [⟨true, op.s1.toNat⟩]
    (fun s => if s.pred op.thr ⟨true, op.s1.toNat⟩ ≠ op.x.getLsbD 0 then .jump s (branchTo s op) else .done s) s)

/-- The return stack holds 32 addresses; a CALL that would be the 33rd is a bounds fault. -/
def execCall (op : PervoOp) (s : State) : Host.Outcome State Fault Refusal :=
  .next (issue op 0x0A (!noFields op) none []
    (fun s =>
      let t := s.thread op.thr
      if 32 ≤ t.rstack.length then .fail s .bounds 0
      else .jump (s.setThread op.thr { t with rstack := (t.pc + 8) :: t.rstack }) (branchTo s op)) s)

def execRet (op : PervoOp) (s : State) : Host.Outcome State Fault Refusal :=
  .next (issue op 0x0B (!noFields op || op.imm ≠ 0) none []
    (fun s =>
      let t := s.thread op.thr
      match t.rstack with
      | [] => .fail s .bounds 0
      | a :: r => .jump (s.setThread op.thr { t with rstack := r }) a) s)

/-- Every earlier access of the thread is complete, since each command is whole (95); SAFE issues nothing more until the
next tick 0 strobe (R34, R131). -/
def execEpochend (op : PervoOp) (s : State) : Host.Outcome State Fault Refusal :=
  .next (issue op 0x0C (!noFields op || op.imm ≠ 0) (if op.thr.isSafe then none else some .prot) []
    (fun s => .done (s.updThread op.thr fun t => { t with run := .ended })) s)

/-- Withdrawal HALT in SAFE, source 4 elsewhere (R93). -/
def execHalt (op : PervoOp) (s : State) : Host.Outcome State Fault Refusal :=
  .next (issue op 0x0D (!noFields op || op.imm ≠ 0) none [] (fun s => .fail s .halt 0) s)

/-- Nothing is outstanding between commands (95), so FENCE retires at once (R131). -/
def execFence (op : PervoOp) (s : State) : Host.Outcome State Fault Refusal :=
  .next (issue op 0x0E (!noFields op || op.imm ≠ 0) none [] (fun s => .done s) s)

/-! ### Control and status registers (R132, R406) -/

/-- A CS number defined for the engine (R406): the safe descriptors only in a lane engine. -/
def csDefined (e : Engine) (n : Nat) : Bool :=
  decide (n ≤ 8) || (decide (0x10 ≤ n) && decide (n < 0x30)) ||
  (match e with
   | .lane _ => decide (0x30 ≤ n) && decide (n < 0x50)
   | .mgmt => false)

/-- The cycle count of an engine is open between commands: a read draws it, and latches its high half (log entry 2). -/
def csLatchKey (e : Engine) : Nat := csKey e + 7

/-- The value CSRR reads, and the state after the read (RC fields clear, R6). -/
def csRead (s : State) (e : Engine) (n : Nat) : Word × State :=
  let k := csKey e + n
  match n with
  | 1 => (setBits (s.rd k) 0 0 (b2n (s.thread e.thr).handler), s.setF (CS_STATUS_RESTARTS e) 0)
  | 6 =>
    let c := s.freeVal
    (c.truncate 32, { s.drawn with latch := Store.put (fun _ => none) s.latch (csLatchKey e) (some (BitVec.ofNat 32 (c.toNat / 4294967296))) })
  | 7 =>
    match Store.get (fun _ => none) s.latch (csLatchKey e) with
    | some w => (w, { s with latch := Store.put (fun _ => none) s.latch (csLatchKey e) none })
    | none => (BitVec.ofNat 32 (s.freeVal.toNat / 4294967296), s.drawn)
  | _ => (s.rd k, s.wr k (s.rd k &&& ~~~ (accOf k).rc))

/-- CSRW writes the RW bits only (R6, R132). -/
def csWrite (s : State) (e : Engine) (n : Nat) (w : Word) : State :=
  let k := csKey e + n
  s.wr k ((s.rd k &&& ~~~ (accOf k).rw) ||| (w &&& (accOf k).rw))

def execCsrr (op : PervoOp) (s : State) : Host.Outcome State Fault Refusal :=
  .next (issue op 0x60 (op.s1 ≠ 0 || op.s2 ≠ 0 || op.x ≠ 0 || immBits op 31 12 ≠ 0 ||
      !csDefined op.thr.engine (immBits op 11 0)) (notSafe op.thr) []
    (fun s =>
      let r := csRead s op.thr.engine (immBits op 11 0)
      .done (writePlain r.2 op.thr ⟨false, op.d.toNat⟩ (mkWord r.1.toNat 0))) s)

def execCsrw (op : PervoOp) (s : State) : Host.Outcome State Fault Refusal :=
  .next (issue op 0x61 (op.d ≠ 0 || op.s2 ≠ 0 || op.x ≠ 0 || immBits op 31 12 ≠ 0 ||
      !csDefined op.thr.engine (immBits op 11 0)) (notSafe op.thr) []
    (fun s => .done (csWrite s op.thr.engine (immBits op 11 0)
      (BitVec.ofNat 32 (s.val op.thr ⟨false, op.s1.toNat⟩)))) s)

/-- Raises source 5; CS_EPC is the address after it (R93). -/
def execSyscall (op : PervoOp) (s : State) : Host.Outcome State Fault Refusal :=
  .next (issue op 0x62 (!noFields op) (notSafe op.thr) [] (fun s => .fail s .syscall 0) s)

/-- The exit sequence (R101): a handler entered by tail-chaining with CS_EPC kept, or the return to CS_EPC. -/
def iretExit (s : State) (e : Engine) (bad : Bool) : State :=
  match s.lowestEligible e with
  | some n => entrySequence ((selectSource s e n).incF (PIC_STATUS_TAILCHAIN_CNT e)) e n bad
  | none => s.updThread e.thr fun t => { t with handler := false, pc := BitVec.ofNat 32 (s.fv (CS_EPC_EPC e)) }

/-- IRET outside a handler is an undefined encoding (R115). Its return address is fetched under the rules of any fetch (R116). -/
def execIret (op : PervoOp) (s : State) : Host.Outcome State Fault Refusal :=
  .next (
    let t := s.thread op.thr
    let e := op.thr.engine
    let und := op.other.isSome || !noFields op || op.imm ≠ 0 || !t.handler
    if t.run ≠ .running then s
    else if op.thr.isSafe ∨ und ∨ op.ecc = .fetchUncorr ∨ ¬ fetchOk e t.pc then
      issue op 0x63 und (notSafe op.thr) [] (fun s => .done s) s
    else
      let s := iretExit (if op.ecc = .corrected then eccCorrected s e else s) e (op.ecc = .dataUncorr)
      let t := s.thread op.thr
      if t.run = .running ∧ ¬ t.handler ∧ ¬ fetchOk e t.pc then deliverFault s op.thr .bounds 0x63 0 else s)

/-- Stops issue at the instruction after it (R104); WAITI_WAKE resumes it. -/
def execWaiti (op : PervoOp) (s : State) : Host.Outcome State Fault Refusal :=
  .next (issue op 0x64 (!noFields op || op.imm ≠ 0) (notSafe op.thr) []
    (fun s => .done (s.updThread op.thr fun t => { t with run := .waiting })) s)

/-- A waiting thread resumes (R104): in normal flow it enters the handler of an eligible source, or continues where only GDIS
holds the source back; in a handler it continues. -/
def execWaitiWake (e : Engine) (s : State) : Host.Outcome State Fault Refusal :=
  .next (
    let t := s.thread e.thr
    let go := s.updThread e.thr fun t => { t with run := .running }
    if t.run ≠ .waiting then s
    else if t.handler then (if s.readyAny e then go else s)
    else match s.lowestEligible e with
      | some n => enterHandler s e n false
      | none => if s.readyAny e then go else s)

/-- A selection point in normal flow, or the entry of source 0 that a restart began (R94, R100). `ecc`: what the read of the vector table met. -/
def execInterruptEntry (e : Engine) (ecc : Ecc) (s : State) : Host.Outcome State Fault Refusal :=
  .next (
    let t := s.thread e.thr
    let bad := ecc = .dataUncorr ∨ ecc = .fetchUncorr
    if t.run = .restarting then entrySequence (if ecc = .corrected then eccCorrected s e else s) e 0 bad
    else if t.handler ∨ t.run = .stopped ∨ t.run = .dead ∨ t.run = .ended then s
    else match s.lowestEligible e with
      | some n =>
        let s := if ecc = .corrected then eccCorrected s e else s
        enterHandler s e n bad
      | none => s)

/-- The group's hold-off timer runs out (R102). -/
def execHoldoffExpiry (e : Engine) (g : BitVec 4) (s : State) : Host.Outcome State Fault Refusal :=
  .next (s.setHold e g.toNat false)

/-- PIC_CLR: the count of sources 8 to 127 to 0 (R105). -/
def picClr (s : State) (e : Engine) (n : Nat) : State := if n < 8 then s else s.setF (PIC_COUNT_COUNT e n) 0

def execPicClr (e : Engine) (src : BitVec 7) (s : State) : Host.Outcome State Fault Refusal :=
  .next (picClr s e src.toNat)

/-- PIC_SET: an event on a software source (R106). -/
def picSet (s : State) (e : Engine) (n : Nat) : State := if n < 104 then s else s.raise e n

def execPicSet (e : Engine) (src : BitVec 7) (s : State) : Host.Outcome State Fault Refusal :=
  .next (picSet s e src.toNat)

end Sys2Proof.Machine
end

