-- ==== Sys2Proof/Machine/Power.lean ====
section
/-!
DEFINITION. The feeds and the hold-up store (R318 to R320), the power states, their entry and their wake (R322 to R334), the reset pin and the
restart (R337, R338), the pads and the LEDs (R334, R419).

Readings and choices: log entries 35 (DEDUCED), 36 (DEDUCED).
-/

namespace Sys2Proof.Machine

def State.updPwr (s : State) (f : PwrSt → PwrSt) : State := { s with pwr := f s.pwr }

/-! ### Feeds (R318, R319): a sample every 100 µs, in units of 0.1 V -/

def feedRun (r : FeedRun) (v : Nat) : FeedRun :=
  { low := if v < 168 then r.low + 1 else 0, lost := if v < 140 then r.lost + 1 else 0, high := if 1375 < v then r.high + 1 else 0,
    ok := if 168 ≤ v ∧ v ≤ 1375 then r.ok + 1 else 0 }

/-- The state a feed is in after its runs: 2 LOST, 3 HIGH, 1 LOW, 0 NORMAL, else the one before. -/
def feedState (r : FeedRun) (old : Nat) : Nat :=
  if 10 ≤ r.lost then 2 else if 10 ≤ r.high then 3 else if 10 ≤ r.low then 1 else if 1000 ≤ r.ok then 0 else old

/-- A feed's state changes: the bit, source 86, the record. `k`: 0 FEED_A, 1 FEED_B. -/
def feedChange (s : State) (k : Nat) (st ev : Fld) (new : Nat) : State :=
  if s.fv st = new then s else (((s.setF st new).setF ev 1).raiseAll 86).recordRegs 0x0A 0x01 k [PWR_FEED_V]

/-- Entry to and exit from hold-up (R319): source 87; the interruption's length in units of 10 µs. -/
def holdupEval (s : State) : State :=
  let both : Bool := s.fv PWR_FEED_STAT_FEED_A = 2 && s.fv PWR_FEED_STAT_FEED_B = 2
  match s.feed.holdup with
  | none =>
    if both then
      (((({ s with feed := { s.feed with holdup := some 0, charged := 0 } }).setF PWR_FEED_STAT_HOLDUP 1).setF PWR_FEED_EVT_HOLDUP 1).setF
        PWR_HOLDUP_READY 0).raiseAll 87
    else { s with feed := { s.feed with charged := min 10000 (s.feed.charged + 1) } }
  | some n =>
    if both then { s with feed := { s.feed with holdup := some (n + 1) } }
    else
      let s := ({ s with feed := { s.feed with holdup := none } }).setF PWR_FEED_STAT_HOLDUP 0
      ((s.setF PWR_HOLDUP_LAST (min 65535 (10 * (n + 1)))).incF PWR_HOLDUP_COUNT).raiseAll 87

/-- A wake from DORMANT is in progress. -/
def wakingUp (s : State) : Bool := s.pwr.power = .dormant && s.pwr.waking ≠ 0

/-- In a wake from DORMANT the time with both feeds LOST counts too (R339); nothing shows or raises it. -/
def wakeHoldup (s : State) : State :=
  let both : Bool := decide (10 ≤ s.feed.a.lost) && decide (10 ≤ s.feed.b.lost)
  { s with feed := { s.feed with holdup := if both then some (match s.feed.holdup with | some n => n + 1 | none => 0) else none } }

/-- FEED_SAMPLE: held in reset after a power failure only the runs are kept; in DORMANT without a wake, and without power, nothing is measured. -/
def feedSample (s : State) (va vb store : Nat) (busOk : Bool) : State :=
  if s.pwr.power = .off ∨ (s.pwr.power = .dormant ∧ ¬ wakingUp s) then s
  else
    let s := { s with feed := { s.feed with a := feedRun s.feed.a va, b := feedRun s.feed.b vb } }
    if ¬ s.alive then (if wakingUp s then wakeHoldup s else s)
    else
      let s := (s.setF PWR_FEED_V_FEED_A va).setF PWR_FEED_V_FEED_B vb
      let s := (s.setF PWR_HOLDUP_STORE store).setB PWR_FEED_STAT_BUS_OK busOk
      let s := feedChange s 0 PWR_FEED_STAT_FEED_A PWR_FEED_EVT_FEED_A (feedState s.feed.a (s.fv PWR_FEED_STAT_FEED_A))
      let s := feedChange s 1 PWR_FEED_STAT_FEED_B PWR_FEED_EVT_FEED_B (feedState s.feed.b (s.fv PWR_FEED_STAT_FEED_B))
      let s := holdupEval s
      s.setB PWR_HOLDUP_READY (s.feed.charged = 10000)

def execFeedSample (inA inB : BitVec 16) (store : BitVec 7) (busOk : Bool) (s : State) : Host.Outcome State Fault Refusal :=
  .next (feedSample s inA.toNat inB.toNat store.toNat busOk)

/-- POWER_FAIL_SEQUENCE (R320): 10 ms after both feeds were LOST the POWER_FAIL record is written, the gates go off, the module holds itself in
reset. In a wake from DORMANT (R339) no recorder runs yet. -/
def powerFail (s : State) : State :=
  match s.feed.holdup with
  | some n =>
    if (s.alive ∨ wakingUp s) ∧ 100 ≤ n then
      let s := if s.alive then enterReset ({ s.forLanes dropFrame with ixGates := .all 0 }.recordRegs 0x0A 0x02 0 [PWR_FEED_V])
        else unlatch (coldState s .reset false keptRegs)
      s.updPwr fun p => { p with failHold := true, waking := 0, groups := [], failed := false }
    else s
  | none => s

def execPowerFailSequence (s : State) : Host.Outcome State Fault Refusal := .next (powerFail s)

/-- POWER_FAIL_RESTART: a feed has been NORMAL for 100 ms. -/
def powerFailRestart (s : State) : State :=
  if s.pwr.failHold ∧ ¬ s.pwr.rstHeld ∧ (1000 ≤ s.feed.a.ok ∨ 1000 ≤ s.feed.b.ok) then
    startBoot { s with feed := { s.feed with holdup := none, charged := 0 } } .powerFail
  else s

def execPowerFailRestart (s : State) : Host.Outcome State Fault Refusal := .next (powerFailRestart s)

/-- Registers that live without any power: MRAM, OTP and a pin. -/
def mramRegs : List (Nat × Word) :=
  [(REC_STATUS, 1), (REC_NEWEST_LO, 0xFFFFFFFF), (REC_NEWEST_HI, 0xFFFFFFFF), (REC_CLR_LO, 0xFFFFFFFF), (REC_CLR_HI, 0xFFFFFFFF),
   (REC_LAP, 0xFFFFFFFF), (PAIR_CFG, 0xFFFFFFFF), (PAIR_PEER_ID_LO, 0xFFFFFFFF), (PAIR_PEER_ID_HI, 0xFFFFFFFF), (SEC_FLOOR, 0xFFFFFFFF),
   (SEC_STATUS, 0x8000)]

/-- POWER_LOSS (R322): OFF; what PD_AON held is lost too. -/
def powerLoss (s : State) : State :=
  let s := coldState s .off false mramRegs
  { s with feed := FeedSt.init, pwr := { PwrSt.init with power := .off, acc := s.pwr.acc } }

def execPowerLoss (s : State) : Host.Outcome State Fault Refusal := .next (powerLoss s)

/-- POWER_ON (R338): a feed becomes NORMAL with PD_AON unpowered. -/
def execPowerOn (s : State) : Host.Outcome State Fault Refusal := .next (if s.pwr.power = .off then startBoot s .powerOn else s)

/-! ### Wake sources (R329) -/

/-- Source n of a mask that is enabled and valid in a state: 1 STABLED, 2 DORMANT. -/
def sourceActive (s : State) (t n : Nat) : Bool :=
  natBit (s.fv PWR_WAKE_EN_EN) n &&
  (if n < 4 then natBit (if natBit (s.fv PWR_WAKE_CFG_POL) n then s.pwr.wakeHigh else s.pwr.wakeLow) n
   else if n < 12 then s.fb (RING_CTRL_WAKE (n - 4)) && natBit s.pwr.wakeLine (n - 4) && (t = 2 || !s.fb (RING_CTRL_KEEP (n - 4)))
   else false)

/-- The sources active now that are valid in a state, one bit each. -/
def activeSources (s : State) (t : Nat) : Nat := bitsOf ((List.range 12).map (sourceActive s t))

def lowestBit (m : Nat) : Nat := ((List.range 15).find? fun n => natBit m n).getD 0

/-! ### Requests and the entry handshake (R323 to R328) -/

/-- R327: the entry gives way to a wake. -/
def abortWake (s : State) (m : Nat) : State :=
  let n := lowestBit m
  let s := (accAdd (handshakeEnd s) 2 1).setF PWR_ENTRY_ABORT_SRC n
  ((s.setF PWR_ENTRY_RESULT 3).raiseAll 82).record 0x0A 0x04 n []

def reqKey (k : Nat) : Nat := PWR_REQ_A + 4 * k

/-- The word that at least two lanes' requests hold. -/
def requestWord (s : State) : Option Word :=
  [0, 1, 2].findSome? fun k =>
    let w := s.rd (reqKey k)
    if w ≠ 0 ∧ w = s.rd (reqKey ((k + 1) % 3)) then some w else none

/-- A request stands (R323). -/
def requestStands (s : State) : Option Word :=
  if s.pwr.power = .run ∧ (s.mode = .standby ∨ s.mode = .active) ∧ 2 ≤ s.voting.length ∧ s.pwr.asked = 0 ∧ s.pwr.waking = 0 then
    match requestWord s with
    | some w => if getBits w 1 0 = 1 ∨ getBits w 1 0 = 2 then some w else none
    | none => none
  else none

/-- POWER_REQUEST_STANDS at tick 17: the handshake is due at tick 18, or a wake source wins at once. -/
def powerTick17 (s : State) : State :=
  match requestStands s with
  | some w =>
    let m := activeSources s (getBits w 1 0)
    if m ≠ 0 then abortWake s m else s.updPwr fun p => { p with stood := some w }
  | none => s

/-- The handshake starts at tick 18 (R325). -/
def powerTick18 (s : State) : State :=
  match s.pwr.stood with
  | some w =>
    let s := s.updPwr fun p => { p with stood := none }
    let t := getBits w 1 0
    let d := getBits w 31 16
    if ¬ (s.mode = .standby ∨ s.mode = .active) then s
    else if activeSources s t ≠ 0 then abortWake s (activeSources s t)
    else
      let s := s.updPwr fun p => { p with asked := 1, dormLeft := if t = 1 ∧ d ≠ 0 then some d else none }
      ((s.setF PWR_STATE_STATE 1).setF PWR_STATE_STEP 1).setF PWR_STATE_TARGET t
  | none => s

/-- What a block refuses while (R325). -/
def blockRefuses (s : State) (b : Nat) : Bool :=
  match b with
  | 3 => s.fb PAIR_CFG_EN
  | 4 => s.bridge.doms.any (fun d => !d.2.msgs.isEmpty) || s.bridge.locks.any fun l => l.granted
  | 5 => ringList.any fun n => (s.ring n).iso.isSome || (isHead s n && ringState s n = 3)
  | 6 => allLanes.any (fun l => (s.lane l).st = .retired) || s.fb AST_MAN_STAT_BUSY
  | 7 => allLanes.any fun l => brakes.any fun k => brkPhase s l k ≠ 0
  | 8 => (annealer s).isSome || s.fb SEC_BANK_PENDING
  | _ => false

/-- Block 0x08 acknowledges: the entry is accepted (R328). -/
def entryAccepted (s : State) (t : Nat) : State :=
  let s := accAdd (((s.setF PWR_ENTRY_RESULT 1).setF PWR_STATE_STATE 2).setF PWR_STATE_STEP 0) (t - 1) 1
  cutAll ((s.setF PWR_STATE_TARGET t).raiseAll 80) 3

/-- HANDSHAKE_ANSWER: the block asked answers as R325 says; an active wake source wins over a refusal (R339). -/
def handshakeAnswer (s : State) : State :=
  let b := s.pwr.asked
  if s.fv PWR_STATE_STATE ≠ 1 then s
  else
    let m := activeSources s (s.fv PWR_STATE_TARGET)
    if m ≠ 0 then abortWake s m
    else if s.voting.length < 2 then entryRefused s 8
    else if blockRefuses s b then entryRefused s b
    else if b = 8 then entryAccepted (s.updPwr fun p => { p with asked := 9 }) (s.fv PWR_STATE_TARGET)
    else (s.updPwr fun p => { p with asked := b + 1 }).setF PWR_STATE_STEP (b + 1)

def execHandshakeAnswer (s : State) : Host.Outcome State Fault Refusal := .next (handshakeAnswer s)

/-- HANDSHAKE_TIMEOUT: no answer within 50 µs is a refusal. -/
def handshakeTimeout (s : State) : State :=
  if s.fv PWR_STATE_STATE ≠ 1 then s
  else
    let m := activeSources s (s.fv PWR_STATE_TARGET)
    let s := s.setF PWR_ENTRY_TIMEOUT 1
    if m ≠ 0 then abortWake s m else entryRefused s s.pwr.asked

def execHandshakeTimeout (s : State) : Host.Outcome State Fault Refusal := .next (handshakeTimeout s)

/-- R334: TX_DISABLE of the ports that the target leaves off is driven high, then every pad is latched. -/
def latchPads (s : State) (t : Nat) : State :=
  let tx := bitsOf ((List.range 20).map fun k => !(decide (k < 16) && t = 1 && s.fb (RING_CTRL_KEEP (k / 2))))
  (s.updPwr fun p => { p with txLatch := tx, auxLatch := s.fv PWR_AUX_AUX }).setF PWR_PAD_LATCHED 1

/-- Lane A in STABLED: OFF, its SAFE state gone, its SYS thread running (R322, R328). -/
def stabledLane (x : LaneSt) : LaneSt :=
  { x with
    st := .off, safe := ThreadSt.init, localWord := none, lastKey := none, recs := [], staged := [], pub := 0, vote := VoteSt.init,
    anneal := LaneSt.init.anneal, dirty := [], tinDirty := [], retireReq := 0, deep := none }

/-- A lane's brake fast path at the entry: nothing runs; validity and the test faults stand where the lane keeps its power (R288). -/
def brkKept (b : BrkSt) : BrkSt := { BrkSt.init with pass := b.pass, fail := b.fail, due := b.due }

/-- POWER_ENTRY at tick 0 (R328): STANDBY, MREQ clear, gates off, lanes OFF without a withdrawal, pads latched, domains off. -/
def powerEntry (s : State) : State :=
  let t := s.fv PWR_STATE_TARGET
  -- lane A alone keeps its power in STABLED, and so its brake test validity (R288)
  let brk := if t = 1 then ⟨brkKept s.brk.a, BrkSt.init, BrkSt.init⟩ else .all BrkSt.init
  let s := { s.forLanes dropFrame with mode := .standby, ixGates := .all 0, brk := brk }.setF PAIR_STATUS_MREQ 0
  let s := { s with fx := { s.fx with slices := [], msgs := [], pairLast := 0 } }
  let s := latchPads s t
  let s := s.updPwr fun p => { p with asked := 0, reaching := true }
  if t = 1 then
    let s := { s with lanes := ⟨stabledLane s.lanes.a, coldLane false s.lanes.b, coldLane false s.lanes.c⟩ }
    ringsFollow (s.updPwr fun p => { p with power := .stabled }) false
  else { s with lanes := ⟨coldLane false s.lanes.a, coldLane false s.lanes.b, coldLane false s.lanes.c⟩ }

/-- From STABLED no handshake is needed (R324); the entry takes effect at the tick 0 that follows (R22). -/
def dormEntry (s : State) : State := (entryAccepted s 2).updPwr fun p => { p with asked := 9, dormLeft := none }

/-- PWR_REQ_WRITE (R323, R324): only the owner's write counts. -/
def reqWrite (s : State) (i : Init) (k : Nat) (v : Word) : State :=
  let owner : Option Nat := match i with
    | .thr (.sys l) => some l.num
    | .thr .mgmt => some 3
    | _ => none
  if ¬ s.alive then s
  else if owner ≠ some k then s.incF PWR_ENTRY_BAD_WRITE
  else
    let s := s.wr (reqKey k) (v &&& 0xFFFF0003)
    if s.stabled ∧ s.fv PWR_STATE_STATE = 3 ∧ s.rd PWR_REQ_A = s.rd PWR_REQ_M ∧ s.fv PWR_REQ_M_TARGET = 2 then dormEntry s else s

def execPwrReqWrite (i : Init) (reg : BitVec 2) (v : Word) (s : State) : Host.Outcome State Fault Refusal :=
  .next (reqWrite s i reg.toNat v)

/-! ### Wakes (R329 to R333) -/

/-- The domains of a wake with their steps, in order (R331): 1 PD_SRD, 2 PD_FX, 3 PD_MEM, 4 PD_IX, 5 to 7 PD_LA to PD_LC. -/
def wakePlan (fromState : Nat) : List (List (Nat × List Nat)) :=
  if fromState = 1 then [[(6, [1, 2, 3, 4]), (7, [1, 2, 3, 4])], [(5, [2])], [(2, [4])], [(1, [4])]]
  else [[(1, [1, 2, 3, 4])], [(2, [1, 2, 3, 4])], [(3, [1, 2, 3, 4])], [(4, [1, 2, 3, 4])],
    [(5, [1, 2, 3, 4]), (6, [1, 2, 3, 4]), (7, [1, 2, 3, 4])]]

/-- Seconds spent in DORMANT (R335): the timer's own when it woke the module, otherwise open (log entry 2). -/
def dormantSeconds (s : State) (m : Nat) : State :=
  if natBit m 12 then accAdd s 7 (s.fv PWR_WAKE_TIMER_SECONDS) else accAdd s.drawn 7 (s.freeVal.toNat % 4294967296)

/-- A wake starts: its lowest source is recorded, every active one counted. -/
def wakeStart (s : State) (m : Nat) : State :=
  let f := if s.stabled then 1 else 2
  let s := if f = 2 then dormantSeconds s m else s
  let s := (s.setF PWR_WAKE_STAT_SRC (lowestBit m)).setF PWR_WAKE_STAT_FROM f
  let s := accAdd s (2 + f) 1
  let s := ((List.range 15).filter fun n => natBit m n).foldl (fun s n => accAdd s (16 + n) 1) s
  (s.updPwr fun p => { p with waking := f, groups := wakePlan f, heldWake := 0, dormLeft := none }).setF PWR_STATE_STATE 4

/-- The state whose sources count now: the target of the entry, or the state the module is in. -/
def wakeScope (s : State) : Nat :=
  if s.pwr.power = .dormant then 2 else if s.fv PWR_STATE_STATE = 3 then 1 else s.fv PWR_STATE_TARGET

/-- Wake sources `m` are active: the wake starts, is held until the state is reached (R328), or aborts the handshake (R327). -/
def wakeEvent (s : State) (m : Nat) : State :=
  if m = 0 ∨ s.pwr.dead ∨ s.pwr.waking ≠ 0 then s
  else if s.pwr.power = .dormant then wakeStart s m
  else if ¬ s.alive then s
  else match s.fv PWR_STATE_STATE with
    | 1 => abortWake s m
    | 2 => s.updPwr fun p => { p with heldWake := Nat.lor p.heldWake m }
    | 3 => wakeStart s m
    | _ => s

/-- WAKE_INPUT: the comparator of CH44 + n has stood at a level for 10 ms. -/
def wakeInput (s : State) (n : Nat) (high : Bool) : State :=
  if s.pwr.power = .off then s
  else
    let s := s.updPwr fun p => { p with wakeHigh := natSetBit p.wakeHigh n high, wakeLow := natSetBit p.wakeLow n !high }
    wakeEvent s (activeSources s (wakeScope s))

def execWakeInput (n : BitVec 2) (high : Bool) (s : State) : Host.Outcome State Fault Refusal := .next (wakeInput s n.toNat high)

/-- WAKE_RING_ACTIVITY: LOS of a port of ring n has been deasserted for 10 ms, or is asserted again on both. -/
def wakeRing (s : State) (n : Nat) (on : Bool) : State :=
  if s.pwr.power = .off then s
  else
    let s := s.updPwr fun p => { p with wakeLine := natSetBit p.wakeLine n on }
    wakeEvent s (activeSources s (wakeScope s))

def execWakeRingActivity (n : BitVec 3) (on : Bool) (s : State) : Host.Outcome State Fault Refusal := .next (wakeRing s n.toNat on)

/-- The state is reached: STABLED or DORMANT, and no wake is in progress. -/
def stateReached (s : State) : Bool := s.pwr.power = .dormant || (s.stabled && s.fv PWR_STATE_STATE = 3)

/-- WAKE_TIMER: PWR_WAKE_TIMER seconds since the state was reached; 0 sets no timer. -/
def execWakeTimer (s : State) : Host.Outcome State Fault Refusal :=
  .next (if stateReached s ∧ natBit (s.fv PWR_WAKE_EN_EN) 12 ∧ s.fv PWR_WAKE_TIMER_SECONDS ≠ 0
    then wakeEvent s (Nat.lor (activeSources s (wakeScope s)) 4096) else s)

/-- PWR_WAKE_CMD.WAKE: source 13 from the management thread or the host port, 14 from lane A's SYS thread; ignored outside STABLED. -/
def wakeCmd (s : State) (i : Init) : State :=
  let n := match i with
    | .thr .mgmt => 13
    | .host => 13
    | .thr (.sys .a) => 14
    | _ => 15
  if s.stabled ∧ s.fv PWR_STATE_STATE = 3 ∧ n < 15 ∧ natBit (s.fv PWR_WAKE_EN_EN) n then
    wakeEvent s (Nat.lor (activeSources s 1) (2 ^ n))
  else s

def execPwrWakeCmd (i : Init) (s : State) : Host.Outcome State Fault Refusal := .next (wakeCmd s i)

/-- DORM_AFTER_EXPIRY: an active wake source wins (R339). -/
def execDormAfterExpiry (s : State) : Host.Outcome State Fault Refusal :=
  .next (
    if s.stabled ∧ s.fv PWR_STATE_STATE = 3 ∧ s.pwr.dormLeft.isSome then
      (if activeSources s 1 ≠ 0 then wakeEvent s (activeSources s 1) else dormEntry s)
    else s)

/-- Everything but PD_AON goes dark, with every TX_DISABLE high, after the recorder's last write (R19, R324, R328). -/
def goDark (s : State) : State :=
  let held := s.pwr.heldWake
  (coldState (if s.alive then drainQueue writeEvent s else s) .dormant false (keptRegs ++ dormantRegs)).updPwr fun p => { p with
    heldWake := held, txLatch := 2 ^ 20 - 1 }

/-- POWER_STATE_REACHED (R328): a wake held since the acceptance is served. -/
def powerReached (s : State) : State :=
  if ¬ (s.pwr.reaching ∧ s.fv PWR_STATE_STATE = 2) then s
  else
    let e := s.E
    let t := s.fv PWR_STATE_TARGET
    let s := if t = 1 then s.setF PWR_STATE_STATE 3 else goDark s
    let s := s.updPwr fun p => { p with reaching := false, entryE := e }
    wakeEvent s (Nat.lor s.pwr.heldWake (activeSources s t))

def execPowerStateReached (s : State) : Host.Outcome State Fault Refusal := .next (powerReached s)

/-- Every domain of the wake has given LOGIC_RDY (R331): boot step 3 on the image in force from STABLED; a module reset from DORMANT, and
after a retry. -/
def wakeDomains (s : State) : State :=
  if s.stabled then
    let s := s.updPwr fun p => { p with power := .run }
    let s := { s with lanes := ⟨s.lanes.a, coldLane true s.lanes.b, coldLane true s.lanes.c⟩ }
    s.updSec fun x => { x with bootStep := 3 }
  else startBoot s (if s.pwr.failed then .wakeRetry else .wake)

/-- A domain's next step is done. -/
def stepDone (d : Nat) (p : Nat × List Nat) : Nat × List Nat := if p.1 = d then (p.1, p.2.tail) else p

/-- WAKE_READY_SIGNAL: a ready signal arrives; a domain starts only after the one before it (R331). -/
def wakeReady (s : State) (d : Nat) : State :=
  match s.pwr.groups with
  | [] => s
  | g :: r =>
    let g' := g.map (stepDone d)
    if g'.all fun p => p.2.isEmpty then
      let s := s.updPwr fun p => { p with groups := r }
      if r.isEmpty then wakeDomains s else s
    else s.updPwr fun p => { p with groups := g' :: r }

def execWakeReadySignal (dom : BitVec 3) (s : State) : Host.Outcome State Fault Refusal := .next (wakeReady s dom.toNat)

/-- R333: the wake fails at a domain and step; a second failure leaves only PD_AON. -/
def wakeFail (s : State) (d st : Nat) : State :=
  let again := s.pwr.failed
  let s := accAdd (((goDark s).setF PWR_WAKE_STAT_FAIL_DOM d).setF PWR_WAKE_STAT_FAIL_STEP st) 5 1
  s.updPwr fun p => { p with groups := [], failNews := true, failed := true, dead := again, waking := if again then 0 else p.waking }

/-- WAKE_STEP_TIMEOUT: the ready signal a domain is waiting for misses its limit. -/
def wakeTimeout (s : State) (d : Nat) : State :=
  match s.pwr.groups with
  | [] => s
  | g :: _ =>
    match g.find? fun p => p.1 = d with
    | some (_, st :: _) => wakeFail s d st
    | _ => s

def execWakeStepTimeout (dom : BitVec 3) (s : State) : Host.Outcome State Fault Refusal := .next (wakeTimeout s dom.toNat)

/-- WAKE_RETRY: 1 s after the failure the whole wake is tried again, from PD_AON alone. -/
def execWakeRetry (s : State) : Host.Outcome State Fault Refusal :=
  .next (if s.pwr.failed ∧ ¬ s.pwr.dead ∧ s.pwr.power = .dormant ∧ s.pwr.groups = [] ∧ s.pwr.waking ≠ 0
    then s.updPwr fun p => { p with groups := wakePlan 2 } else s)

/-- R332: the wake is complete at the first tick 0 with every lane STARTING; its latency is open (log entry 2). -/
def wakeComplete (s : State) : State :=
  if s.pwr.waking ≠ 0 ∧ (allLanes.all fun l => (s.lane l).st = .starting) then
    let s := (s.setF PWR_WAKE_STAT_LAT (s.freeVal.toNat % 65536)).drawn
    let s := (s.updPwr fun p => { p with waking := 0, failed := false }).setF PWR_STATE_STATE 0
    (s.raiseAll 83).recordRegs 0x0A 0x05 0 [PWR_WAKE_STAT]
  else s

/-- The power part of the tick 0 strobe: an accepted entry takes effect, the requests are cleared (R323), whole seconds in STABLED count. -/
def powerTick0 (s : State) : State :=
  let s := if s.pwr.asked = 9 then powerEntry s else s
  let s := [0, 1, 2, 3].foldl (fun s k => s.wr (reqKey k) 0) s
  if s.stabled ∧ s.fv PWR_STATE_STATE = 3 ∧ s.pwr.entryE < s.E ∧ (s.E - s.pwr.entryE) % 100 = 0 then accAdd s 6 1 else s

/-- PWR_STATE.DORM_LEFT: minutes until DORMANT. -/
def dormLeftMin (s : State) : Nat :=
  match s.pwr.dormLeft with
  | some d => if s.stabled ∧ s.fv PWR_STATE_STATE = 3 then (6000 * d - (s.E - s.pwr.entryE) + 5999) / 6000 else 0
  | none => 0

/-! ### Pads (R334) and LEDs (R419) -/

/-- PWR_PAD.RELEASE: after the wake; while nothing is latched it does nothing. -/
def padRelease (s : State) : State := if s.pwr.power = .run then s.setF PWR_PAD_LATCHED 0 else s

def execPwrPadRelease (s : State) : Host.Outcome State Fault Refusal := .next (padRelease s)

/-- TX_DISABLE of SerDes k is high: as latched; while the module is unpowered or in reset; a ring in OFF; a disabled Ethernet port; the pair
links of an unpaired module (R19, R158, R218). -/
def txDisable (s : State) (k : Nat) : Bool :=
  if s.fb PWR_PAD_LATCHED then natBit s.pwr.txLatch k
  else if ¬ s.alive then true
  else if k < 16 then ringState s (k / 2) = 0
  else if k < 18 then !s.fb (ETH_CTRL_EN (k - 16))
  else !s.fb PAIR_CFG_EN

/-- PWR_AUX as driven: bit k conducts. -/
def auxPads (s : State) : Nat :=
  if s.fb PWR_PAD_LATCHED then s.pwr.auxLatch else if s.alive then s.fv PWR_AUX_AUX else 0

/-- What an LED shows: unlit, lit, or flashing at a rate in Hz, in antiphase or not. -/
inductive Led | unlit | lit | flash (hz : Nat) (anti : Bool)
  deriving DecidableEq, Repr

/-- IO_LED_GRN_N and IO_LED_RED_N. -/
def leds (s : State) : Led × Led :=
  if ¬ s.alive ∨ s.fb PWR_PAD_LATCHED then (.unlit, .unlit)
  else match s.mode with
    | .boot => (.unlit, .flash 4 false)
    | .configHold => (.unlit, .flash 1 false)
    | .standby => (.flash 1 false, .unlit)
    | .active => (.lit, .unlit)
    | .withdrawn => (.unlit, .lit)
    | .service => (.flash 1 false, .flash 1 true)

/-! ### Reset (R337, R338) -/

/-- RST_N_QUALIFIED: reset, held while the pin stays asserted; ignored after a stuck button. -/
def rstQualified (s : State) : State :=
  if s.pwr.power = .off ∨ s.fb PWR_RESET_IGNORED then s
  else
    let s := if s.alive then enterReset s else unlatch (coldState s .reset false keptRegs)
    s.updPwr fun p => { p with rstHeld := true, waking := 0, groups := [], failed := false, dead := false }

def execRstNQualified (s : State) : Host.Outcome State Fault Refusal := .next (rstQualified s)

/-- RST_N_RELEASE: the boot starts, unless a power failure still holds the module. -/
def rstRelease (s : State) : State :=
  if ¬ s.pwr.rstHeld then s
  else if s.pwr.failHold then s.updPwr fun p => { p with rstHeld := false }
  else startBoot s .rstN

def execRstNRelease (s : State) : Host.Outcome State Fault Refusal := .next (rstRelease s)

/-- RST_N_STUCK: 5 s after the start of the assertion the module boots regardless and ignores the pin. -/
def rstStuck (s : State) : State :=
  if ¬ s.pwr.rstHeld then s
  else
    let s := accAdd ((s.setF PWR_RESET_RESET_STUCK 1).setF PWR_RESET_IGNORED 1) 31 1
    if s.pwr.failHold then s.updPwr fun p => { p with rstHeld := false } else startBoot s .rstNStuck

def execRstNStuck (s : State) : Host.Outcome State Fault Refusal := .next (rstStuck s)

/-- RST_N_IGNORE_END: the pin has read released for 1 s. -/
def execRstNIgnoreEnd (s : State) : Host.Outcome State Fault Refusal :=
  .next (if s.pwr.power = .off then s else s.setF PWR_RESET_IGNORED 0)

/-- PWR_RESTART: the key restarts the module, and the record names the session; any other value does nothing. -/
def restart (s : State) (key : Word) (session : Nat) : State :=
  if s.alive ∧ key = 0xB007 ∧ serviceAllows s then moduleReset (s.record 0x0A 0x08 session []) .mgtRestart else s

def execPwrRestart (key : Word) (session : BitVec 16) (s : State) : Host.Outcome State Fault Refusal := .next (restart s key session.toNat)

end Sys2Proof.Machine
end

