-- ==== Sys2Proof/Machine/Security.lean ====
section
/-!
DEFINITION. The security and life-cycle unit (R343 to R357, R361 to R365): tokens, life-cycle changes, banks and NOR, key entry,
attestation.

Readings and choices: log entries 5 (PRESUMED), 25 (DESIGN CHOICE), 38 (DESIGN CHOICE), 45 (DEDUCED).
-/

namespace Sys2Proof.Machine

/-- The unit is clocked in RUN only (R17). -/
def secOn (s : State) : Bool := s.pwr.power = .run

def byteZero : Nat → Byte := fun _ => 0

/-- The 16 bytes of SEC_NONCE. -/
def nonceBytes (s : State) : List Byte := wordsBytes ((List.range 4).map fun k => s.rd (SEC_NONCE k))

/-! ### Life cycle (R349, R351, R352) -/

/-- A life-cycle change that ends in a module reset: the record and source 93 come first. -/
def lcChange (s : State) (new : Nat) (f : SecSt → SecSt) : State :=
  moduleReset ((lcRecord s (lcState s) new).updSec f) .mgtRestart

/-- SERVICE ends: one EXIT bit, a reset into OPERATE (R352). -/
def endService (s : State) : State :=
  if secOn s ∧ s.mode = .service ∧ lcState s = 4 then lcChange s 3 fun x => { x with exits := x.exits + 1 } else s

def execEndService (s : State) : Host.Outcome State Fault Refusal := .next (endService s)

/-- SERVICE_EN_TIMEOUT: the pin has been deasserted for 1 s. -/
def execServiceEnTimeout (s : State) : Host.Outcome State Fault Refusal :=
  .next (if s.fb SEC_STATUS_SERVICE_EN then s else endService s)

/-- SERVICE entries remaining. -/
def svcLeft (s : State) : Nat := 1023 - s.sec.enters

/-- A SERVICE token accepted takes effect at a tick 0, if SERVICE_EN is still asserted: one ENTER bit (R352). -/
def serviceTick0 (s : State) : State :=
  if (s.mode = .standby ∨ s.mode = .configHold) ∧ s.fb SEC_STATUS_SERVICE_EN then
    { (lcRecord s 3 4).updSec fun x => { x with enters := x.enters + 1 } with mode := .service }
  else s

/-- SEC_START.GO (R364). -/
def startGo (s : State) : State := if secOn s then s.setF SEC_STATUS_START_GIVEN 1 else s

def execSecStartGo (s : State) : Host.Outcome State Fault Refusal := .next (startGo s)

/-! ### Tokens (R347, R348) -/

def tokenTypeOf (b : List Byte) : Nat := bytesAt b 4 1

def allZero (b : List Byte) (off n : Nat) : Bool := bytesAt b off n = 0

/-- The format of R347, with the fields that a type does not use zero (R395 for CLEAR). -/
def tokenFormat (b : List Byte) : Bool :=
  let ty := tokenTypeOf b
  bytesAt b 0 4 = 0x544B4E31 && decide (1 ≤ ty) && decide (ty ≤ 9) && allZero b 6 2 && allZero b 14 2 &&
  (ty = 5 || ty = 6 || allZero b 32 1) && (if ty = 8 then allZero b 45 19 else allZero b 33 31) && (ty = 5 || allZero b 64 32)

/-- A root slot may sign a type of token in the present state (R344). -/
def slotForToken (lc ty slot : Nat) : Bool :=
  if slot = 0 then ty = 1 || ty = 4 || ((ty = 5 || ty = 7 || ty = 8) && (lc = 1 || lc = 2)) else decide (slot ≤ 3) && ty ≠ 1

def rootLive (s : State) (slot : Nat) : Bool := (rootHash s slot).isSome && decide (slot ∉ s.sec.revoked)

/-- The state allows the type: COMMISSION, OPERATE or SERVICE. -/
def lcOpen (lc : Nat) : Bool := lc = 2 || lc = 3 || lc = 4

/-- R395: the range the signer read is the one held. -/
def clearOk (s : State) (b : List Byte) : Bool :=
  let last := bytesAt b 39 6
  bytesAt b 33 6 = recClr s && decide (last ≤ recNewest s) && decide (recNewest s ≤ last + 4095) && !s.recorder.erasing

/-- The conditions of the type (R345, R348). -/
def tokenState (s : State) (b : List Byte) : Bool :=
  let lc := lcState s
  let ps := bytesAt b 32 1
  match tokenTypeOf b with
  | 1 => lc = 1 && s.mode = .configHold
  | 2 => lc = 2 && s.mode ≠ .active && s.sec.img.digests ≠ [] && [1, 2, 3].any fun k => rootLive s k && s.sec.img.root = k
  | 3 => lc = 3 && (s.mode = .standby || s.mode = .configHold) && s.fb SEC_STATUS_SERVICE_EN && decide (0 < svcLeft s)
  | 4 => lcOpen lc && s.mode ≠ .active
  | 5 => (lc = 2 || lc = 4) && (ps = 1 || ps = 2 || ps = 3) && (rootHash s ps).isNone
  | 6 => lcOpen lc && decide (ps ≤ 3) && bytesAt b 5 1 ≠ ps && [0, 1, 2, 3].any fun k => k ≠ ps && rootLive s k && slotForImage lc k
  | 7 => s.mode = .configHold
  | 8 => lc ≠ 0 && clearOk s b
  | 9 => lcOpen lc
  | _ => false

/-- RESULT of a token: the first check that fails, in the order of R348. -/
def tokenResult (s : State) (b nonce : List Byte) : Nat :=
  let slot := bytesAt b 5 1
  if ¬ tokenFormat b then 2
  else if bytesAt b 8 6 ≠ Config.uniqueId.toNat then 3
  else if (b.drop 16).take 16 ≠ nonce then 4
  else
    match signedUnder s slot (slotForToken (lcState s) (tokenTypeOf b) slot) ((b.drop 96).take 60) (b.take 156) ((b.drop 156).take 3124) with
    | 0 => if tokenState s b then 0 else 7
    | 2 => 5
    | _ => 6

/-- What every submission ends with: the record, source 92, a new nonce. -/
def tokenTell (s : State) (ty r : Nat) : State := newNonce ((s.record 0x0B 0x01 ty (beBytes 1 r)).raiseAll 92)

/-- SEC_TOKEN_CMD.SUBMIT: a second one while a token is being checked is refused with BUSY (R368). -/
def tokenSubmit (s : State) : State :=
  let b := Store.getList byteZero s.sec.tokenBuf 0 3280
  let ty := tokenTypeOf b
  if ¬ secOn s then s
  else if s.sec.token.isSome then tokenTell ((s.setF SEC_TOKEN_STAT_TYPE ty).setF SEC_TOKEN_STAT_RESULT 1) ty 1
  else ((s.updSec fun x => { x with token := some (b, nonceBytes s) }).setF SEC_TOKEN_STAT_TYPE ty).setF SEC_TOKEN_STAT_BUSY 1

/-- Submit the token in the buffer, when it is of the type the command names. -/
def tokenRow (ty : Nat) (s : State) : State := if (Store.get byteZero s.sec.tokenBuf 4).toNat = ty then tokenSubmit s else s

def execTokenCommission (s : State) : Host.Outcome State Fault Refusal := .next (tokenRow 1 s)
def execTokenOperate (s : State) : Host.Outcome State Fault Refusal := .next (tokenRow 2 s)
def execTokenService (s : State) : Host.Outcome State Fault Refusal := .next (tokenRow 3 s)
def execTokenRetire (s : State) : Host.Outcome State Fault Refusal := .next (tokenRow 4 s)
def execTokenRoot (s : State) : Host.Outcome State Fault Refusal := .next (tokenRow 5 s)
def execTokenRevoke (s : State) : Host.Outcome State Fault Refusal := .next (tokenRow 6 s)
def execTokenMaint (s : State) : Host.Outcome State Fault Refusal := .next (tokenRow 7 s)
def execTokenClear (s : State) : Host.Outcome State Fault Refusal := .next (tokenRow 8 s)
def execTokenFloor (s : State) : Host.Outcome State Fault Refusal := .next (tokenRow 9 s)

/-- R351: RETIRED erases every lane key store and the Hexlo authentication keys before the OTP write. -/
def eraseKeys (s : State) : State :=
  let s := s.forLanes fun s l => s.updLane l fun x => { x with keyNv := [], keys := [], keysetId := 0 }
  s.updSec fun x => { x with hxKeys := [], hxKeysNv := [] }

/-- The effect of an accepted token, but for CLEAR, whose effect comes before its record (R396). -/
def tokenEffect (s : State) (b : List Byte) : State :=
  let ps := bytesAt b 32 1
  match tokenTypeOf b with
  | 1 => lcChange s 2 fun x => { x with lcBits := 2 }
  | 2 => lcChange s 3 fun x => { x with lcBits := 3 }
  | 3 => s.updSec fun x => { x with nextMode := some .service }
  | 4 => lcChange (eraseKeys s) 5 fun x => { x with lcBits := 4 }
  | 5 => s.updSec fun x => { x with roots := x.roots ++ [(ps, BitVec.ofNat 256 (bytesAt b 64 32))] }
  | 6 => s.updSec fun x => { x with revoked := if ps ∈ x.revoked then x.revoked else x.revoked ++ [ps] }
  | 7 => s.updSec fun x => { x with maint := true }
  | 9 => s.setF SEC_FLOOR_FLOOR (max (s.fv SEC_FLOOR_FLOOR) (s.fv SEC_VERSIONS_SEC_VERSION))
  | _ => s

/-- TOKEN_CHECK_COMPLETE; in STABLED the unit is not clocked and completes nothing (R17). A SERVICE token refused while ACTIVE has a record of its own (R20). -/
def tokenDone (s : State) : State :=
  match if secOn s then s.sec.token else none with
  | some (b, nonce) =>
    let ty := tokenTypeOf b
    let r := tokenResult s b nonce
    let active : Bool := r = 7 && ty = 3 && s.mode = .active
    let s := s.updSec fun x => { x with token := none }
    let s := ((s.setF SEC_TOKEN_STAT_TYPE ty).setF SEC_TOKEN_STAT_RESULT r).setF SEC_TOKEN_STAT_BUSY 0
    let s := if r = 0 ∧ ty = 8 then recClear s (bytesAt b 5 1) ((b.drop 108).take 16) else s
    let s := if active then s.record 0x01 0x06 0 [] else s
    let s := tokenTell s ty r
    if r = 0 then tokenEffect s b else s
  | none => s

def execTokenCheckComplete (s : State) : Host.Outcome State Fault Refusal := .next (tokenDone s)

/-! ### Banks (R361, R365) -/

/-- The bank not in force. -/
def otherBank (s : State) : Nat := 1 - s.fv SEC_STATUS_BANK

/-- SEC_BANK_CMD.VERIFY. -/
def bankVerify (s : State) : State :=
  if secOn s ∧ ¬ s.fb SEC_BANK_VER_BUSY then (s.setF SEC_BANK_VER_BUSY 1).setF SEC_BANK_VER_OK 0 else s

def execBankVerify (s : State) : Host.Outcome State Fault Refusal := .next (bankVerify s)

/-- Step 2 and the FX part of step 3 on the other bank: 0, or the failure code. -/
def verifyBank (s : State) : Nat :=
  let b := otherBank s
  match authBank s b with
  | 0 => if laneDigest s b = imageDigest s b then 0 else 4
  | k => k

def bankVerifyDone (s : State) : State :=
  if secOn s ∧ s.fb SEC_BANK_VER_BUSY then
    let k := verifyBank s
    (((s.setF SEC_BANK_VER_BUSY 0).setF SEC_BANK_VER_FAIL k).setB SEC_BANK_VER_OK (k = 0)).raiseAll 95
  else s

def execBankVerifyDone (s : State) : Host.Outcome State Fault Refusal := .next (bankVerifyDone s)

/-- Why SWITCH is refused. -/
def switchRefused (s : State) (outage : Bool) : Bool :=
  !s.fb SEC_BANK_VER_OK || (s.mode = .active && (paired s || !outage)) || !serviceAllows s

/-- SEC_BANK_CMD.SWITCH: refused with source 95, or pending. -/
def bankSwitch (s : State) (outage : Bool) : State :=
  if ¬ secOn s then s else if switchRefused s outage then s.raiseAll 95 else s.setF SEC_BANK_PENDING 1

def execBankSwitch (outage : Bool) (s : State) : Host.Outcome State Fault Refusal := .next (bankSwitch s outage)

/-- BANK_SWITCH_EFFECT at a tick 0 with no anneal and no retirement in progress. -/
def bankDue (s : State) : Bool := s.fb SEC_BANK_PENDING && (annealer s).isNone && allLanes.all fun l => (s.lane l).st ≠ .retired

def bankTake (s : State) : State :=
  let old := s.fv SEC_STATUS_BANK
  moduleReset (s.updSec fun x => { x with selected := 1 - old, previous := old, trial := true }) .mgtRestart

/-- SEC_BANK_CMD.CONFIRM clears TRIAL. -/
def bankConfirm (s : State) : State := if secOn s then s.updSec fun x => { x with trial := false } else s

def execBankConfirm (s : State) : Host.Outcome State Fault Refusal := .next (bankConfirm s)

/-- SEC_NOR_CMD: 1 erase, 2 program; a misaligned offset is refused; a command while one runs is ignored. -/
def norCmd (s : State) (op off : Nat) : State :=
  if ¬ (secOn s ∧ serviceAllows s) ∨ s.sec.norBusy.isSome then s
  else if off % 4096 ≠ 0 then s.setF SEC_NOR_STAT_REFUSED 1
  else ((s.updSec fun x => { x with norBusy := some (op, off) }).setF SEC_NOR_STAT_BUSY 1).setF SEC_BANK_VER_OK 0

def execNorErase (off : BitVec 28) (s : State) : Host.Outcome State Fault Refusal := .next (norCmd s 1 off.toNat)

def execNorProgram (off : BitVec 28) (s : State) : Host.Outcome State Fault Refusal := .next (norCmd s 2 off.toNat)

/-- n bytes the spec leaves open (log entry 2). -/
def freeBytes (s : State) (n : Nat) : List Byte := (List.range n).map fun k => (Config.freeValue (s.freeCnt + k)).truncate 8

/-- Take the NOR bytes of a block out, which then read as erased. -/
def norErased (m : Store Byte) (lo n : Nat) : Store Byte := m.filter fun p => decide (p.1 < lo) || decide (lo + n ≤ p.1)

/-- The block an operation writes: its key and length. -/
def norBlock (s : State) (op off : Nat) : Nat × Nat :=
  if op = 1 then (norKey (otherBank s) (off / 262144 * 262144), 262144) else (norKey (otherBank s) off, 4096)

/-- NOR_OP_DONE: erased or programmed; after a failed read-back the block's contents are open. -/
def norDone (s : State) (ok : Bool) : State :=
  match if secOn s then s.sec.norBusy else none with
  | some (op, off) =>
    let p := norBlock s op off
    let m := if op = 1 ∧ ok then norErased s.sec.nor p.1 p.2
      else Store.putList norDefault s.sec.nor p.1 (if ok then Store.getList byteZero s.sec.norBuf 0 4096 else freeBytes s p.2)
    let s := if ok then s else { s with freeCnt := s.freeCnt + p.2 }.setF SEC_NOR_STAT_ERR 1
    ((s.updSec fun x => { x with norBusy := none, nor := m }).setF SEC_NOR_STAT_BUSY 0).setF SEC_BANK_VER_OK 0
  | none => s

def execNorOpDone (ok : Bool) (s : State) : Host.Outcome State Fault Refusal := .next (norDone s ok)

/-! ### Attestation (R355 to R357) -/

def attLimit : Nat := 1048576

/-- SEC_ATTEST_CMD.QUOTE: refused when no index is left. -/
def quoteStart (s : State) : State :=
  if secOn s ∧ s.sec.attNext < attLimit then s.setF SEC_ATTEST_STAT_BUSY 1 else s

def execQuote (s : State) : Host.Outcome State Fault Refusal := .next (quoteStart s)

/-- Root slots: [3:0] programmed, [7:4] revoked. -/
def rootMask (s : State) : Nat :=
  bitsOf ((List.range 4).map fun k => (rootHash s k).isSome) + 16 * bitsOf ((List.range 4).map fun k => decide (k ∈ s.sec.revoked))

def quoteBytes (s : State) : List Byte :=
  [0x51] ++ beBytes 1 (lcState s) ++ beBytes 1 s.mode.code ++ [0] ++ beBytes 6 Config.uniqueId.toNat ++ beBytes 6 s.E ++
  wordsBytes ((List.range 8).map fun k => s.rd (SEC_ATTEST_NONCE k)) ++ wordsBytes ((List.range 8).map fun k => s.rd (SEC_IMAGE_DIGEST k)) ++
  wordsBytes [s.rd SEC_BUILD_HI, s.rd SEC_BUILD_LO, s.rd SEC_VERSIONS] ++ beBytes 1 (s.fv SEC_FLOOR_FLOOR) ++ beBytes 1 (rootMask s) ++
  List.replicate 34 0

/-- QUOTE_DONE: the index is reserved ahead of use, 64 at a time (R356). -/
def quoteDone (s : State) : State :=
  if ¬ (secOn s ∧ s.fb SEC_ATTEST_STAT_BUSY) then s
  else
    let s := s.setF SEC_ATTEST_STAT_BUSY 0
    let n := s.sec.attNext
    if attLimit ≤ n then s
    else
      let q := quoteBytes s
      s.updSec fun x => { x with
        attReserved := if n = x.attReserved then n + 64 else x.attReserved, attNext := n + 1,
        quote := q ++ Config.attestSign n q ++ Config.identityKey }

def execQuoteDone (s : State) : Host.Outcome State Fault Refusal := .next (quoteDone s)

/-! ### Key entry on JTAG (R350, R353, R354) -/

/-- Keys are entered in COMMISSION or SERVICE while the module is not ACTIVE. -/
def keyEntry (s : State) : Bool := secOn s && (lcState s = 2 || lcState s = 4) && s.mode ≠ .active

/-- A slot that is not in the table: SLOT_INVALID, zeros shifted out. -/
def slotBad (s : State) (l : Lane) (n : Nat) : State :=
  (s.updLane l fun x => { x with slotInvalid := true }).updSec fun x => { x with tap := List.replicate n 0 }

/-- KEYLOAD: one key into the lane's non-volatile store; zeros are shifted out. -/
def keyLoad (s : State) (l : Lane) (slot : Nat) (key : BitVec 256) : State :=
  if ¬ keyEntry s then s
  else if ¬ slotNamed slot then slotBad s l 32
  else (s.updLane l fun x => { x with keyNv := Store.put (fun _ => none) x.keyNv slot (some key) }).updSec fun x => { x with tap := List.replicate 32 0 }

def execKeyload (l : Lane) (slot : BitVec 10) (key : BitVec 256) (s : State) : Host.Outcome State Fault Refusal :=
  .next (keyLoad s l slot.toNat key)

def execKeyset (l : Lane) (id : Word) (s : State) : Host.Outcome State Fault Refusal :=
  .next (if keyEntry s then s.updLane l fun x => { x with keysetId := id } else s)

/-- The check value of a key: 4 bytes of HMAC-SHA-256 over "KCV"; a slot never loaded holds zero. -/
def checkValue (k : Option (BitVec 256)) : List Byte := (hmacSha256 (beBytes 32 (k.getD 0).toNat) [0x4B, 0x43, 0x56]).take 4

/-- KCV. -/
def keyCheck (s : State) (l : Lane) (slot : Nat) : State :=
  if ¬ keyEntry s then s
  else if ¬ slotNamed slot then slotBad s l 4
  else s.updSec fun x => { x with tap := checkValue (Store.get (fun _ => none) (s.lane l).keyNv slot) }

def execKcv (l : Lane) (slot : BitVec 10) (s : State) : Host.Outcome State Fault Refusal := .next (keyCheck s l slot.toNat)

/-- HXKEYLOAD: the send and receive authentication keys of a session (R222). -/
def hxKeyLoad (s : State) (n : Nat) (snd rcv : BitVec 256) : State :=
  if ¬ keyEntry s ∨ n = 0 then s
  else s.updSec fun x => { x with
    hxKeysNv := Store.put (fun _ => none) (Store.put (fun _ => none) x.hxKeysNv (2 * n) (some snd)) (2 * n + 1) (some rcv) }

def execHxkeyload (ses : BitVec 7) (snd rcv : BitVec 256) (s : State) : Host.Outcome State Fault Refusal :=
  .next (hxKeyLoad s ses.toNat snd rcv)

end Sys2Proof.Machine
end

