-- ==== Sys2Proof/Machine/LiveRegs.lean ====
section
/-!
DEFINITION. What a read of a register returns (R6, R7, R400): the shadow of an SH field, the value in force of any other; registers whose
content is state of a block are formed from that state.

Readings and choices: log entries 2 (DESIGN CHOICE), 18 (DEDUCED), 39 (DEDUCED).
-/

namespace Sys2Proof.Machine

/-- The register as stored: shadow bits from the shadow (R6). -/
def storedReg (s : State) (k : Nat) : Word := (s.rd k &&& ~~~ (accOf k).sh) ||| (s.shRd k &&& (accOf k).sh)

/-- One field of a word that is formed. -/
def put (w : Word) (f : Fld) (v : Nat) : Word := setBits w f.hi f.lo v

def nat32 (v : Nat) : Word := BitVec.ofNat 32 v

/-! ### Interrupt controllers and check-value units -/

/-- Offset o of an interrupt controller (R98 to R106). A running hold-off has some time left, open (log entry 2). -/
def livePic (s : State) (e : Engine) (o : Nat) (w : Word) : Word :=
  if o = 0x04 then setBits w 15 15 (b2n (s.thread e.thr).handler)
  else if o = 0x10 then w ||| 0xFF
  else if 0x20 ≤ o ∧ o < 0x30 then
    nat32 (bitsOf ((List.range 32).map fun j => decide (0 < s.fv (PIC_COUNT_COUNT e (8 * (o - 0x20) + j)))))
  else if 0x40 ≤ o ∧ o < 0x80 then
    let g := (o - 0x40) / 4
    if s.held e g then setBits w 31 16 (s.freeVal.toNat % (s.fv (PIC_HOLDOFF_HOLDOFF e g) + 1)) else w
  else w

/-- Offset o of check-value unit u; while a scan runs, its progress is open (log entry 2). -/
def liveCvu (s : State) (e : Engine) (u o : Nat) (w : Word) : Word :=
  let run := s.fb (CVU_CTRL_RUN e u)
  let t := if run then scanTake s e u (scanPoint s e u) else s
  if o = 0x08 then t.rd (CVU_START e u)
  else if o = 0x0C then t.rd (CVU_LEN e u)
  else if o = 0x10 then nat32 (cvuRun t e u)
  else if o = 0x14 then nat32 (cvuRun t e u / 2 ^ 32)
  else if o = 0x18 then nat32 (cvuResult t e u)
  else if o = 0x1C then nat32 (cvuResult t e u / 2 ^ 32)
  else w

/-! ### The lane view (R405) -/

def laneStateWord (s : State) : Word :=
  nat32 ((s.lane .a).st.code + 8 * (s.lane .b).st.code + 64 * (s.lane .c).st.code +
    512 * laneMask (fun l => (s.lane l).st.counted) + 4096 * s.fx.pairLast)

/-- RTE_LOCKED_k: bit b is route 32 k + b (R149). -/
def lockedWord (s : State) (l : Lane) (k : Nat) : Word :=
  nat32 (bitsOf ((List.range 32).map fun b => lockedAt (s.lane l).locked (32 * k + b)))

def lockedCount (s : State) (l : Lane) : Nat := popCount 4096 (s.lane l).locked.toNat

/-- Seconds of the deep assay under way (R380). -/
def deepWord (s : State) (l : Lane) (w : Word) : Word :=
  match (s.lane l).deep with
  | some e => setBits w 31 24 (min 255 ((s.E - e) / 100))
  | none => w

def liveLane (s : State) (l : Lane) (a : Nat) (w : Word) : Word :=
  let x := s.lane l
  if 0x06000000 ≤ a then Store.get (fun _ => 0) x.snap a
  else if 0x04010000 ≤ a ∧ a < 0x04020000 then livePic s (.lane l) (a - 0x04010000) w
  else if 0x04020000 ≤ a ∧ a < 0x04020100 then liveCvu s (.lane l) ((a - 0x04020000) / 0x40) (a % 0x40) w
  else if a = 0x04000004 then laneStateWord s
  else if 0x04000040 ≤ a ∧ a < 0x04000060 then x.osum.extractLsb' (224 - 8 * (a - 0x04000040)) 32
  else if a = 0x04000060 then
    setBits (setBits w 15 12 (min 4 (lastHour s.E x.wdrHist).length)) 11 8 (min 3 (lastHour s.E x.annHist).length)
  else if a = 0x04000100 then nat32 (x.time.t + s.subTick)
  else if a = 0x04000104 then nat32 ((x.time.t + s.subTick) / 2 ^ 32)
  else if a = 0x04030008 then nat32 (lockedCount s l)
  else if 0x04031000 ≤ a ∧ a < 0x04031200 then lockedWord s l ((a - 0x04031000) / 4)
  else if a = 0x0403200C then nat32 (objType s l (s.fv (OBJ_TYPE_IDX_INDEX l)))
  else if a = 0x04040020 then setBits w 31 20 (ageMin s l)
  else if a = 0x04050044 then deepWord s l w
  else w

/-! ### The fabric view (R408) -/

def liveTime (s : State) (a : Nat) (w : Word) : Word :=
  if a = TIME_NOW_LO then nat32 (s.time.t + s.subTick)
  else if a = TIME_NOW_HI then nat32 ((s.time.t + s.subTick) / 2 ^ 32)
  else if a = TIME_EPOCH_LO then nat32 s.E
  else if a = TIME_EPOCH_HI then nat32 (s.time.tick * 65536 + s.E / 2 ^ 32 % 65536)
  else w

/-- The layout entry of the position that RING_NODE_SEL names. -/
def selEntry (s : State) (n : Nat) : Option LayEntry :=
  ((s.ring n).layout).bind fun x => x.entries.find? fun y => y.pos = s.fv (RING_NODE_SEL_POS n)

/-- RING_NODE_INFO. What the head alone knows is 0 elsewhere. -/
def nodeInfo (s : State) (n : Nat) : Word :=
  match selEntry s n with
  | none => 0
  | some y =>
    let h := (s.ring n).head
    let head := isHead s n
    let r := if head then h.roll.find? fun r => r.uid = y.uid else none
    nat32 ((if head then min 255 (Store.get (fun _ => 0) h.absent y.pos) else 0) * 2 ^ 24 +
      bitsOf [s.fv (RING_TOPO_SM_POS n) = y.pos, head && h.mreq.contains y.pos, y.verRej, if head then h.silent.contains y.pos else y.silent,
        (r.map (fun r => r.wrapped)).getD false, y.headElig, y.isModule, true] * 2 ^ 8 +
      (r.map (fun r => r.vmax)).getD 0 * 16 + (r.map (fun r => r.vmin)).getD 0)

/-- RING_PORT_TEST: while a test runs, its duration is the present one, and the errors counted since the last read are open (R214, log entry
2). -/
def livePortTest (s : State) (n : Nat) (w : Word) : Word :=
  if (s.ring n).iso = none then w
  else setBits (setBits w 31 16 (s.freeVal.toNat % 65536)) 15 8 (min 255 ((s.E - (s.ring n).isoFrom) / 100))

def liveRing (s : State) (n o : Nat) (w : Word) : Word :=
  if o = 0x20 then setBits (setBits w 3 3 (b2n (txDisable s (2 * n)))) 11 11 (b2n (txDisable s (2 * n + 1)))
  else if o = 0x28 then nat32 (((selEntry s n).map fun y => y.uid).getD 0)
  else if o = 0x2C then nat32 (((selEntry s n).map fun y => y.uid).getD 0 / 2 ^ 32 % 65536)
  else if o = 0x30 then nodeInfo s n
  else if o = 0x48 then livePortTest s n w
  else w

/-- A message at the head of an engine queue: header word or data word. -/
def headWord (q : List BrgMsg) (k : Nat) : Word :=
  match q with
  | m :: _ => nat32 (bytesAt (brgBytes m) (4 * k) 4)
  | [] => 0

def dataWord (q : List BrgMsg) (k : Nat) : Word :=
  match q with
  | m :: _ => nat32 (bytesAt (m.data.take m.dlen) (4 * k) 4)
  | [] => 0

def livePort (s : State) (k o : Nat) (w : Word) : Word :=
  let p := s.eport k
  if 0x10 ≤ o ∧ o < 0x20 then headWord p.rx ((o - 0x10) / 4)
  else if 0x30 ≤ o ∧ o < 0x40 then headWord p.an ((o - 0x30) / 4)
  else if o = 0x44 then nat32 (p.rx.length + 16 * p.an.length)
  else if 0x400 ≤ o ∧ o < 0x800 then dataWord p.rx ((o - 0x400) / 4)
  else if 0x800 ≤ o ∧ o < 0xC00 then dataWord p.an ((o - 0x800) / 4)
  else w

def liveBridge (s : State) (a : Nat) (w : Word) : Word :=
  if a = BRG_STATUS then put w BRG_STATUS_SHARED_FREE ((3670016 - s.bridgeUsed) / 1024)
  else if 0x80200020 ≤ a ∧ a < 0x80200030 then (s.bridge.fq.headD []).getD ((a - 0x80200020) / 4) 0
  else if 0x80208000 ≤ a ∧ a < 0x8020C000 then livePort s ((a - 0x80208000) / 0x1000) (a % 0x1000) w
  else w

/-- Sessions in a state of R225. -/
def sesIn (s : State) (st : Nat) : Nat := (sessions.filter fun n => sesState s n = st).length

def liveHex (s : State) (a : Nat) (w : Word) : Word :=
  if a < 0x80301000 then
    if a = HXL_STATUS then nat32 ((448 - poolUsed s) * 65536 + sesIn s 2 * 256 + sesIn s 3) else w
  else
    let n := (a - 0x80301000) / 0x40
    if n = 0 then 0 else if a % 0x40 = 0x20 then put w (HXL_SSTAT_BUFS n) (sesBufs (s.ses n)) else w

def liveEth (s : State) (p o : Nat) (w : Word) : Word :=
  if o = 0x00 ∧ p = 2 then put w (ETH_CTRL_MODE p) 2
  else if o = 0x04 then (if p = 2 then setBits w 3 0 0 else put (put w (ETH_STATUS_TX_DISABLE p) (b2n (txDisable s (16 + p))))
    (ETH_STATUS_SPEED p) (if s.fv (ETH_CTRL_MODE p) = 1 then 1 else 0))
  else if o = 0x14 then (Config.macAddr p).extractLsb' 0 32
  else if o = 0x18 then nat32 ((Config.macAddr p).toNat / 2 ^ 32)
  else w

def livePower (s : State) (a : Nat) (w : Word) : Word :=
  if a = PWR_STATE then put w PWR_STATE_DORM_LEFT (dormLeftMin s)
  else if a = PWR_ACC_VAL then
    let i := s.fv PWR_ACC_SEL_INDEX
    if i < 39 then nat32 (Store.get (fun _ => 0) s.pwr.acc i) else 0
  else w

/-- A mailbox as its two sides see it (R95, R96); LANE_MBX_STAT of a lane without power reads 0 (R336). -/
def liveMbx (s : State) (i : Init) (l : Lane) (o : Nat) : Word :=
  let m := s.mbox l
  let mgmt := i = .thr .mgmt
  if o < 0x40 then (if mgmt then (m.upQ.headD []).getD (o / 4) 0 else 0)
  else if 0x80 ≤ o ∧ o < 0xC0 then (if mgmt then 0 else (m.dnQ.headD []).getD ((o - 0x80) / 4) 0)
  else if o = 0xC8 then
    if ¬ (s.lane l).powered then 0 else nat32 (m.upQ.length + 16 * m.dnQ.length + 2 ^ 8 * (m.upQ.headD []).length + 2 ^ 13 * (m.dnQ.headD []).length +
      2 ^ 18 * b2n m.upOvf + 2 ^ 19 * b2n m.dnOvf)
  else 0

def liveSec (s : State) (a : Nat) (w : Word) : Word :=
  if a = SEC_STATUS then
    put (put (put w SEC_STATUS_MODE s.mode.code) SEC_STATUS_LC (lcState s)) SEC_STATUS_TRIAL (b2n s.sec.trial)
  else if a = SEC_LC then nat32 (svcLeft s * 4096 + rootMask s % 16 * 256 + rootMask s / 16 % 16 * 16)
  else if a = SEC_COMMIT then nat32 (4 * b2n (commitPending s) + 2 * b2n s.sec.commitReq)
  else if a = SEC_BANK then put w SEC_BANK_SELECTED s.sec.selected
  else if a = SEC_ATTEST_STAT then
    put (put w SEC_ATTEST_STAT_LEFT (min 2097151 (attLimit - s.sec.attNext))) SEC_ATTEST_STAT_EXHAUSTED (b2n (decide (attLimit ≤ s.sec.attNext)))
  else if 0x80902000 ≤ a ∧ a < 0x80904000 then nat32 (bytesAt s.sec.quote (a - 0x80902000) 4)
  else w

def liveAssay (s : State) (a : Nat) (w : Word) : Word :=
  if a = AST_STATUS then put w AST_STATUS_MAN_OK (b2n (manOk s))
  else if a = AST_SERDES_IDLE then nat32 (bitsOf ((List.range 20).map (serdesIdle s)))
  else w

/-- Supply flags by the majority of the partitions: VF1_UV, VF1_OV, VF2_UV, VF2_OV. -/
def vfFlags (s : State) : Nat :=
  let two := fun (f : IoPart → Nat) (g : Nat) => decide (2 ≤ (allLanes.filter fun l => natBit (f (s.part l)) g).length)
  bitsOf [two (fun p => p.uv) 0, two (fun p => p.ov) 0, two (fun p => p.uv) 1, two (fun p => p.ov) 1]

def liveIo (s : State) (a : Nat) (w : Word) : Word :=
  let drive := fun g => laneMask fun l => natBit (s.ixGates.get l) (24 + g)
  let live := bitsOf (channels.map fun ch => decide (2 ≤ (allLanes.filter fun l => natBit (s.part l).st ch).length))
  if a = IO_CFG_CRC then nat32 (ioCfgCrc s)
  else if a = IO_CONF_STAT then nat32 (ioConfirms s)
  else if a = IO_STATUS then nat32 (s.ix.sensed + 4 * vfFlags s + 64 * drive 0 + 512 * drive 1)
  else if a = IO_LIVE_LO then nat32 live
  else if a = IO_LIVE_HI then nat32 (live / 2 ^ 32)
  else w

def liveFabric (s : State) (i : Init) (a : Nat) (w : Word) : Word :=
  if a < 0x80100000 then liveTime s a w
  else if a < 0x80180000 then liveRing s ((a - 0x80100000) / 0x10000) (a % 0x10000) w
  else if a < 0x80200000 then w
  else if a < 0x80300000 then liveBridge s a w
  else if a < 0x80310000 then liveHex s a w
  else if a < 0x80400000 then liveEth s ((a - 0x80310000) / 0x10000) (a % 0x10000) w
  else if a < 0x80500000 then w
  else if a < 0x80600000 then livePower s a w
  else if a < 0x80608000 then livePic s .mgmt (a - 0x80600000) w
  else if a < 0x80700000 then
    match mbxOf a with
    | some l => liveMbx s i l (a % 0x400)
    | none => w
  else if a < 0x80800000 then (if a < 0x80700100 then liveCvu s .mgmt ((a - 0x80700000) / 0x40) (a % 0x40) w else w)
  else if a < 0x80900000 then (if a = REC_STATUS then put w REC_STATUS_QUEUE (min 1024 s.recorder.queue.length) else w)
  else if a < 0x80A00000 then liveSec s a w
  else if a < 0x80B00000 then liveAssay s a w
  else liveIo s a w

/-- The key of an address in an initiator's view. -/
def busKey (i : Init) (a : Nat) : Nat :=
  if a < 0x80000000 then
    match i with
    | .thr (.safe l) => laneKey l + a
    | .thr (.sys l) => laneKey l + a
    | _ => a
  else a

/-- The lane whose view an initiator has. -/
def viewLane : Init → Option Lane
  | .thr (.safe l) => some l
  | .thr (.sys l) => some l
  | _ => none

/-- The value a read of address a returns, before any effect of the read. -/
def liveReg (s : State) (i : Init) (a : Nat) : Word :=
  let w := storedReg s (busKey i a)
  if a < 0x80000000 then
    match viewLane i with
    | some l => liveLane s l a w
    | none => w
  else liveFabric s i a w

end Sys2Proof.Machine
end

