-- ==== Sys2Proof/Machine/Bus.lean ====
section
/-!
DEFINITION. Register accesses (R6 to R9, R399 to R402): a read with what it clears and latches, a write by the access code of each field,
the registers whose write is a command, and the commands of the table that are accesses.

Readings and choices: log entries 18 (DEDUCED), 39 (DEDUCED).
-/

namespace Sys2Proof.Machine

/-! ### Reads -/

def latchKey (i : Init) (k : Nat) : Nat := i.num * 2 ^ 40 + k

def latched (s : State) (i : Init) (k : Nat) : Option Word := Store.get (fun _ => none) s.latch (latchKey i k)

def setLatch (s : State) (i : Init) (k : Nat) (v : Option Word) : State :=
  { s with latch := Store.put (fun _ => none) s.latch (latchKey i k) v }

/-- The value a read returns: an unread latch of a _HI register, otherwise the live value (R401). -/
def readValue (s : State) (i : Init) (a : Nat) : Word := (latched s i (busKey i a)).getD (liveReg s i a)

/-- A read clears RC fields, spends the latch of a _HI register, and loads that of a _LO register's _HI (R6, R401). -/
def readEffect (s : State) (i : Init) (a : Nat) : State :=
  let k := busKey i a
  let v := readValue s i a
  let hi := liveReg s i (a + 4)
  let s := if (accOf k).rc = 0 then s else s.wr k (s.rd k &&& ~~~ (accOf k).rc)
  let s := if latched s i k = none then s else setLatch s i k none
  let s := if isLoKey k then setLatch s i (k + 4) (some hi) else s
  { s.drawn with rdData := Store.put (fun _ => 0) s.rdData i.num v }

def busRead (i : Init) (a : Nat) (s : State) : Word × State := (readValue s i a, readEffect s i a)

/-! ### Writes -/

/-- A write by the access codes (R6): SH bits to the shadow, RW bits to the value, W1C bits cleared where 1 is written; a W1C bit that a
hardware event sets in the same cycle (`ev`) is set after the write (R9). -/
def maskedWrite (s : State) (k : Nat) (w : Word) (ev : Word) : State :=
  let c := accOf k
  let s := if c.sh = 0 then s else s.shWr k ((s.shRd k &&& ~~~ c.sh) ||| (w &&& c.sh))
  let v := (s.rd k &&& ~~~ c.rw) ||| (w &&& c.rw)
  let v := (v &&& ~~~ (w &&& c.w1c)) ||| (ev &&& w &&& c.w1c)
  if v = s.rd k then s else s.wr k v

def bitSet (w : Word) (n : Nat) : Bool := natBit w.toNat n

/-- A W1C bit kept outside the register file after a write, with the events of the same cycle (R6, R9). -/
def clearedW1c (old : Bool) (w ev : Word) (n : Nat) : Bool := if bitSet w n then bitSet ev n else old

/-- Offset o of an interrupt controller. -/
def writePic (s : State) (e : Engine) (k o : Nat) (w : Word) (ev : Word) : State :=
  if o = 0x30 then picClr s e (getBits w 6 0)
  else if o = 0x34 then picSet s e (getBits w 6 0)
  else if o = 0x40 then s
  else maskedWrite s k w ev

/-- Offset o of check-value unit u. -/
def writeCvu (s : State) (e : Engine) (u k o : Nat) (w : Word) (ev : Word) : State :=
  if o = 0x00 then cvuCtrlWrite s e u w
  else if o = 0x08 ∨ o = 0x0C then unlessRun s e u fun s => maskedWrite s k w ev
  else if o = 0x10 then unlessRun s e u fun s => setRun s e u (cvuRun s e u / 2 ^ 32 * 2 ^ 32 + w.toNat)
  else if o = 0x14 then unlessRun s e u fun s => setRun s e u (w.toNat * 2 ^ 32 + cvuRun s e u % 2 ^ 32)
  else if o = 0x20 then cvuData s e u (beBytes 4 w.toNat)
  else if o = 0x24 then cvuData s e u [w.truncate 8]
  else maskedWrite s k w ev

def writeLane (s : State) (l : Lane) (a k : Nat) (w : Word) (ev : Word) : State :=
  if 0x04010000 ≤ a ∧ a < 0x04020000 then writePic s (.lane l) k (a - 0x04010000) w ev
  else if 0x04020000 ≤ a ∧ a < 0x04020100 then writeCvu s (.lane l) ((a - 0x04020000) / 0x40) k (a % 0x40) w ev
  else if a = 0x04000064 then retireRequest s l (getBits w 1 0)
  else if a = 0x0404001C then writeBrkReq s l (getBits w 3 0)
  else if a = 0x04040024 then writeFltClr s l (getBits w 25 0)
  else maskedWrite s k w ev

/-- An ISOLATE bit of RING_CTRL; the errors that a test ended here has counted are open (log entry 2). -/
def writeIso (s : State) (n : Nat) (p : Port) (b : Bool) : State :=
  if b then portIsolate s n p
  else if s.fb (fIso n p) then portIsolateEnd s.drawn n p (s.freeVal.toNat % 65536) else s

def writeRing (s : State) (n k o : Nat) (w : Word) (ev : Word) : State :=
  if o = 0x00 then
    let s := s.shWr k ((s.shRd k &&& ~~~ (accOf k).sh) ||| (w &&& (accOf k).sh))
    writeIso (writeIso s n .east (bitSet w 6)) n .west (bitSet w 7)
  else if o = 0x38 then
    let s := if bitSet w 0 then reinaug s n else s
    if bitSet w 1 then releaseHead s n else s
  else maskedWrite s k w ev

/-- A write to the table disarms; it awaits a new ARM_REQ (R177). -/
def tableWrite (s : State) (n k : Nat) (w : Word) (ev : Word) : State :=
  maskedWrite ((bandDisarm s n).updRing n fun r => { r with staged := false }) k w ev

/-- BAND_CONFIRM of lane l: only that lane's own SYS thread writes it (R177). -/
def writeConfirm (s : State) (i : Init) (n : Nat) (l : Lane) (w : Word) : State :=
  if i = .thr (.sys l) then bandConfirm s n l (some w) else s.incF (BAND_STATUS_BAD_CONF n)

def writeBand (s : State) (i : Init) (n k o : Nat) (w : Word) (ev : Word) : State :=
  if o = 0x00 then
    let s := tableWrite s n k w ev
    if bitSet w 16 then bandArmReq s n (tableTopo s n) else s
  else if o = 0x0C then writeConfirm s i n .a w
  else if o = 0x10 then writeConfirm s i n .b w
  else if o = 0x14 then writeConfirm s i n .c w
  else if 0x800 ≤ o then tableWrite s n k w ev
  else maskedWrite s k w ev

/-- The engine of a bridge engine port. -/
def epEngine : Nat → Engine
  | 0 => .lane .a | 1 => .lane .b | 2 => .lane .c | _ => .mgmt

def writePort (s : State) (e : Engine) (k o : Nat) (w : Word) (ev : Word) : State :=
  if o = 0x00 then epRequest s e (getBits w 31 30) (getBits w 15 0)
  else if o = 0x20 then epRxPop s e
  else if o = 0x40 then epAnPop s e
  else maskedWrite s k w ev

def writeBridge (s : State) (a : Nat) (w : Word) (ev : Word) : State :=
  if a = BRG_DOM_CMD then
    (match getBits w 7 6 with
     | 1 => domainResume s (getBits w 5 0)
     | 2 => domainFlush s (getBits w 5 0)
     | _ => s)
  else if a = BRG_FQ_POP then fqPop s
  else if 0x80208000 ≤ a ∧ a < 0x8020C000 then writePort s (epEngine ((a - 0x80208000) / 0x1000)) a (a % 0x1000) w ev
  else maskedWrite s a w ev

/-- Session 0 ignores writes (R409). -/
def writeHex (s : State) (a : Nat) (w : Word) (ev : Word) : State :=
  if a = HXL_CMD then hxlCmd s (getBits w 6 0) (getBits w 8 7)
  else if 0x80301000 ≤ a ∧ a < 0x80301040 then s
  else maskedWrite s a w ev

/-- PAIR_CMD; the partner's COLD_TAKE, which a cold switchover needs, is the partner's own and open here (log entry 2). -/
def writePair (s : State) (a : Nat) (w : Word) (ev : Word) : State :=
  if a = PAIR_CMD then
    let s := if bitSet w 0 then pairSwitch s.drawn (bitSet w 1) (s.freeVal.getLsbD 0) else s
    if bitSet w 2 then pairResync s else s
  else maskedWrite s a w ev

/-- The session of a PWR_RESTART record is the firmware's to name: open here (log entry 2). -/
def writePower (s : State) (i : Init) (a : Nat) (w : Word) (ev : Word) : State :=
  if a < 0x80500010 then reqWrite s i ((a - 0x80500000) / 4) w
  else if a = PWR_WAKE_CMD then (if bitSet w 0 then wakeCmd s i else s)
  else if a = PWR_PAD then (if bitSet w 8 then padRelease s else s)
  else if a = PWR_RESTART then (if i = .thr .mgmt then restart s.drawn w (s.freeVal.toNat % 65536) else s)
  else maskedWrite s a w ev

/-- The two sides of a mailbox (R95, R96). -/
def writeMbx (s : State) (i : Init) (l : Lane) (o : Nat) (w : Word) (ev : Word) : State :=
  let m := s.mbox l
  if i = .thr .mgmt then
    if 0x80 ≤ o ∧ o < 0xC0 then s.setMbox l { m with dnStage := Store.put (fun _ => 0) m.dnStage ((o - 0x80) / 4) w }
    else if o = 0xC0 then mbxDnPost s l (getBits w 4 0)
    else if o = 0x44 then mbxUpPop s l
    else if o = 0xC8 then s.setMbox l { m with dnOvf := clearedW1c m.dnOvf w ev 19 }
    else s
  else
    if o < 0x40 then s.setMbox l { m with upStage := Store.put (fun _ => 0) m.upStage (o / 4) w }
    else if o = 0x40 then mbxUpPost s l (getBits w 4 0)
    else if o = 0xC4 then mbxDnPop s l
    else if o = 0xC8 then s.setMbox l { m with upOvf := clearedW1c m.upOvf w ev 18 }
    else s

/-- SEC_BANK_CMD. -/
def writeBankCmd (s : State) (w : Word) : State :=
  let s := if bitSet w 0 then bankVerify s else s
  let s := if bitSet w 1 then bankSwitch s (bitSet w 3) else s
  if bitSet w 2 then bankConfirm s else s

/-- The bytes of a buffer word, most significant first. -/
def bufWrite (m : Store Byte) (off : Nat) (w : Word) : Store Byte := Store.putList byteZero m off (beBytes 4 w.toNat)

def writeSec (s : State) (a : Nat) (w : Word) (ev : Word) : State :=
  if a = SEC_CMD then (if bitSet w 0 then endService s else s)
  else if a = SEC_START then (if bitSet w 0 then startGo s else s)
  else if a = SEC_COMMIT then (if bitSet w 0 then commitReq s else s)
  else if a = SEC_BANK_CMD then writeBankCmd s w
  else if a = SEC_NOR_CMD then
    (if getBits w 31 30 = 1 ∨ getBits w 31 30 = 2 then norCmd s (getBits w 31 30) (getBits w 27 0) else s)
  else if a = SEC_TOKEN_CMD then (if bitSet w 0 then tokenSubmit s else s)
  else if a = SEC_ATTEST_CMD then (if bitSet w 0 then quoteStart s else s)
  else if 0x80901000 ≤ a ∧ a < 0x80902000 then s.updSec fun x => { x with tokenBuf := bufWrite x.tokenBuf (a - 0x80901000) w }
  else if 0x80904000 ≤ a ∧ a < 0x80905000 then s.updSec fun x => { x with norBuf := bufWrite x.norBuf (a - 0x80904000) w }
  else maskedWrite s a w ev

def writeFabric (s : State) (i : Init) (a : Nat) (w : Word) (ev : Word) : State :=
  if a < 0x80100000 then maskedWrite s a w ev
  else if a < 0x80180000 then writeRing s ((a - 0x80100000) / 0x10000) a (a % 0x10000) w ev
  else if a < 0x80200000 then writeBand s i ((a - 0x80180000) / 0x1000) a (a % 0x1000) w ev
  else if a < 0x80300000 then writeBridge s a w ev
  else if a < 0x80310000 then writeHex s a w ev
  else if a < 0x80400000 then maskedWrite s a w ev
  else if a < 0x80500000 then writePair s a w ev
  else if a < 0x80600000 then writePower s i a w ev
  else if a < 0x80608000 then writePic s .mgmt a (a - 0x80600000) w ev
  else if a < 0x80700000 then
    match mbxOf a with
    | some l => writeMbx s i l (a % 0x400) w ev
    | none => s
  else if a < 0x80700100 then writeCvu s .mgmt ((a - 0x80700000) / 0x40) a (a % 0x40) w ev
  else if a < 0x80900000 then (if a = REC_RD_SEQ_HI then recRead s (getBits w 15 0) else maskedWrite s a w ev)
  else if a < 0x80A00000 then writeSec s a w ev
  else if a = AST_MAN_CMD then (if bitSet w 0 then manualStart s else s)
  else maskedWrite s a w ev

/-- A write that has passed R89 and R91 reaches its register. -/
def regWrite (s : State) (i : Init) (a : Nat) (w : Word) (ev : Word) : State :=
  if a < 0x80000000 then
    match viewLane i with
    | some l => writeLane s l a (busKey i a) w ev
    | none => s
  else writeFabric s i a w ev

def busWrite (i : Init) (a : Nat) (w : Word) (s : State) : State := regWrite s i a w 0

/-! ### Accesses as commands -/

/-- The block at an address is reachable: a lane view's own, or a fabric block powered and clocked (R336, R410). -/
def reachable (s : State) (i : Init) (a : Nat) : Bool :=
  if a < 0x80000000 then
    match viewLane i with
    | some l => s.alive && (s.lane l).powered
    | none => false
  else s.alive && fabricOn s a

/-- An access to register space: refused by R399 or R91 it is the thread's fault, or refused by the firmware for the host (R400, R411);
offline it is logged and the thread faults (R336). A thread that issues nothing makes no access; a thread's access is an OST (0x39) or an OLD
(0x38), which CS_EINFO shows (R93). -/
def access (s : State) (i : Init) (a : Nat) (isWrite : Bool) (f : State → State) : State :=
  match i with
  | .thr t =>
    if (s.thread t).run ≠ .running then s
    else
      let opc := if isWrite then 0x39 else 0x38
      if a % 4 ≠ 0 ∨ ¬ inRegSpace a then deliverFault s t .bounds opc (nat32 a)
      else match rights s t a isWrite with
        | some x => deliverFault s t x opc (nat32 a)
        | none => if reachable s i a then f s else deliverFault (accErr s i a isWrite) t .offline opc (nat32 a)
  | .host =>
    if a % 4 ≠ 0 ∨ ¬ hostRights a isWrite ∨ ¬ hostServed s.mode a isWrite ∨ ¬ s.alive then s
    else if reachable s i a then f s else accErr s i a isWrite

/-- REG_WRITE. -/
def execRegWrite (i : Init) (addr : Word) (v : Word) (events : Word) (s : State) : Host.Outcome State Fault Refusal :=
  .next (access s i addr.toNat true fun s => regWrite s i addr.toNat v events)

/-- RC_READ: an event in the same cycle is a command of its own after the read, so it is kept (R9). -/
def execRcRead (i : Init) (addr : Word) (s : State) : Host.Outcome State Fault Refusal :=
  .next (access s i addr.toNat false fun s => readEffect s i addr.toNat)

/-- LO_READ_LATCH. -/
def execLoReadLatch (i : Init) (addr : Word) (s : State) : Host.Outcome State Fault Refusal :=
  .next (access s i addr.toNat false fun s => readEffect s i addr.toNat)

end Sys2Proof.Machine
end

