-- ==== Sys2Proof/Machine/PervoAlu.lean ====
section
/-!
DEFINITION. Coded arithmetic and logic, compares and address registers (R118, R119), with the plain mode of R113.
Each value path result meets its own check path (R112) at writeback (R111).

Readings and choices: log entry 17 (DEDUCED).
-/

namespace Sys2Proof.Machine

/-- The frame of a two-operand instruction whose X[5:0] is 0 and whose IMM is the result's signature. -/
def alu2 (op : PervoOp) (opc : Nat) (body : State → PRes) (s : State) : State :=
  issue op opc (xBits op 5 0 ≠ 0 || sigBad op || !(dst op).legal || !(src1 op).legal || !(src2 op).legal) none
    [src1 op, src2 op] body s

/-- The frame of a one-operand instruction: field S2 and its file bit X[6] are unused and 0 (R107). -/
def alu1 (op : PervoOp) (opc : Nat) (body : State → PRes) (s : State) : State :=
  issue op opc (xBits op 6 0 ≠ 0 || op.s2 ≠ 0 || sigBad op || !(dst op).legal || !(src1 op).legal) none
    [src1 op] body s

/-- v, c and B of an operand as the check path takes them. -/
def State.opC (s : State) (t : Thr) (r : Reg) : Nat := wordC (s.reg t r)

/-- A twin-form result of two operands: the value path's `f` on 32-bit values, the twin unit's `g`, plain `h`. -/
def twin2 (op : PervoOp) (f g : Nat → Nat → Nat) (h : DWord → DWord → DWord) (s : State) : PRes :=
  let t := op.thr
  let v1 := s.val t (src1 op)
  let v2 := s.val t (src2 op)
  match t with
  | .safe l => writeback s l (dst op) (f v1 v2) (chkTwin (laneA l) (g v1 v2) op.imm.toNat (s.dNow l)) op.imm.toNat
  | _ => .done (writePlain s t (dst op) (h (s.reg t (src1 op)) (s.reg t (src2 op))))

def caddBody (op : PervoOp) (s : State) : PRes :=
  let t := op.thr
  let v1 := s.val t (src1 op)
  let v2 := s.val t (src2 op)
  match t with
  | .safe l => writeback s l (dst op) ((v1 + v2) % 4294967296)
      (chkAdd (laneA l) (s.opC t (src1 op)) (s.opC t (src2 op)) (s.tag t (src1 op)) (s.tag t (src2 op)) op.imm.toNat
        (s.dNow l) v1 v2) op.imm.toNat
  | _ => .done (writePlain s t (dst op) (s.reg t (src1 op) + s.reg t (src2 op)))

def csubBody (op : PervoOp) (s : State) : PRes :=
  let t := op.thr
  let v1 := s.val t (src1 op)
  let v2 := s.val t (src2 op)
  match t with
  | .safe l => writeback s l (dst op) ((v1 + 4294967296 - v2) % 4294967296)
      (chkSub (laneA l) (s.opC t (src1 op)) (s.opC t (src2 op)) (s.tag t (src1 op)) (s.tag t (src2 op)) op.imm.toNat
        (s.dNow l) v1 v2) op.imm.toNat
  | _ => .done (writePlain s t (dst op) (s.reg t (src1 op) - s.reg t (src2 op)))

/-- Plain: Cs1 × Cs2[63:32] mod 2^64 (R113). -/
def cmulBody (op : PervoOp) (s : State) : PRes :=
  let t := op.thr
  let v1 := s.val t (src1 op)
  let v2 := s.val t (src2 op)
  match t with
  | .safe l => writeback s l (dst op) (v1 * v2 % 4294967296)
      (chkMul (laneA l) (s.opC t (src1 op)) (s.tag t (src1 op)) op.imm.toNat (s.dNow l) v1 v2) op.imm.toNat
  | _ => .done (writePlain s t (dst op) (s.reg t (src1 op) * BitVec.ofNat 64 v2))

/-- Bitwise NOT of a C register, logical NOT of a predicate (R118); plain: a predicate source inverts bit 0. -/
def cnotBody (op : PervoOp) (s : State) : PRes :=
  let t := op.thr
  let r := src1 op
  let v1 := s.val t r
  match t with
  | .safe l =>
    if r.isP then
      writeback s l (dst op) (1 - v1)
        (chkNotP (laneA l) (s.opC t r) (s.tag t r) op.imm.toNat (s.dNow l)) op.imm.toNat
    else
      writeback s l (dst op) (not32 v1)
        (chkNot (laneA l) (s.opC t r) (s.tag t r) op.imm.toNat (s.dNow l)) op.imm.toNat
  | _ => .done (writePlain s t (dst op) (if r.isP then s.reg t r ^^^ 1 else ~~~ s.reg t r))

/-- The predicate of CSEL: Pk with k = X[3:0]. -/
def selPred (op : PervoOp) : Reg := ⟨true, xBits op 3 0⟩

/-- The source of the select is chosen twice: by the value path from v, by the check path from (c_p - B_p - D) mod P
(R112); they differ only where the predicate's check is bad. -/
def cselBody (op : PervoOp) (s : State) : PRes :=
  let t := op.thr
  let rv := if s.pred t (selPred op) then src1 op else src2 op
  match t with
  | .safe l =>
    let rc := if chkPred (s.opC t (selPred op)) (s.tag t (selPred op)) (s.dNow l) = laneA l then src1 op else src2 op
    writeback s l (dst op) (s.val t rv) (chkMov (s.opC t rc) (s.tag t rc) op.imm.toNat) op.imm.toNat
  | _ => .done (writePlain s t (dst op) (s.reg t rv))

def cmovBody (op : PervoOp) (s : State) : PRes :=
  let t := op.thr
  let r := src1 op
  result s t (dst op) (s.val t r) (chkMov (s.opC t r) (s.tag t r) op.imm.toNat) op.imm.toNat (s.reg t r)

/-- IMM coded under the short signature with W = 0; the code unit forms c (R118). -/
def cldiBody (op : PervoOp) (s : State) : PRes :=
  codedResult s op.thr (dst op) op.imm.toNat (shortSig (shortSS op) 0)

/-- A shift by X[4:0]. -/
def shiftBody (op : PervoOp) (f g : Nat → Nat → Nat) (h : DWord → Nat → DWord) (s : State) : PRes :=
  let t := op.thr
  let n := xBits op 4 0
  let v1 := s.val t (src1 op)
  match t with
  | .safe l => writeback s l (dst op) (f v1 n) (chkTwin (laneA l) (g v1 n) op.imm.toNat (s.dNow l)) op.imm.toNat
  | _ => .done (writePlain s t (dst op) (h (s.reg t (src1 op)) n))

/-- The comparison, its twin on the complements (R119); plain: of the 64-bit words. -/
def ccmpBody (op : PervoOp) (s : State) : PRes :=
  let t := op.thr
  let cond := xBits op 2 0
  let v1 := s.val t (src1 op)
  let v2 := s.val t (src2 op)
  match t with
  | .safe l => writeback s l ⟨true, op.d.toNat⟩ (b2n (cmpHolds 32 cond v1 v2))
      (chkTwin (laneA l) (b2n (twinCmp cond v1 v2)) op.imm.toNat (s.dNow l)) op.imm.toNat
  | _ => .done (writePlain s t ⟨true, op.d.toNat⟩
      (BitVec.ofNat 64 (b2n (cmpHolds 64 cond (s.reg t (src1 op)).toNat (s.reg t (src2 op)).toNat))))

/-- Write an address register. -/
def setA (s : State) (t : Thr) (n : Nat) (w : Word) : State :=
  s.updThread t fun x => { x with a := Store.put (fun _ => 0) x.a n w }

def execCadd (op : PervoOp) (s : State) : Host.Outcome State Fault Refusal :=
  .next (alu2 op 0x10 (caddBody op) s)

def execCsub (op : PervoOp) (s : State) : Host.Outcome State Fault Refusal :=
  .next (alu2 op 0x11 (csubBody op) s)

def execCmul (op : PervoOp) (s : State) : Host.Outcome State Fault Refusal :=
  .next (alu2 op 0x12 (cmulBody op) s)

def execCand (op : PervoOp) (s : State) : Host.Outcome State Fault Refusal :=
  .next (alu2 op 0x13 (twin2 op (· &&& ·) twinAnd (· &&& ·)) s)

def execCor (op : PervoOp) (s : State) : Host.Outcome State Fault Refusal :=
  .next (alu2 op 0x14 (twin2 op (· ||| ·) twinOr (· ||| ·)) s)

def execCxor (op : PervoOp) (s : State) : Host.Outcome State Fault Refusal :=
  .next (alu2 op 0x15 (twin2 op (· ^^^ ·) twinXor (· ^^^ ·)) s)

def execCnot (op : PervoOp) (s : State) : Host.Outcome State Fault Refusal :=
  .next (alu1 op 0x16 (cnotBody op) s)

def execCsel (op : PervoOp) (s : State) : Host.Outcome State Fault Refusal :=
  .next (issue op 0x17 (xBits op 5 4 ≠ 0 || sigBad op || !(dst op).legal || !(src1 op).legal || !(src2 op).legal) none
    [src1 op, src2 op, selPred op] (cselBody op) s)

def execCmov (op : PervoOp) (s : State) : Host.Outcome State Fault Refusal :=
  .next (alu1 op 0x18 (cmovBody op) s)

def execCldi (op : PervoOp) (s : State) : Host.Outcome State Fault Refusal :=
  .next (issue op 0x19 (xBits op 7 6 ≠ 0 || op.s1 ≠ 0 || !(dst op).legal) none [] (cldiBody op) s)

def execCshl (op : PervoOp) (s : State) : Host.Outcome State Fault Refusal :=
  .next (issue op 0x1A (xBits op 6 5 ≠ 0 || op.s2 ≠ 0 || sigBad op || !(dst op).legal || !(src1 op).legal) none [src1 op]
    (shiftBody op (fun v n => v * 2 ^ n % 4294967296) twinShl (fun w n => w <<< n)) s)

def execCshr (op : PervoOp) (s : State) : Host.Outcome State Fault Refusal :=
  .next (issue op 0x1B (xBits op 6 5 ≠ 0 || op.s2 ≠ 0 || sigBad op || !(dst op).legal || !(src1 op).legal) none [src1 op]
    (shiftBody op (fun v n => v / 2 ^ n) twinShr (fun w n => w >>> n)) s)

def execCcmp (op : PervoOp) (s : State) : Host.Outcome State Fault Refusal :=
  .next (issue op 0x20 (xBits op 8 8 ≠ 0 || xBits op 5 3 ≠ 0 || decide (6 ≤ xBits op 2 0) || sigBad op ||
      decide (16 ≤ op.d.toNat) || !(src1 op).legal || !(src2 op).legal) none
    [src1 op, src2 op] (ccmpBody op) s)

def execAset (op : PervoOp) (s : State) : Host.Outcome State Fault Refusal :=
  .next (issue op 0x28 (op.x ≠ 0 || op.s1 ≠ 0 || op.s2 ≠ 0 || decide (16 ≤ op.d.toNat)) none []
    (fun s => .done (setA s op.thr op.d.toNat op.imm)) s)

def execAadd (op : PervoOp) (s : State) : Host.Outcome State Fault Refusal :=
  .next (issue op 0x29 (op.x ≠ 0 || op.s2 ≠ 0 || decide (16 ≤ op.d.toNat) || decide (16 ≤ op.s1.toNat)) none []
    (fun s => .done (setA s op.thr op.d.toNat (s.areg op.thr op.s1.toNat + op.imm))) s)

/-- The scales of AIDX (R119). -/
def idxScale : Nat → Nat
  | 0 => 1 | 1 => 4 | 2 => 8 | _ => 1024

def execAidx (op : PervoOp) (s : State) : Host.Outcome State Fault Refusal :=
  .next (issue op 0x2A (xBits op 8 2 ≠ 0 || decide (16 ≤ op.d.toNat) || decide (16 ≤ op.s1.toNat)) none
    [⟨false, op.s2.toNat⟩]
    (fun s => .done (setA s op.thr op.d.toNat
      (s.areg op.thr op.s1.toNat + BitVec.ofNat 32 (s.val op.thr ⟨false, op.s2.toNat⟩ * idxScale (xBits op 1 0)) + op.imm))) s)

end Sys2Proof.Machine
end

