-- ==== Sys2Proof/Machine/PervoMem.lean ====
section
/-!
DEFINITION. Loads and stores: the object forms and the address forms of OLD, OST, OBIT and OSCN (R85, R86, R120 to R122).

Readings and choices: log entry 17 (DEDUCED).
-/

namespace Sys2Proof.Machine

/-- X[8]: the address form (R120). -/
def addrForm (op : PervoOp) : Bool := op.x.getLsbD 8

/-- Field D of OLD and OST, with the file that X[6] selects. -/
def datum (op : PervoOp) : Reg := ⟨op.x.getLsbD 6, op.d.toNat⟩

/-- Undefined encodings of OLD and OST (R115): an object reference and no S1, S2, SS in the object form; an A register in the
address form. X[7] is CARRY, the row's own. -/
def oldUnd (op : PervoOp) : Bool :=
  !(datum op).legal ||
  (if addrForm op then decide (16 ≤ op.s1.toNat)
   else op.s1 ≠ 0 || op.s2 ≠ 0 || xBits op 5 0 ≠ 0 || objRefBad op)

/-- The memory a thread's address falls in, as an 8-byte word. -/
def loadWord (s : State) (t : Thr) (a : Nat) : DWord :=
  match t with
  | .safe l => memWord (s.lane l).mem a
  | .sys l => memWord (s.lane l).mem a
  | .mgmt => memWord s.mmem a

/-- A SAFE load that finds a coded word (LMEM, OMEM): checked as stored under B for `d`, delivered for the present D. -/
def loadCoded (s : State) (l : Lane) (r : Reg) (w : DWord) (b d bOut : Nat) : PRes :=
  if codeOk l w b d then
    writeback s l r (wordV w) (modP ((wordC w : Int) - b - d + bOut + s.dNow l)) bOut
  else .fail s .code 0

/-- The address form of OLD with CARRY = 0, once the access may proceed. -/
def oldAddrRead (op : PervoOp) (a : Nat) (s : State) : PRes :=
  let t := op.thr
  let b := shortSig (shortSS op) (sigW s t op.s1.toNat a (accSize a))
  match t, target s t a with
  | .safe l, .lmemSafe => loadCoded s l (datum op) (loadWord s t a) b (s.dNow l) b
  | .safe l, .omem => loadCoded s l (datum op) (loadWord s t a) b (s.dNow l) b
  | .safe l, .routeRegion =>
    loadCoded s l (datum op) (loadWord s t a) (shortSig (s.fv (RTE_RSS_RSS l)) ((a - 0x02800000) / 8)) 0 b
  | _, tg =>
    if tg = .laneReg ∨ tg = .snapWin ∨ tg = .fabric then
      let r := busRead (.thr t) a s
      codedResult r.2 t (datum op) r.1.toNat b
    else
      -- a plain word of memory: v in bits [63:32] for SAFE (R86, R113), unchanged in plain mode (R85)
      match t with
      | .safe _ => codedResult s t (datum op) (wordV (loadWord s t a)) b
      | _ => .done (writePlain s t (datum op) (loadWord s t a))

def oldAddr (op : PervoOp) (s : State) : PRes :=
  let a := effAddr s op
  match accessFault s op.thr op.s1.toNat a true false with
  | some f => accessFail s op.thr f a false
  | none => eccGuard op s a (oldAddrRead op a s)

/-- The object form of OLD: checked at the present D in SAFE, the stored word unchanged in SYS. -/
def oldObj (op : PervoOp) (s : State) : PRes :=
  let l := laneOf op.thr
  let w := omemWord s l (objIdx op) (objFld op)
  let b := fieldSig s l (objIdx op) (objFld op)
  eccGuard op s (omemAddr (objIdx op) (objFld op)) (
    match op.thr with
    | .safe l => loadCoded s l (datum op) w b (s.dNow l) b
    | t => .done (writePlain s t (datum op) w))

/-- The first fault of an access under SYS and the management thread is protection, tested before the descriptor (R116). -/
def execOld (op : PervoOp) (s : State) : Host.Outcome State Fault Refusal :=
  .next (issue op 0x38 (oldUnd op || op.x.getLsbD 7) (if addrForm op then none else notMgmt op.thr) []
    (fun s => if addrForm op then oldAddr op s else oldObj op s) s)

/-- The carry of an OMEM field (R121): accepted only at D_prev, recoded into the field and into field D; a code fault at the writeback of
field D writes neither (R93, R111). -/
def carryObj (op : PervoOp) (s : State) : PRes :=
  let l := laneOf op.thr
  let i := objIdx op
  let f := objFld op
  eccGuard op s (omemAddr i f) (
    match carryField s l i f with
    | some s' =>
      (match writeback s' l (datum op) (wordV (omemWord s' l i f)) (wordC (omemWord s' l i f)) (fieldSig s l i f) with
       | .fail _ x ea => .fail s x ea
       | r => r)
    | none => .fail s .code 0)

/-- The carry of a word of the SAFE part of LMEM, through a descriptor with R and W; any other EA is a bounds fault
(R121). -/
def carryAddr (op : PervoOp) (s : State) : PRes :=
  let l := laneOf op.thr
  let a := effAddr s op
  if target s op.thr a ≠ .lmemSafe ∨ ¬ rgnOk s op.thr op.s1.toNat a 8 true true then
    .fail s .bounds (BitVec.ofNat 32 a)
  else eccGuard op s a (
    let w := loadWord s op.thr a
    let b := shortSig (shortSS op) (sigW s op.thr op.s1.toNat a 8)
    let e := (s.lane l).frozenE
    if codeOk l w b (dPrev e) then
      let c := modP ((wordC w : Int) + (dOf e : Int) - dPrev e)
      match writeback s l (datum op) (wordV w) c b with
      | .done s' => .done (s'.updLane l fun x => { x with mem := memSetWord x.mem a (mkWord (wordV w) c) })
      | r => r
    else .fail s .code (BitVec.ofNat 32 a))

/-- A carry is PROT in SYS; in the management thread the object form is undefined and the address form PROT (R92). -/
def execOldCarry (op : PervoOp) (s : State) : Host.Outcome State Fault Refusal :=
  .next (issue op 0x38 (oldUnd op)
    (match op.thr with
     | .safe _ => none
     | .sys _ => some .prot
     | .mgmt => if addrForm op then some .prot else some .undef) []
    (fun s => if addrForm op then carryAddr op s else carryObj op s) s)

/-- The object form of OST: re-signed, c = c_s - B_s + B_f (R120). -/
def ostObj (op : PervoOp) (s : State) : PRes :=
  let l := laneOf op.thr
  let r := datum op
  let bf := fieldSig s l (objIdx op) (objFld op)
  eccGuard op s (omemAddr (objIdx op) (objFld op)) (
    if chkMov (wordC (s.reg op.thr r)) (s.tag op.thr r) bf = checkOf l (s.val op.thr r) bf (s.dNow l) then
      match objStore s l (objIdx op) (objFld op) (s.val op.thr r) with
      | some s' => .done s'
      | none => .fail s .code (BitVec.ofNat 32 (omemAddr (objIdx op) (objFld op)))
    else .fail s .code 0)

/-- A store to register space: the pc has advanced when the write takes effect, since a write may restart the thread or reset the module.
Where the write is itself the thread's fault (R385), the store has not completed and the pc stays on it (R93). -/
def busStore (t : Thr) (a : Nat) (w : Word) (s : State) : PRes :=
  let pc := (s.thread t).pc
  let s' := busWrite (.thr t) a w (nextPc s t (pc + 8))
  .settled (if (s'.thread t).run = .faulted then nextPc s' t pc else s')

/-- The word of an address-form store, once it may proceed: SAFE re-signs to the short signature into the SAFE part of LMEM; a
plain store writes the 64-bit word, or bits [63:32] into a register (R85, R89). -/
def ostAddrWrite (op : PervoOp) (a : Nat) (s : State) : PRes :=
  let t := op.thr
  let r := datum op
  match t with
  | .safe l =>
    let b := shortSig (shortSS op) (sigW s t op.s1.toNat a 8)
    let c := chkMov (wordC (s.reg t r)) (s.tag t r) b
    if c = checkOf l (s.val t r) b (s.dNow l) then
      .done (s.updLane l fun x => { x with mem := memSetWord x.mem a (mkWord (s.val t r) c) })
    else .fail s .code (BitVec.ofNat 32 a)
  | .sys l =>
    if target s t a = .lmemSys then .done (s.updLane l fun x => { x with mem := memSetWord x.mem a (s.reg t r) })
    else busStore t a (BitVec.ofNat 32 (s.val t r)) s
  | .mgmt =>
    if target s t a = .mmem then .done { s with mmem := memSetWord s.mmem a (s.reg t r) }
    else busStore t a (BitVec.ofNat 32 (s.val t r)) s

def ostAddr (op : PervoOp) (s : State) : PRes :=
  let a := effAddr s op
  match accessFault s op.thr op.s1.toNat a false true with
  | some f => accessFail s op.thr f a true
  | none => eccGuard op s a (ostAddrWrite op a s)

/-- X[7] is 0 in OST. The object form is PROT in SYS and undefined in the management thread. -/
def execOst (op : PervoOp) (s : State) : Host.Outcome State Fault Refusal :=
  .next (issue op 0x39 (oldUnd op || op.x.getLsbD 7) (if addrForm op then none else onlySafe op.thr) [datum op]
    (fun s => if addrForm op then ostAddr op s else ostObj op s) s)

/-- OBIT (R120): bit b of v into Pd, twin check, short signature with W = 0. -/
def obitBody (op : PervoOp) (s : State) : PRes :=
  let l := laneOf op.thr
  let b := immBits op 11 6
  eccGuard op s (omemAddr (objIdx op) (objFld op)) (
    match fieldV s op.thr l (objIdx op) (objFld op) with
    | some v => predResult s op.thr op.d.toNat (natBit v b) (shortSig (shortSS op) 0)
    | none => .fail s .code 0)

def execObit (op : PervoOp) (s : State) : Host.Outcome State Fault Refusal :=
  .next (issue op 0x3A (xBits op 8 7 ≠ 0 || !op.x.getLsbD 6 || op.s1 ≠ 0 || decide (16 ≤ op.d.toNat) ||
      immBits op 5 0 ≠ 0 || decide (32 ≤ immBits op 11 6)) (notMgmt op.thr) [] (obitBody op) s)

/-! ### OSCN (R122) -/

/-- The fields that the mask names, in ascending order. -/
def maskFields (fm : Nat) : List Nat := (List.range 8).filter fun f => natBit fm f

/-- Field 0's check under the D that the scan applies to it. -/
def scanHeadOk (s : State) (l : Lane) (carry : Bool) (fm i : Nat) : Bool :=
  let e := (s.lane l).frozenE
  fieldOk s l i 0 (if carry && natBit fm 0 then dPrev e else dOf e)

/-- Process the fields of one object; an error keeps the fields already carried. -/
def scanFields (l : Lane) (coded carry : Bool) (i : Nat) : List Nat → State → Except State State
  | [], s => .ok s
  | f :: r, s =>
    if ¬ coded then scanFields l coded carry i r s
    else if carry then
      match carryField s l i f with
      | some s' => scanFields l coded carry i r s'
      | none => .error s
    else if fieldOk s l i f (s.dNow l) then scanFields l coded carry i r s else .error s

/-- Scan up to `n` objects from `i` on, of type `ty`: the state and how many were processed, or the state at the failed check. -/
def scanObjs (l : Lane) (coded carry : Bool) (fm ty : Nat) : Nat → Nat → Nat → State → Except State (State × Nat)
  | 0, _, m, s => .ok (s, m)
  | n + 1, i, m, s =>
    if coded && !scanHeadOk s l carry fm i then .error s
    else if wordV (omemWord s l i 0) / 67108864 ≠ ty then .ok (s, m)
    else match scanFields l coded carry i (maskFields fm) s with
      | .ok s' => scanObjs l coded carry fm ty n (i + 1) (m + 1) s'
      | .error s' => .error s'

def oscnBody (op : PervoOp) (s : State) : PRes :=
  let l := laneOf op.thr
  let n := s.val op.thr ⟨false, op.s1.toNat⟩
  let fm := xBits op 7 0
  let carry := op.x.getLsbD 8
  let i0 := objIdx op
  let b := s.tag op.thr ⟨false, op.s1.toNat⟩
  if n = 0 ∨ fm = 0 then codedResult s op.thr ⟨false, op.d.toNat⟩ 0 b
  else if 131072 < i0 + n then .fail s .bounds 0
  else eccGuard op s (omemAddr i0 0) (
    match scanObjs l op.thr.isSafe carry fm (wordV (omemWord s l i0 0) / 67108864) n i0 0 s with
    | .ok (s', m) => codedResult s' op.thr ⟨false, op.d.toNat⟩ m b
    | .error s' => .fail s' .code 0)

def execOscn (op : PervoOp) (s : State) : Host.Outcome State Fault Refusal :=
  .next (issue op 0x3B (op.s2 ≠ 0 || immBits op 14 0 ≠ 0)
    (match op.thr with
     | .mgmt => some .undef
     | .sys _ => if op.x.getLsbD 8 then some .prot else none
     | .safe _ => none) [⟨false, op.s1.toNat⟩] (oscnBody op) s)

end Sys2Proof.Machine
end

