-- ==== Sys2Proof/Machine/PervoBridge.lean ====
section
/-!
DEFINITION. BRSEND (R127, R247): a WRITE to the bridge from the engine's own message port.

Readings and choices: log entry 19 (DEDUCED).
-/

namespace Sys2Proof.Machine

/-- The port block of an engine. -/
def epAddr (e : Engine) : Nat := 0x80208000 + 0x1000 * e.num

/-- The coding a SAFE read expects at an address, as the address form of OLD: signature and D; none where the word is plain (R86, R110). -/
def brCoding (op : PervoOp) (l : Lane) (a : Nat) (s : State) : Option (Nat × Nat) :=
  let b := shortSig op.x.toNat (sigW s op.thr op.s1.toNat a (accSize a))
  match target s op.thr a with
  | .lmemSafe => some (b, s.dNow l)
  | .omem => some (b, s.dNow l)
  | .routeRegion => some (shortSig (s.fv (RTE_RSS_RSS l)) ((a - 0x02800000) / 8), 0)
  | _ => none

/-- v of the word at an address, and the state after the read; none where its check fails (R52). -/
def brWord (op : PervoOp) (a : Nat) (s : State) : Option (Nat × State) :=
  let w := loadWord s op.thr a
  if inRegSpace a then
    let r := busRead (.thr op.thr) a s
    some (r.1.toNat, r.2)
  else
    match op.thr with
    | .safe l =>
      match brCoding op l a s with
      | some (b, d) => if codeOk l w b d then some (wordV w, s) else none
      | none => some (wordV w, s)
    | _ => some (wordV w, s)

/-- The words' v, in order. -/
def brWords (op : PervoOp) : List Nat → State → Option (List Nat × State)
  | [], s => some ([], s)
  | a :: r, s =>
    match brWord op a s with
    | none => none
    | some (v, s') => (brWords op r s').map fun x => (v :: x.1, x.2)

/-- The message: no rule gives BRSEND's TAG, which is open (log entry 2). -/
def brMessage (s : State) (op : PervoOp) (len : Nat) (vs : List Nat) : BrgMsg :=
  { brgBlank with op := 1, tag := s.freeVal.toNat % 65536, id := op.imm.toNat, dlen := len, data := (vs.flatMap (beBytes 4)).take len }

/-- The first fault of the reads in the order of R116, with its address: protection of any word, bounds (L above 1,024 first), offline. -/
def brFault (op : PervoOp) (len ea : Nat) (as : List Nat) (s : State) : Option (PFault × Nat) :=
  let first := fun f => as.find? fun a => accessFault s op.thr op.s1.toNat a true false = some f
  match first .prot with
  | some a => some (.prot, a)
  | none =>
    if 1024 < len then some (.bounds, ea)
    else match first .bounds with
      | some a => some (.bounds, a)
      | none =>
        match first .offline with
        | some a => some (.offline, a)
        | none => none

def brsendBody (op : PervoOp) (s : State) : PRes :=
  let t := op.thr
  let len := s.val t ⟨false, op.s2.toNat⟩
  let ea := (s.areg t op.s1.toNat).toNat
  let as := (List.range ((len + 3) / 4)).map fun j => (ea + 8 * j) % 2 ^ 32
  match brFault op len ea as s with
  | some x => accessFail s t x.1 x.2 false
  | none =>
    if ¬ fabricOn s (epAddr t.engine) then accessFail s t .offline (epAddr t.engine) true
    else eccGuard op s ea (
      match brWords op as s with
      | none => .fail s .code (BitVec.ofNat 32 ea)
      | some (vs, s') => .done (ingress s'.drawn (brMessage s' op len vs) ⟨enginePort t.engine, 0, 0, 0⟩ true))

/-- Field D is unused; S1 names an A register. -/
def execBrsend (op : PervoOp) (s : State) : Host.Outcome State Fault Refusal :=
  .next (issue op 0x54 (op.d ≠ 0 || decide (16 ≤ op.s1.toNat)) none [⟨false, op.s2.toNat⟩] (brsendBody op) s)

end Sys2Proof.Machine
end

