-- ==== Sys2Proof/Machine/PervoRoute.lean ====
section
/-!
DEFINITION. The route engine's instructions (R124, R150 to R153) and the timers (R125, R126, R139).

Readings and choices: log entries 9 (DEDUCED), 17 (DEDUCED), 50 (DEDUCED).
-/

namespace Sys2Proof.Machine

/-- A code fault of the route engine: SAFE takes it; under SYS the lane withdraws with CODE_FAULT all the same (R144) and
the instruction writes nothing else (log entry 9). -/
def routeCodeFault (s : State) (t : Thr) : PRes :=
  match t with
  | .sys l => .done (withdraw s l .codeFault)
  | _ => .fail s .code 0

/-- The frame of a route instruction: Pd, S1, IMM the signature. -/
def routeOp (op : PervoOp) (opc : Nat) (xBad : Bool) (restr : Option PFault) (body : Lane → Nat → State → PRes) (s : State) :
    State :=
  issue op opc (xBad || op.s2 ≠ 0 || decide (16 ≤ op.d.toNat) || sigBad op) restr [⟨false, op.s1.toNat⟩]
    (fun s =>
      let l := laneOf op.thr
      let r := s.val op.thr ⟨false, op.s1.toNat⟩
      if 4096 ≤ r then .fail s .bounds 0
      else match routeRec s l r 0 with
        | none => routeCodeFault s op.thr
        | some v => if natBit v 31 then eccGuard op s 0 (body l r s) else .fail s .bounds 0) s

/-- RTE_LAST (RTLOCK 1, RTREL 2, FLANK 3). -/
def rteLast (s : State) (l : Lane) (opn r : Nat) (b : Bool) : State :=
  ((s.setF (RTE_LAST_OP l) opn).setF (RTE_LAST_ROUTE l) r).setB (RTE_LAST_RESULT l) b

/-- A twin-checked route result: value path `b`, twin unit `bt`. -/
def twinPred (s : State) (t : Thr) (n : Nat) (b bt : Bool) (bd : Nat) : PRes :=
  match t with
  | .safe l => writeback s l ⟨true, n⟩ (b2n b) (chkTwin (laneA l) (b2n bt) bd (s.dNow l)) bd
  | _ => .done (writePlain s t ⟨true, n⟩ (BitVec.ofNat 64 (b2n b)))

def execRtreq (op : PervoOp) (s : State) : Host.Outcome State Fault Refusal :=
  .next (routeOp op 0x40 (op.x ≠ 0) (notMgmt op.thr)
    (fun l r s => twinPred s op.thr op.d.toNat (routeFree s l r) (routeFreeTwin s l r) op.imm.toNat) s)

/-- The effects of an RTLOCK whose test gave `b`. -/
def rtlockEffect (s : State) (l : Lane) (r : Nat) (b : Bool) : State :=
  let s := rteLast s l 1 r b
  if b then
    ((s.updLane l fun x => { x with locked := x.locked ||| lockBit r }).incF (RTE_OPS_LOCK_OK l)).raise (.lane l) 24
  else s.incF (RTE_OPS_LOCK_REFUSED l)

def execRtlock (op : PervoOp) (s : State) : Host.Outcome State Fault Refusal :=
  .next (routeOp op 0x41 (op.x ≠ 0) (onlySafe op.thr)
    (fun l r s => twinPred (rtlockEffect s l r (routeFree s l r)) op.thr op.d.toNat (routeFree s l r) (routeFreeTwin s l r)
      op.imm.toNat) s)

def rtrelEffect (s : State) (l : Lane) (r : Nat) : State :=
  let b := lockedAt (s.lane l).locked r
  let s := rteLast s l 2 r b
  if b then (s.updLane l fun x => { x with locked := x.locked &&& ~~~ lockBit r }).raise (.lane l) 25 else s

def execRtrel (op : PervoOp) (s : State) : Host.Outcome State Fault Refusal :=
  .next (routeOp op 0x42 (op.x ≠ 0) (onlySafe op.thr)
    (fun l r s => predResult (rtrelEffect s l r) op.thr op.d.toNat (lockedAt (s.lane l).locked r) op.imm.toNat) s)

/-- One flank object of a set may be reserved or released (R152); `none`: a field that the test names fails its check. The release test names
RCNT alone, so a release reads no header (log entry 50). -/
def flankMay (s : State) (t : Thr) (l : Lane) (reserve : Bool) (i : Nat) : Option Bool :=
  match fieldV s t l i 2 with
  | none => none
  | some f2 =>
    if reserve then (fieldV s t l i 0).map fun h => decide (f2 % 256 < 255) && !hdrBlocked h && !hdrStale h
    else some (decide (1 ≤ f2 % 256))

/-- Step RCNT of every object of the set through the store path of OST. -/
def flankWrite (l : Lane) (reserve : Bool) : List Nat → State → Option State
  | [], s => some s
  | i :: r, s =>
    let v := wordV (omemWord s l i 2)
    let n := if reserve then (v % 256 + 1) % 256 else (v % 256 + 255) % 256
    match objStore s l i 2 (v / 256 * 256 + n) with
    | some s' => flankWrite l reserve r s'
    | none => none

/-- FLANK (R152), all or nothing, each object of the set once. Sources 26 and 27 tell a refusal. -/
def flankBody (op : PervoOp) (reserve : Bool) (l : Lane) (r : Nat) (s : State) : PRes :=
  match routeListOf s l r 3 with
  | none => routeCodeFault s op.thr
  | some es =>
    let set := (es.map fun e => e.1).dedup
    let may := set.map fun i => flankMay s op.thr l reserve i
    if may.any fun m => m.isNone then .fail s .code 0
    else if may.all fun m => m = some true then
      match flankWrite l reserve set s with
      | some s' => predResult (rteLast s' l 3 r true) op.thr op.d.toNat true op.imm.toNat
      | none => .fail s .code 0
    else
      predResult ((rteLast s l 3 r false).raise (.lane l) (if reserve then 26 else 27)) op.thr op.d.toNat false op.imm.toNat

/-- X[0] = 1 reserves (the row's own bit); the other X bits are 0. -/
def execFlankReserve (op : PervoOp) (s : State) : Host.Outcome State Fault Refusal :=
  .next (routeOp op 0x43 (xBits op 8 1 ≠ 0) (onlySafe op.thr) (flankBody op true) s)

def execFlankRelease (op : PervoOp) (s : State) : Host.Outcome State Fault Refusal :=
  .next (routeOp op 0x43 (xBits op 8 1 ≠ 0) (onlySafe op.thr) (flankBody op false) s)

/-! ### Element tests (R151). Each answers `none` where a field read fails its check (R153). -/

def isSection (ty : Nat) : Bool := ty = 1 || ty = 4

def sectionClear (s : State) (t : Thr) (l : Lane) (r i : Nat) : Option Bool :=
  match fieldV s t l i 0, fieldV s t l i 1, fieldV s t l i 2 with
  | some h, some f1, some f2 =>
    some (natBit f1 0 && !hdrForced h && !hdrStale h && (f2 % 8192 = 0 || f2 % 8192 = r + 1))
  | _, _, _ => none

def pointDetected (s : State) (t : Thr) (l : Lane) (i req : Nat) : Option Bool :=
  match fieldV s t l i 0, fieldV s t l i 2 with
  | some h, some f2 => some (f2 % 4 = req && hdrFresh h && !hdrForced h && !hdrStale h)
  | _, _ => none

def crossingClosed (s : State) (t : Thr) (l : Lane) (i : Nat) : Option Bool :=
  match fieldV s t l i 0, fieldV s t l i 2 with
  | some h, some f2 => some (natBit f2 0 && hdrFresh h)
  | _, _ => none

/-- A flank entry: its protecting point or signal (R140, R151); PROT_OBJ and REQ that name neither fail the entry, and nothing of the object is
read. -/
def flankProtected (s : State) (t : Thr) (l : Lane) (i : Nat) : Option Bool :=
  match fieldV s t l i 1 with
  | none => none
  | some f1 =>
    let p := f1 / 32768
    let req := f1 / 8192 % 4
    let point := objType s l p = 2 ∧ (req = 1 ∨ req = 2)
    let signal := objType s l p = 3 ∧ req = 3
    if point ∨ signal then
      match fieldV s t l p 0, fieldV s t l p 2 with
      | some h, some f2 => some ((if point then f2 % 4 = req else f2 % 16 = 0) && hdrFresh h && !hdrStale h)
      | _, _ => none
    else some false

def elAvailable (s : State) (t : Thr) (l : Lane) (_r : Nat) (e : Nat × Nat) : Option Bool :=
  match fieldV s t l e.1 0 with
  | some h => some (!hdrBlocked h && !hdrStale h)
  | none => none

def elClear (s : State) (t : Thr) (l : Lane) (r : Nat) (e : Nat × Nat) : Option Bool :=
  if isSection (objType s l e.1) then sectionClear s t l r e.1 else some true

def elDetected (s : State) (t : Thr) (l : Lane) (_r : Nat) (e : Nat × Nat) : Option Bool :=
  if objType s l e.1 = 2 then pointDetected s t l e.1 e.2
  else if objType s l e.1 = 5 then crossingClosed s t l e.1
  else some true

def elOverlap (s : State) (t : Thr) (l : Lane) (r : Nat) (e : Nat × Nat) : Option Bool :=
  if isSection (objType s l e.1) then sectionClear s t l r e.1
  else if objType s l e.1 = 2 then pointDetected s t l e.1 e.2
  else some true

/-- ELCHK over the entries a test examines: 1 when every entry passes; a failed field check is a code fault. -/
def elchkEnd (op : PervoOp) (s : State) (res : List (Option Bool)) : PRes :=
  if res.any fun x => x.isNone then .fail s .code 0
  else predResult s op.thr op.d.toNat (res.all fun x => x = some true) op.imm.toNat

def elchkList (op : PervoOp) (k : Nat) (test : State → Thr → Lane → Nat → Nat × Nat → Option Bool) (l : Lane) (r : Nat)
    (s : State) : PRes :=
  match routeListOf s l r k with
  | none => routeCodeFault s op.thr
  | some es => elchkEnd op s (es.map (test s op.thr l r))

def execElchkAvailable (op : PervoOp) (s : State) : Host.Outcome State Fault Refusal :=
  .next (routeOp op 0x44 (xBits op 8 2 ≠ 0) (notMgmt op.thr) (elchkList op 1 elAvailable) s)

def execElchkClear (op : PervoOp) (s : State) : Host.Outcome State Fault Refusal :=
  .next (routeOp op 0x44 (xBits op 8 2 ≠ 0) (notMgmt op.thr) (elchkList op 1 elClear) s)

/-- The element list, then the flank set. -/
def execElchkDetected (op : PervoOp) (s : State) : Host.Outcome State Fault Refusal :=
  .next (routeOp op 0x44 (xBits op 8 2 ≠ 0) (notMgmt op.thr)
    (fun l r s =>
      match routeListOf s l r 1, routeListOf s l r 3 with
      | some es, some fs =>
        elchkEnd op s (es.map (elDetected s op.thr l r) ++ fs.map fun e => flankProtected s op.thr l e.1)
      | _, _ => routeCodeFault s op.thr) s)

def execElchkOverlap (op : PervoOp) (s : State) : Host.Outcome State Fault Refusal :=
  .next (routeOp op 0x44 (xBits op 8 2 ≠ 0) (notMgmt op.thr) (elchkList op 2 elOverlap) s)

/-! ### Timers -/

/-- The deadline epoch of a timer of t µs started in epoch e: ceil((e · 10^7 + 1000 t) / 10^7) (R125). -/
def deadline (e t : Nat) : Nat := (e * 10000000 + 1000 * t + 9999999) / 10000000

/-- TSTART reads field 7 at the present D and writes its deadline part; t = 0 writes nothing (R10, R126). -/
def tstartBody (op : PervoOp) (s : State) : PRes :=
  let l := laneOf op.thr
  let i := objIdx op
  let t := s.val op.thr ⟨false, op.s1.toNat⟩
  if t = 0 then .done s
  else eccGuard op s (omemAddr i 7) (
    if fieldOk s l i 7 (s.dNow l) then
      let v := wordV (omemWord s l i 7)
      let dl := deadline (s.lane l).frozenE t % 1048576
      match objStore s l i 7 (v / 2097152 * 2097152 + 1048576 + dl) with
      | some s' => .done s'
      | none => .fail s .code 0
    else .fail s .code (BitVec.ofNat 32 (omemAddr i 7)))

def execTstart (op : PervoOp) (s : State) : Host.Outcome State Fault Refusal :=
  .next (issue op 0x48 (op.d ≠ 0 || op.s2 ≠ 0 || op.x ≠ 0 || objRefBad op || objFld op ≠ 7) (onlySafe op.thr)
    [⟨false, op.s1.toNat⟩] (tstartBody op) s)

/-- RUN = 1 and (E - DL) mod 2^20 < 2^19 (R139). -/
def timerExpired (e v7 : Nat) : Bool :=
  natBit v7 20 && decide ((e + 1048576 - v7 % 1048576) % 1048576 < 524288)

def tchkBody (op : PervoOp) (s : State) : PRes :=
  let l := laneOf op.thr
  let i := objIdx op
  eccGuard op s (omemAddr i 7) (
    match fieldV s op.thr l i 7 with
    | some v => predResult s op.thr op.d.toNat (timerExpired ((s.lane l).frozenE % 1048576) v) (shortSig (shortSS op) 0)
    | none => .fail s .code (BitVec.ofNat 32 (omemAddr i 7)))

def execTchk (op : PervoOp) (s : State) : Host.Outcome State Fault Refusal :=
  .next (issue op 0x49 (op.s1 ≠ 0 || xBits op 8 6 ≠ 0 || decide (16 ≤ op.d.toNat) || objRefBad op || objFld op ≠ 7)
    (notMgmt op.thr) [] (tchkBody op) s)

end Sys2Proof.Machine
end

