-- ==== Sys2Proof/Machine/Anneal.lean ====
section
/-!
DEFINITION. The anneal (R76 to R80): its start, the copy epochs, the comparison at their end, the shadow epochs.

Readings and choices: log entry 23 (DEDUCED).
-/

namespace Sys2Proof.Machine

/-! ### The start (R76) -/

/-- The causes by code. -/
def causeOf (k : Nat) : Option Cause :=
  [Cause.codeFault, .illegalOp, .bounds, .offlineAccess, .eccUncorr, .halt, .overrun, .vpubOrder, .minority, .noMajority, .disagree, .noPeer,
    .lastLane, .timeDev, .tickSkew, .epochMismatch, .ioSampleRate, .assayFail, .annealFail, .retire, .staticMismatch].find? fun c => c.code = k

/-- The last withdrawal's cause permits anneal (R74, R430). -/
def causePermits (s : State) (l : Lane) : Bool :=
  match (causeOf (s.fv (LANE_CAUSE_CAUSE l))).map Cause.anneal with
  | some .yes => true
  | some .afterCleanEpoch => (s.lane l).time.causeClean
  | _ => false

/-- No other lane is in COPY, SHADOW or RETIRED. -/
def othersIdle (s : State) (l : Lane) : Bool :=
  (otherLanes l).all fun m => (s.lane m).st ≠ .copy && (s.lane m).st ≠ .shadow && (s.lane m).st ≠ .retired

/-- What every anneal needs; block 0x08 starts none while it prepares (R325). -/
def annealCommon (s : State) (l : Lane) : Bool :=
  s.voting.length = 2 && othersIdle s l && (s.mode = .standby || s.mode = .active) && !s.fb SEC_BANK_PENDING && !s.prepared 8

/-- A WITHDRAWN lane may start at the tick 0 after its withdrawal (R76); a RETIRED lane starts after its deep assay has passed (R73, R82). -/
def mayAnneal (s : State) (l : Lane) : Bool :=
  let x := s.lane l
  annealCommon s l &&
  ((x.st = .withdrawn && !x.justOut && causePermits s l && s.fb (LANE_CTRL_ANNEAL_EN l) && decide ((lastHour s.E x.annHist).length < 3)) ||
   (x.st = .retired && x.anneal.passed))

/-- ANNEAL_START: COPY, the donor, source 16, the record. -/
def annealStart (s : State) (l : Lane) : State :=
  match s.voting.head? with
  | some d =>
    let s := s.updLane l fun x => { x with
      st := .copy, anneal := { step := 1, donor := d, dirty := [], passed := false }, annHist := lastHour s.E x.annHist ++ [s.E] }
    let s := s.updLane d fun x => { x with dirty := [] }
    let s := ((s.setF (LANE_ANNEAL_DONOR l) d.num).setF (LANE_ANNEAL_STEP l) 1).setF (LANE_ANNEAL_RESULT l) 0
    (s.raiseLanes 16).record 0x01 0x02 l.num (beBytes 1 d.num)
  | none => s

def annealStarts (s : State) : State :=
  match allLanes.find? (mayAnneal s) with
  | some l => annealStart s l
  | none => s

/-! ### The copy (R77, R78) -/

/-- v of n words of the route region, from word w on. -/
def routeVs (m : List Host.Cell) (n : Nat) : List Byte :=
  (List.range n).flatMap fun w => beBytes 4 (wordV (memWord m (routeWordAddr w)))

/-- The bytes of a static memory that a section digest covers: 1 PMEM, 6 the route region's v, 7 CMX. -/
def staticBytes (m : List Host.Cell) (ty len : Nat) : List Byte :=
  match ty with
  | 1 => memBytes m 0 len
  | 6 => (routeVs m ((len + 3) / 4)).take len
  | _ => memBytes m 0x02000000 len

/-- The static memories match the hallmark's section digests. -/
def staticOk (s : State) (l : Lane) : Bool :=
  s.sec.img.digests.all fun d => !(d.1 = 1 || d.1 = 6 || d.1 = 7) || d.2.1 = 0 || sha256 (staticBytes (s.lane l).mem d.1 d.2.1) = d.2.2

/-- The objects `is` of the donor's store as the annealer stores them: coded with its own A, each field's B and `d`. -/
def copyObjects (s : State) (l dn : Lane) (d : Nat) (is : List Nat) : List Host.Cell :=
  is.foldl (fun m i => (List.range 8).foldl (fun m f =>
    memSetWord m (omemAddr i f) (codeWord l (wordV (omemWord s dn i f)) (fieldSig s l i f) d)) m) (s.lane l).mem

/-- The lower half of the store, swept in C1, and the upper half, swept in C2. -/
def lowerHalf : List Nat := List.range 65536

def upperHalf : List Nat := (List.range 65536).map (· + 65536)

/-- S over the values that a lane's store holds (R56). -/
def storeSum (s : State) (l : Lane) : BitVec 256 :=
  (List.range 131072).foldl (fun a i => (List.range 8).foldl (fun a f => a + elemHash i f (wordV (omemWord s l i f))) a) 0

/-- What the donor has swept and what it sends in ticks 18 and 19 reaches the annealer's store; then the dirty map is clear. No SAFE thread
runs by then, so that what was swept earlier and changed since is among the dirty objects. -/
def copyHalf (s : State) (l : Lane) (half : List Nat) (d : Nat) : State :=
  let dn := (s.lane l).anneal.donor
  let m := copyObjects s l dn d (half ++ (s.lane dn).dirty)
  (s.updLane l fun x => { x with mem := m }).updLane dn fun x => { x with dirty := [] }

/-- More dirty objects are pending than ticks 18 and 19 carry. -/
def dirtyOver (s : State) (l : Lane) : Bool := decide (24576 < (s.lane (s.lane l).anneal.donor).dirty.length)

/-- The tick 18 strobe of C1: the static memories have been hashed, the lower half swept, the dirty objects follow. `d`: the D of C2. -/
def copyC1 (s : State) (l : Lane) (d : Nat) : State :=
  if ¬ staticOk s l then withdraw s l .staticMismatch
  else if dirtyOver s l then withdraw s l .annealFail
  else copyHalf s l lowerHalf d

/-- The tick 18 strobe of C2: the upper half, the dirty objects of the whole store, the locked-route vector; the annealer sums its own store. -/
def copyC2 (s : State) (l : Lane) (d : Nat) : State :=
  if dirtyOver s l then withdraw s l .annealFail
  else
    let v := (s.lane (s.lane l).anneal.donor).locked
    let s := (copyHalf s l upperHalf d).updLane l fun x => { x with locked := v }
    let sum := storeSum s l
    s.updLane l fun x => { x with osum := sum }

/-- ANNEAL_STEP in the ticks 18 of the copy epochs. -/
def annealTick18 (s : State) : State :=
  match annealer s with
  | some l =>
    match (s.lane l).anneal.step with
    | 1 => copyC1 s l (dOf (s.E + 1))
    | 2 => copyC2 s l (dOf s.E)
    | _ => s
  | none => s

/-- The tick 19 of C2: the annealer's own S and locked-route vector against the donor's. -/
def annealTick19 (s : State) : State :=
  match annealer s with
  | some l =>
    let x := s.lane l
    let y := s.lane x.anneal.donor
    if x.anneal.step = 2 ∧ ¬ (x.osum = y.osum ∧ x.locked = y.locked) then withdraw s l .annealFail else s
  | none => s

/-- COPY has been verified: SHADOW. -/
def enterShadow (s : State) (l : Lane) : State :=
  (s.updLane l fun x => { x with st := .shadow, dirty := [], tinDirty := [], anneal := { x.anneal with step := 3 } }).setF (LANE_ANNEAL_STEP l) 3

/-- ANNEAL_STEP at a tick 0. -/
def annealSteps (s : State) : State :=
  match annealer s with
  | some l =>
    match (s.lane l).anneal.step with
    | 1 => (s.updLane l fun x => { x with anneal := { x.anneal with step := 2 } }).setF (LANE_ANNEAL_STEP l) 2
    | 2 => enterShadow s l
    | 3 => (s.updLane l fun x => { x with anneal := { x.anneal with step := 4 } }).setF (LANE_ANNEAL_STEP l) 4
    | _ => s
  | none => s

/-- R382: the deep assay of a lane retired at the last tick 17 starts at this tick 0. -/
def deepStart (s : State) (l : Lane) : State :=
  let x := s.lane l
  if x.st = .retired ∧ x.deep = none ∧ ¬ x.anneal.passed then
    let s := s.updLane l fun x => { x with deep := some s.E }
    let s := (s.setF (AST_LANE_DEEP_RESULT l) 0).setF (AST_LANE_DEEP_PHASE l) 1
    retireStatus s l 4 0
  else s

/-- The anneal part of the tick 0 strobe. -/
def annealTick0 (s : State) : State := annealStarts ((annealSteps s).forLanes deepStart)

end Sys2Proof.Machine
end

