-- ==== Sys2Proof/Machine/TickStrobe.lean ====
section
/-!
DEFINITION. TICK_STROBE (R30): one strobe of the time unit, with everything the spec hangs on it: the schedule of R30, the freeze (R31), the
vote (R33, R61), publication (R32), mode changes (R22) and the start of the SAFE threads (R34, R88).

Readings and choices: log entries 16 (DEDUCED), 20 (DEDUCED), 24 (DEDUCED), 44 (DESIGN CHOICE).
-/

namespace Sys2Proof.Machine

/-! ### The freeze (R31, R203, R215, R270) -/

/-- A ring's part of a lane's judgement (R363): RUN or WRAP, and a RUN cycle under the counter in force taken since the last freeze. -/
def ringFresh (s : State) (n : Nat) : Bool := (ringState s n = 4 || ringState s n = 5) && (s.ring n).taken

/-- A lane's judgement of the freeze (R363), from its own frozen registers. -/
def laneFresh (s : State) (l : Lane) : Bool :=
  !s.fb (IO_FRZ_FLT_LO_NOT_READY l) && (ringsIn s.sec.img.required).all (ringFresh s)

def topoStore (s : State) : Store Nat :=
  ringList.foldl (fun m n => Store.put (fun _ => 0) m n (s.fv (RING_TOPO_TOPO n))) []

/-- A lane's freeze: LANE_SNAP swapped, E and the topology counters held, the epoch's own records begun anew. -/
def laneFreeze (s : State) (l : Lane) : State :=
  if ¬ (s.lane l).powered then s
  else
    let s := brakeFreeze (ioFreeze s l) l
    let s := s.setF (OBJ_CARRY_CARRIED l) (s.lane l).carried
    s.updLane l fun x => { x with
      snap := x.snapBack, snapBack := [], frozenE := s.E, frozenTopo := topoStore s, carried := 0, slBuild := [], hxBuild := [],
      recs := [], staged := [], localWord := none, lastKey := none }

/-- INPUT_FREEZE at the tick 0 strobe. -/
def freeze (s : State) : State :=
  let s := s.forLanes laneFreeze
  let s := hexFreeze { s with fx := { s.fx with topo := topoStore s } }
  let fresh : PerLane Bool := ⟨laneFresh s .a, laneFresh s .b, laneFresh s .c⟩
  let s := s.updSec fun x => { x with freshIn := fresh }
  let s := s.setB SEC_STATUS_FRESH_OK (2 ≤ (s.counted.filter fun l => fresh.get l).length)
  ringList.foldl (fun s n => s.updRing n fun r => { r with taken := false }) s

/-! ### The SAFE threads (R34, R72, R88, R300) -/

/-- Where the epoch program starts: the standby entry of a paired STANDBY without MREQ, the cold entry of a cold takeover, the main entry. -/
def safeEntry (s : State) : Nat :=
  let e := s.sec.img.entries
  if paired s ∧ s.mode = .standby ∧ ¬ s.fb PAIR_STATUS_MREQ then e.getD 1 0
  else if paired s ∧ s.pair.coldStart then e.getD 2 0
  else e.getD 0 0

/-- Every C and P register is unwritten, A_n is the BASE of descriptor n (R88). -/
def safeThread (s : State) (l : Lane) (t : ThreadSt) : ThreadSt :=
  { t with
    run := .running, ctag := [], ptag := [], rstack := [], handler := false, pc := BitVec.ofNat 32 (safeEntry s),
    a := (List.range 16).foldl (fun m n => Store.put (fun _ => 0) m n (BitVec.ofNat 32 (rgnBase s (.safe l) n))) [] }

def safeStart (s : State) (l : Lane) : State :=
  if takesPart (s.lane l) then s.updLane l fun x => { x with safe := safeThread s l x.safe } else s

/-! ### Modes and lanes at tick 0 (R20 to R22, R73) -/

/-- A mode change that waits for this strobe. -/
def modeTick0 (s : State) : State :=
  let next := s.sec.nextMode
  let s := s.updSec fun x => { x with nextMode := none }
  let s := match next with
    | some .service => if s.mode = .boot then { s with mode := .service } else serviceTick0 s
    | some .standby => if s.mode = .boot then { s with mode := .standby } else s
    | some .configHold => if s.mode = .boot then { s with mode := .configHold } else s
    | _ => s
  if next.isSome then ringsFollow s s.sec.noCommit else s

/-- A lane enters STARTING (R73) with its initial objects and the strobe's time. -/
def laneStart (s : State) (l : Lane) : State :=
  let s := codeInitial s (s.fv SEC_STATUS_BANK) (dPrev s.E) l
  s.updLane l fun x => { x with
    st := .starting, vote := VoteSt.init,
    time := { LaneTime.init with t := s.time.t, epoch := s.time.epoch, tick := s.time.tick } }

/-- The lanes start together, unless the module is in SERVICE or CONFIG_HOLD by now; a wake is then complete (R332). -/
def lanesTick0 (s : State) : State :=
  if s.sec.started then
    let s := s.updSec fun x => { x with started := false }
    if s.mode = .standby then wakeComplete (s.forLanes laneStart) else s
  else s

/-- R21: an entry accepted before the module went to SERVICE does not take effect; it ends as R339 has it for a withdrawal. -/
def entryGuard (s : State) : State :=
  if s.pwr.asked ≠ 0 ∧ ¬ (s.mode = .standby ∨ s.mode = .active) then entryRefused s 8 else s

/-- The tick 0 strobe in RUN. -/
def tick0 (s : State) : State :=
  if bankDue s then bankTake s
  else
    let s := freeze s
    let s := hexCommands (commitTick0 s)
    let s := entryGuard (modeTick0 s)
    let s := lanesTick0 (pairTick0 s)
    let s := powerTick0 s
    if s.pwr.power = .run then
      (clearTick0 (annealTick0 s)).forLanes safeStart
    else s

/-! ### Tick 17 (R32, R61, R67, R363) -/

/-- TRIAL ends when the three lanes are VOTING (R361). -/
def trialTick17 (s : State) : State := if s.voting.length = 3 then s.updSec fun x => { x with trial := false } else s

/-- The output start conditions (R363), after the vote of this epoch. -/
def startConditions (s : State) : Bool :=
  s.mode = .standby && decide (2 ≤ (s.voting.filter fun l => s.sec.freshIn.get l).length) &&
  (s.fb SEC_STATUS_START_GIVEN || !s.fb SEC_STATUS_START_MODE) && s.sec.nextMode ≠ some .service

/-- The local output words of the publication (R32, R129): only an ACTIVE module publishes. -/
def publishWords (s : State) : State :=
  s.forLanes fun s l => s.updLane l fun x => { x with pub := if s.mode = .active ∧ x.st.counted then x.localWord.getD 0 else 0 }

def tick17 (s : State) : State :=
  let s := trialTick17 (voteTick17 s)
  let s := roleTick17 s (startConditions s)
  let s := hexSend (publishPlanes (publishWords s))
  powerTick17 (tinningTick17 s)

/-! ### The strobe -/

/-- What the schedule of R30 does at this tick. -/
def scheduled (s : State) : State :=
  match s.time.tick with
  | 0 => tick0 s
  | 16 => voteTick16 s
  | 17 => tick17 s
  | 18 => powerTick18 (annealTick18 s)
  | 19 => switchTick19 (commitTick19 (annealTick19 s))
  | _ => s

/-- Sources 9, 10 and 11 of every interrupt controller: the strobe, tick 0, tick 17. -/
def tickSources (s : State) : State :=
  let s := s.raiseAll 9
  if s.time.tick = 0 then s.raiseAll 10 else if s.time.tick = 17 then s.raiseAll 11 else s

/-- The time unit's own work at a strobe (R29, R36 to R41, R44, R47); it runs in STABLED too (R17). -/
def timeStrobe (inp : StrobeIn) (s : State) : State :=
  let s := advanceTick s
  let s := if s.time.tick = 0 then epochStep (sourceChange s) else s
  let s := timingChecks inp (sampleExchange inp s)
  ppsOut (slewTick (oscillatorCheck inp s))

/-- The units that work at every strobe in RUN, after the schedule (R165, R284, R297, R301). -/
def everyTick (launch : Int) (s : State) : State := pairTick (hexTick (ringsTick launch (bridgeTick (brakeTick s))))

/-- TICK_STROBE (R30). Without a timebase (R45) or with no more than PD_AON out of reset there is no strobe. -/
def tickStrobe (inp : StrobeIn) (s : State) : State :=
  if ¬ (s.alive ∧ s.time.isSet) then s
  else
    let s := s.forLanes fun s l => s.updLane l fun x => { x with justOut := false }
    let s := s.updPair fun p => { p with sent := [] }
    let s := timeStrobe inp (cutAll (s.setB SEC_STATUS_SERVICE_EN inp.serviceEn) 1)
    if s.stabled then
      tickSources (ringsTick inp.launch (if s.time.tick = 0 then powerTick0 s else s))
    else
      let s := scheduled s
      -- a bank switch or an entry ends RUN at this strobe
      if s.pwr.power = .run ∧ s.time.started then tickSources (everyTick inp.launch s)
      else if s.stabled then tickSources (ringsTick inp.launch s)
      else s

def execTickStrobe (inp : StrobeIn) (s : State) : Host.Outcome State Fault Refusal := .next (tickStrobe inp s)

end Sys2Proof.Machine
end

