-- ==== Sys2Proof/Machine/Dispatch.lean ====
section
/-!
DEFINITION. What each command does: one arm for each constructor of Instr, in the table's order.
-/

namespace Sys2Proof.Machine

def exec (i : Instr) (s : State) : Host.Outcome State Fault Refusal :=
  match i with
  | .tickStrobe inp => Sys2Proof.Machine.execTickStrobe inp s
  | .ptpSync p m => Sys2Proof.Machine.execPtpSync p m s
  | .ptpLockLost => Sys2Proof.Machine.execPtpLockLost s
  | .ppsInEdge t => Sys2Proof.Machine.execPpsInEdge t s
  | .voteRound1Digest src dst => Sys2Proof.Machine.execVoteRound1Digest src dst s
  | .voteRound2Agreement src dst => Sys2Proof.Machine.execVoteRound2Agreement src dst s
  | .laneLinkDown l => Sys2Proof.Machine.execLaneLinkDown l s
  | .gateFrame l => Sys2Proof.Machine.execGateFrame l s
  | .gateLinkTimeout l => Sys2Proof.Machine.execGateLinkTimeout l s
  | .laneRetireRequest l target => Sys2Proof.Machine.execLaneRetireRequest l target s
  | .deepAssayEnd l r => Sys2Proof.Machine.execDeepAssayEnd l r s
  | .deepAssayTimeout l => Sys2Proof.Machine.execDeepAssayTimeout l s
  | .nop op => Sys2Proof.Machine.execNop op s
  | .br op => Sys2Proof.Machine.execBr op s
  | .brp op => Sys2Proof.Machine.execBrp op s
  | .call op => Sys2Proof.Machine.execCall op s
  | .ret op => Sys2Proof.Machine.execRet op s
  | .epochend op => Sys2Proof.Machine.execEpochend op s
  | .halt op => Sys2Proof.Machine.execHalt op s
  | .fence op => Sys2Proof.Machine.execFence op s
  | .cadd op => Sys2Proof.Machine.execCadd op s
  | .csub op => Sys2Proof.Machine.execCsub op s
  | .cmul op => Sys2Proof.Machine.execCmul op s
  | .cand op => Sys2Proof.Machine.execCand op s
  | .cor op => Sys2Proof.Machine.execCor op s
  | .cxor op => Sys2Proof.Machine.execCxor op s
  | .cnot op => Sys2Proof.Machine.execCnot op s
  | .csel op => Sys2Proof.Machine.execCsel op s
  | .cmov op => Sys2Proof.Machine.execCmov op s
  | .cldi op => Sys2Proof.Machine.execCldi op s
  | .cshl op => Sys2Proof.Machine.execCshl op s
  | .cshr op => Sys2Proof.Machine.execCshr op s
  | .ccmp op => Sys2Proof.Machine.execCcmp op s
  | .aset op => Sys2Proof.Machine.execAset op s
  | .aadd op => Sys2Proof.Machine.execAadd op s
  | .aidx op => Sys2Proof.Machine.execAidx op s
  | .old op => Sys2Proof.Machine.execOld op s
  | .oldCarry op => Sys2Proof.Machine.execOldCarry op s
  | .ost op => Sys2Proof.Machine.execOst op s
  | .obit op => Sys2Proof.Machine.execObit op s
  | .oscn op => Sys2Proof.Machine.execOscn op s
  | .rtreq op => Sys2Proof.Machine.execRtreq op s
  | .rtlock op => Sys2Proof.Machine.execRtlock op s
  | .rtrel op => Sys2Proof.Machine.execRtrel op s
  | .flankReserve op => Sys2Proof.Machine.execFlankReserve op s
  | .flankRelease op => Sys2Proof.Machine.execFlankRelease op s
  | .elchkAvailable op => Sys2Proof.Machine.execElchkAvailable op s
  | .elchkClear op => Sys2Proof.Machine.execElchkClear op s
  | .elchkDetected op => Sys2Proof.Machine.execElchkDetected op s
  | .elchkOverlap op => Sys2Proof.Machine.execElchkOverlap op s
  | .tstart op => Sys2Proof.Machine.execTstart op s
  | .tchk op => Sys2Proof.Machine.execTchk op s
  | .slrd op => Sys2Proof.Machine.execSlrd op s
  | .slwr op => Sys2Proof.Machine.execSlwr op s
  | .hxsend op => Sys2Proof.Machine.execHxsend op s
  | .hxrecv op => Sys2Proof.Machine.execHxrecv op s
  | .brsend op => Sys2Proof.Machine.execBrsend op s
  | .vpubLocal op => Sys2Proof.Machine.execVpubLocal op s
  | .vpubSlice op => Sys2Proof.Machine.execVpubSlice op s
  | .vpubHexlo op => Sys2Proof.Machine.execVpubHexlo op s
  | .csrr op => Sys2Proof.Machine.execCsrr op s
  | .csrw op => Sys2Proof.Machine.execCsrw op s
  | .syscall op => Sys2Proof.Machine.execSyscall op s
  | .iret op => Sys2Proof.Machine.execIret op s
  | .waiti op => Sys2Proof.Machine.execWaiti op s
  | .waitiWake e => Sys2Proof.Machine.execWaitiWake e s
  | .interruptEntry e ecc => Sys2Proof.Machine.execInterruptEntry e ecc s
  | .holdoffExpiry e g => Sys2Proof.Machine.execHoldoffExpiry e g s
  | .picClr e src => Sys2Proof.Machine.execPicClr e src s
  | .picSet e src => Sys2Proof.Machine.execPicSet e src s
  | .laneMbxUpPost l len => Sys2Proof.Machine.execLaneMbxUpPost l len s
  | .laneMbxUpPop l => Sys2Proof.Machine.execLaneMbxUpPop l s
  | .laneMbxDnPost l len => Sys2Proof.Machine.execLaneMbxDnPost l len s
  | .laneMbxDnPop l => Sys2Proof.Machine.execLaneMbxDnPop l s
  | .regWrite who addr v events => Sys2Proof.Machine.execRegWrite who addr v events s
  | .rcRead who addr => Sys2Proof.Machine.execRcRead who addr s
  | .loReadLatch who addr => Sys2Proof.Machine.execLoReadLatch who addr s
  | .linkChange n p v => Sys2Proof.Machine.execLinkChange n p v s
  | .remoteFault n p => Sys2Proof.Machine.execRemoteFault n p s
  | .unwrap n p => Sys2Proof.Machine.execUnwrap n p s
  | .runFramePassage n f inp => Sys2Proof.Machine.execRunFramePassage n f inp s
  | .frameReturn n f inp => Sys2Proof.Machine.execFrameReturn n f inp s
  | .bandMissedCycle n => Sys2Proof.Machine.execBandMissedCycle n s
  | .bandArmReq n => Sys2Proof.Machine.execBandArmReq n s
  | .bandConfirm n l v => Sys2Proof.Machine.execBandConfirm n l v s
  | .noCrownTimeout n => Sys2Proof.Machine.execNoCrownTimeout n s
  | .claimFrame n p sinceStrobe f => Sys2Proof.Machine.execClaimFrame n p sinceStrobe f s
  | .claimTimeout n => Sys2Proof.Machine.execClaimTimeout n s
  | .rollPassage n h recs inp => Sys2Proof.Machine.execRollPassage n h recs inp s
  | .echoPassage n h inp => Sys2Proof.Machine.execEchoPassage n h inp s
  | .layoutPassage n h m inp => Sys2Proof.Machine.execLayoutPassage n h m inp s
  | .measurePassage n h ds inp => Sys2Proof.Machine.execMeasurePassage n h ds inp s
  | .ackPassage n h dly acks inp => Sys2Proof.Machine.execAckPassage n h dly acks inp s
  | .inaugBackoffEnd n => Sys2Proof.Machine.execInaugBackoffEnd n s
  | .overBudgetRetry n => Sys2Proof.Machine.execOverBudgetRetry n s
  | .foreignFrame n p c => Sys2Proof.Machine.execForeignFrame n p c s
  | .releaseHead n => Sys2Proof.Machine.execReleaseHead n s
  | .reinaug n => Sys2Proof.Machine.execReinaug n s
  | .portIsolate n p => Sys2Proof.Machine.execPortIsolate n p s
  | .portIsolateEnd n p errs => Sys2Proof.Machine.execPortIsolateEnd n p errs s
  | .ethFrameRx p f => Sys2Proof.Machine.execEthFrameRx p f s
  | .ethLinkChange p lines speed => Sys2Proof.Machine.execEthLinkChange p lines speed s
  | .arpRequest p target sender mac => Sys2Proof.Machine.execArpRequest p target sender mac s
  | .icmpEchoRequest p src dst => Sys2Proof.Machine.execIcmpEchoRequest p src dst s
  | .arpRefresh p => Sys2Proof.Machine.execArpRefresh p s
  | .igmpReport p => Sys2Proof.Machine.execIgmpReport p s
  | .hexloDatagram onB dst bytes => Sys2Proof.Machine.execHexloDatagram onB dst bytes s
  | .hexloWindowClose ses seq => Sys2Proof.Machine.execHexloWindowClose ses seq s
  | .hexloGapTimeout ses => Sys2Proof.Machine.execHexloGapTimeout ses s
  | .hexloSessionStale ses => Sys2Proof.Machine.execHexloSessionStale ses s
  | .hexloAutoReopen ses => Sys2Proof.Machine.execHexloAutoReopen ses s
  | .hexloDegraded ses => Sys2Proof.Machine.execHexloDegraded ses s
  | .hxlCmdResync ses => Sys2Proof.Machine.execHxlCmdResync ses s
  | .hxlCmdReopen ses => Sys2Proof.Machine.execHxlCmdReopen ses s
  | .hxlCmdClose ses => Sys2Proof.Machine.execHxlCmdClose ses s
  | .bridgeMessageIngress p src m => Sys2Proof.Machine.execBridgeMessageIngress p src m s
  | .bridgeMessageSend d => Sys2Proof.Machine.execBridgeMessageSend d s
  | .bridgeAnswer p target m => Sys2Proof.Machine.execBridgeAnswer p target m s
  | .bridgeTimeout d => Sys2Proof.Machine.execBridgeTimeout d s
  | .domainResume d => Sys2Proof.Machine.execDomainResume d s
  | .domainFlush d => Sys2Proof.Machine.execDomainFlush d s
  | .brgFqPop => Sys2Proof.Machine.execBrgFqPop s
  | .brgEpRead e tag => Sys2Proof.Machine.execBrgEpRead e tag s
  | .brgEpLock e tag => Sys2Proof.Machine.execBrgEpLock e tag s
  | .brgEpUnlock e tag => Sys2Proof.Machine.execBrgEpUnlock e tag s
  | .brgEpRxPop e => Sys2Proof.Machine.execBrgEpRxPop e s
  | .brgEpAnPop e => Sys2Proof.Machine.execBrgEpAnPop e s
  | .lockExpiry ltag => Sys2Proof.Machine.execLockExpiry ltag s
  | .prefetchExpiry => Sys2Proof.Machine.execPrefetchExpiry s
  | .ioSample inp => Sys2Proof.Machine.execIoSample inp s
  | .testPulseStart ch => Sys2Proof.Machine.execTestPulseStart ch s
  | .testPulseEnd last => Sys2Proof.Machine.execTestPulseEnd last s
  | .overcurrent ch => Sys2Proof.Machine.execOvercurrent ch s
  | .vfUndervoltage g2 enter by3 => Sys2Proof.Machine.execVfUndervoltage g2 enter by3 s
  | .vfOvervoltage g2 by3 => Sys2Proof.Machine.execVfOvervoltage g2 by3 s
  | .feedbackTimeout ch => Sys2Proof.Machine.execFeedbackTimeout ch s
  | .ioFltClr l mask => Sys2Proof.Machine.execIoFltClr l mask s
  | .ioConfirm l v => Sys2Proof.Machine.execIoConfirm l v s
  | .brkTestReq l mask => Sys2Proof.Machine.execBrkTestReq l mask s
  | .brakeTestTimeout k => Sys2Proof.Machine.execBrakeTestTimeout k s
  | .brakeValidityWarning k => Sys2Proof.Machine.execBrakeValidityWarning k s
  | .brakeValidityLapse k => Sys2Proof.Machine.execBrakeValidityLapse k s
  | .pairHeartbeat link1 h sinceStrobe => Sys2Proof.Machine.execPairHeartbeat link1 h sinceStrobe s
  | .pairSilence => Sys2Proof.Machine.execPairSilence s
  | .pairLinkChange link1 lines => Sys2Proof.Machine.execPairLinkChange link1 lines s
  | .tinningBlock link1 crcOk rs => Sys2Proof.Machine.execTinningBlock link1 crcOk rs s
  | .tinMarkerSend => Sys2Proof.Machine.execTinMarkerSend s
  | .tinMarker link1 m since19 => Sys2Proof.Machine.execTinMarker link1 m since19 s
  | .healthReport link1 bytes => Sys2Proof.Machine.execHealthReport link1 bytes s
  | .pairSwitch cold peerColdTake => Sys2Proof.Machine.execPairSwitch cold peerColdTake s
  | .pairResync => Sys2Proof.Machine.execPairResync s
  | .feedSample inA inB store busOk => Sys2Proof.Machine.execFeedSample inA inB store busOk s
  | .powerFailSequence => Sys2Proof.Machine.execPowerFailSequence s
  | .powerFailRestart => Sys2Proof.Machine.execPowerFailRestart s
  | .pwrReqWrite who reg v => Sys2Proof.Machine.execPwrReqWrite who reg v s
  | .handshakeAnswer => Sys2Proof.Machine.execHandshakeAnswer s
  | .handshakeTimeout => Sys2Proof.Machine.execHandshakeTimeout s
  | .powerStateReached => Sys2Proof.Machine.execPowerStateReached s
  | .dormAfterExpiry => Sys2Proof.Machine.execDormAfterExpiry s
  | .wakeInput n high => Sys2Proof.Machine.execWakeInput n high s
  | .wakeRingActivity n on => Sys2Proof.Machine.execWakeRingActivity n on s
  | .wakeTimer => Sys2Proof.Machine.execWakeTimer s
  | .pwrWakeCmd who => Sys2Proof.Machine.execPwrWakeCmd who s
  | .wakeReadySignal dom => Sys2Proof.Machine.execWakeReadySignal dom s
  | .wakeStepTimeout dom => Sys2Proof.Machine.execWakeStepTimeout dom s
  | .wakeRetry => Sys2Proof.Machine.execWakeRetry s
  | .pwrPadRelease => Sys2Proof.Machine.execPwrPadRelease s
  | .pwrRestart key session => Sys2Proof.Machine.execPwrRestart key session s
  | .powerOn => Sys2Proof.Machine.execPowerOn s
  | .rstNQualified => Sys2Proof.Machine.execRstNQualified s
  | .rstNStuck => Sys2Proof.Machine.execRstNStuck s
  | .rstNIgnoreEnd => Sys2Proof.Machine.execRstNIgnoreEnd s
  | .moduleReset cause => Sys2Proof.Machine.execModuleReset cause s
  | .hallmarkAgreement reps => Sys2Proof.Machine.execHallmarkAgreement reps s
  | .tokenCommission => Sys2Proof.Machine.execTokenCommission s
  | .tokenOperate => Sys2Proof.Machine.execTokenOperate s
  | .tokenService => Sys2Proof.Machine.execTokenService s
  | .tokenRetire => Sys2Proof.Machine.execTokenRetire s
  | .tokenRoot => Sys2Proof.Machine.execTokenRoot s
  | .tokenRevoke => Sys2Proof.Machine.execTokenRevoke s
  | .tokenMaint => Sys2Proof.Machine.execTokenMaint s
  | .tokenClear => Sys2Proof.Machine.execTokenClear s
  | .tokenFloor => Sys2Proof.Machine.execTokenFloor s
  | .tokenCheckComplete => Sys2Proof.Machine.execTokenCheckComplete s
  | .endService => Sys2Proof.Machine.execEndService s
  | .serviceEnTimeout => Sys2Proof.Machine.execServiceEnTimeout s
  | .secStartGo => Sys2Proof.Machine.execSecStartGo s
  | .commitReq => Sys2Proof.Machine.execCommitReq s
  | .bankVerify => Sys2Proof.Machine.execBankVerify s
  | .bankVerifyDone => Sys2Proof.Machine.execBankVerifyDone s
  | .bankSwitch outage => Sys2Proof.Machine.execBankSwitch outage s
  | .bankConfirm => Sys2Proof.Machine.execBankConfirm s
  | .norErase off => Sys2Proof.Machine.execNorErase off s
  | .norProgram off => Sys2Proof.Machine.execNorProgram off s
  | .norOpDone ok => Sys2Proof.Machine.execNorOpDone ok s
  | .quote => Sys2Proof.Machine.execQuote s
  | .quoteDone => Sys2Proof.Machine.execQuoteDone s
  | .keyload l slot key => Sys2Proof.Machine.execKeyload l slot key s
  | .keyset l id => Sys2Proof.Machine.execKeyset l id s
  | .kcv l slot => Sys2Proof.Machine.execKcv l slot s
  | .hxkeyload ses snd rcv => Sys2Proof.Machine.execHxkeyload ses snd rcv s
  | .assaySliceStart u => Sys2Proof.Machine.execAssaySliceStart u s
  | .assaySliceEnd u o => Sys2Proof.Machine.execAssaySliceEnd u o s
  | .assayRotationLate u => Sys2Proof.Machine.execAssayRotationLate u s
  | .manualBistStart => Sys2Proof.Machine.execManualBistStart s
  | .manualBistEnd ok die => Sys2Proof.Machine.execManualBistEnd ok die s
  | .cvuScanStart e u w => Sys2Proof.Machine.execCvuScanStart e u w s
  | .cvuAbort e u n => Sys2Proof.Machine.execCvuAbort e u n s
  | .cvuInit e u w => Sys2Proof.Machine.execCvuInit e u w s
  | .cvuDataW e u w => Sys2Proof.Machine.execCvuDataW e u w s
  | .cvuDataB e u b => Sys2Proof.Machine.execCvuDataB e u b s
  | .cvuScanEnd e u ecc => Sys2Proof.Machine.execCvuScanEnd e u ecc s
  | .recordWrite ok => Sys2Proof.Machine.execRecordWrite ok s
  | .recRead hi => Sys2Proof.Machine.execRecRead hi s
  | .recReadDone => Sys2Proof.Machine.execRecReadDone s
  | .recEraseDone => Sys2Proof.Machine.execRecEraseDone s
  | .tickStrobeMissing l => Sys2Proof.Machine.execTickStrobeMissing l s
  | .laneLinkUp l => Sys2Proof.Machine.execLaneLinkUp l s
  | .rstNRelease => Sys2Proof.Machine.execRstNRelease s
  | .powerLoss => Sys2Proof.Machine.execPowerLoss s

end Sys2Proof.Machine
end

