-- ==== Sys2Proof/Machine/Step.lean ====
section
/-!
DEFINITION. One step of the block: the command at the front of the queue, first in, first out (log entry 1).

Readings and choices: log entry 1 (DESIGN CHOICE).
-/

namespace Sys2Proof.Machine

/-- The waiting commands become `q`. -/
def State.withQueue (s : State) (q : List Instr) : State := { s with pending := q }

/-- Take the front command and run it on the rest; with nothing waiting the block idles (log entry 1). -/
def step (s : State) : Host.Outcome State Fault Refusal :=
  match s.pending with
  | [] => .next s
  | c :: q => exec c (s.withQueue q)

/-- The command that a word spells, put at the front of the queue: no word spells one. -/
def State.withFetchWord (s : State) (nbits w : Nat) : State :=
  match decodeTableWord nbits w with
  | some c => s.withQueue (c :: s.pending)
  | none => s

end Sys2Proof.Machine
end

