-- ==== Sys2Proof/Safety.lean ====
section
/-!
DEFINITION. The terms in which claims about the block are made: what a command gives, what stays, the canonical form of the memories, the
safe side of the module (R19).
-/

namespace Sys2Proof.Safety

open Sys2Proof.Machine

/-- Command `i` completes in `s` with a next state of which `P` holds. -/
def Gives (i : Instr) (s : State) (P : State → Prop) : Prop := ∃ t, Sys2Proof.Machine.exec i s = .next t ∧ P t

/-- Every register but those listed holds what it held. -/
def RegsButSame (ks : List Nat) (s t : State) : Prop := ∀ k, k ∉ ks → t.rd k = s.rd k

/-- The lanes' memories and MMEM are unchanged. -/
def MemsSame (s t : State) : Prop := (∀ l, (t.lane l).mem = (s.lane l).mem) ∧ t.mmem = s.mmem

/-- The memories (the lanes', MMEM, NOR) are in canonical form: addresses strictly rising, no byte listed that reads as an unlisted one. -/
def MemsWf (s : State) : Prop :=
  (∀ l, Store.wf memDefault (s.lane l).mem = true) ∧ Store.wf memDefault s.mmem = true ∧ Store.wf norDefault s.sec.nor = true

/-- No network of an output or a group switch conducts (R70). -/
def DeEnergised (s : State) : Prop := ∀ bit, bit < 26 → conducts s bit = false

/-- The safe side (R19): outputs and brake de-energised, no mastership, no down-slice payload and no Hexlo message published. -/
def SafeSide (s : State) : Prop := DeEnergised s ∧ s.fb PAIR_STATUS_MREQ = false

/-! ### Instructions -/

/-- The instruction issues: its thread runs, its word has the row's opcode, the pc lies in the program memory, the memories report no error
(R93, R107, R116, R117). -/
def Issues (op : PervoOp) (s : State) : Prop :=
  (s.thread op.thr).run = .running ∧ op.ecc = .good ∧ op.other = none ∧ fetchOk op.thr.engine (s.thread op.thr).pc = true

/-- The state in which only the instruction's own thread has changed, to `x`, with the pc past the instruction. -/
def past (s : State) (op : PervoOp) (x : ThreadSt) : State := s.setThread op.thr { x with pc := (s.thread op.thr).pc + 8 }

/-- Only register `r` has changed: it holds v coded under B = bd for the present D (R110). -/
def codedIn (s : State) (op : PervoOp) (l : Lane) (r : Reg) (v bd : Nat) : State :=
  past s op (putReg (s.thread op.thr) r (codeWord l v bd (s.dNow l)) (some (BitVec.ofNat 32 bd)))

/-- The result of a SAFE instruction: coded, or a code fault where a predicate would hold neither 0 nor 1 (R111). -/
def safeResult (s : State) (op : PervoOp) (l : Lane) (r : Reg) (v bd : Nat) : State :=
  if r.isP = true ∧ 1 < v then withdraw s l .codeFault else codedIn s op l r v bd

/-- Only register `r` has changed: 64 plain bits, or bit 0 of a predicate (R113). -/
def plainIn (s : State) (op : PervoOp) (r : Reg) (w : DWord) : State :=
  past s op (putReg (s.thread op.thr) r (if r.isP then w &&& 1 else w) none)

/-- The thread goes to `pc`; a target outside the program memory is a bounds fault of the thread at its fetch (R116, R130). -/
def goesTo (s : State) (op : PervoOp) (opc : Nat) (x : ThreadSt) (pc : Word) : State :=
  let t := s.setThread op.thr { x with pc := pc }
  if fetchOk op.thr.engine pc then t else deliverFault t op.thr .bounds opc 0

/-- A predicate result b in either mode (R110, R113): coded under B = bd, or bit 0. -/
def predIn (s : State) (op : PervoOp) (b : Bool) (bd : Nat) : State :=
  match op.thr with
  | .safe l => codedIn s op l ⟨true, op.d.toNat⟩ (b2n b) bd
  | _ => plainIn s op ⟨true, op.d.toNat⟩ (BitVec.ofNat 64 (b2n b))

/-- Nothing but the state of lane l has changed. -/
def OnlyLane (l : Lane) (s t : State) : Prop := t = { s with lanes := t.lanes } ∧ ∀ m, m ≠ l → t.lane m = s.lane m

/-- A store of a SAFE thread (R120, R56, R77, R301): of its lane, only memory, S, the two dirty maps and the pc change. -/
def StoresOnly (l : Lane) (s t : State) : Prop :=
  OnlyLane l s t ∧ t.lane l = { s.lane l with
    mem := (t.lane l).mem, osum := (t.lane l).osum, dirty := (t.lane l).dirty, tinDirty := (t.lane l).tinDirty,
    safe := { (s.lane l).safe with pc := (s.lane l).safe.pc + 8 } }

/-- Outside the n bytes from a on, lane l's memory reads as before. -/
def MemSameBut (l : Lane) (a n : Nat) (s t : State) : Prop :=
  ∀ k, k < a ∨ a + n ≤ k → memRead (t.lane l).mem k = memRead (s.lane l).mem k

/-- The pending count of a source after one more event (R98). -/
def oneMore (s : State) (e : Engine) (n : Nat) : Nat := min 255 (s.fv (PIC_COUNT_COUNT e n) + 1)

/-- Route r is present in the image, and S1 of a route instruction names it (R124, R144). -/
def NamesRoute (s : State) (op : PervoOp) (l : Lane) (r : Nat) : Prop :=
  opndOk s op.thr ⟨false, op.s1.toNat⟩ = true ∧ s.val op.thr ⟨false, op.s1.toNat⟩ = r ∧ r < 4096 ∧
  ∃ v, routeRec s l r 0 = some v ∧ natBit v 31 = true

/-- What a route instruction of a SAFE thread leaves (R124): the registers but `ks`, the other lanes and everything but lane l's locked-route vector and
object store are unchanged; its thread has the predicate `b` in Pd and the pc past the instruction. -/
def RouteOnly (op : PervoOp) (l : Lane) (b : Bool) (ks : List Nat) (s t : State) : Prop :=
  RegsButSame ks s t ∧ t = { s with regs := t.regs, lanes := t.lanes } ∧ (∀ m, m ≠ l → t.lane m = s.lane m) ∧
  t.lane l = { s.lane l with
    locked := (t.lane l).locked, mem := (t.lane l).mem, osum := (t.lane l).osum, dirty := (t.lane l).dirty, tinDirty := (t.lane l).tinDirty, safe := (t.lane l).safe } ∧
  t.thread op.thr = (codedIn s op l ⟨true, op.d.toNat⟩ (b2n b) op.imm.toNat).thread op.thr

/-- Lane l's object store, its sum and its dirty maps are unchanged. -/
def StoreSame (l : Lane) (s t : State) : Prop :=
  (t.lane l).mem = (s.lane l).mem ∧ (t.lane l).osum = (s.lane l).osum ∧ (t.lane l).dirty = (s.lane l).dirty ∧
  (t.lane l).tinDirty = (s.lane l).tinDirty

/-- RTE_LAST shows the operation, the route and its result (R150 to R152). -/
def ShowsRoute (t : State) (l : Lane) (opn r : Nat) (b : Bool) : Prop :=
  t.fv (RTE_LAST_OP l) = opn ∧ t.fv (RTE_LAST_ROUTE l) = r ∧ t.fb (RTE_LAST_RESULT l) = b

/-- The encoding of a route instruction with X = 0 is defined (R115). -/
def RouteForm (op : PervoOp) : Prop := op.x = 0 ∧ op.s2 = 0 ∧ op.d.toNat < 16 ∧ op.imm.toNat < codeP

/-! ### Rings -/

/-- Of the eight rings only ring n's own state has changed; the lanes, the memories, the gates, the mode and the timebase have not. -/
def RingOnly (n : Nat) (s t : State) : Prop :=
  (∀ m, m ≠ n → t.ring m = s.ring m) ∧ t.lanes = s.lanes ∧ t.mmem = s.mmem ∧ t.ixGates = s.ixGates ∧ t.mode = s.mode ∧ t.time = s.time

/-- The frame leaves the module's port q of ring n, and nothing else leaves it. -/
def Sends (t : State) (n : Nat) (q : Port) (f : RingFrame) : Prop := (t.ring n).out = [(q, f)]

/-! ### Networks -/

/-- A counting field after one more event: it saturates. -/
def bumped (s : State) (f : Fld) : Nat := min (2 ^ (f.hi + 1 - f.lo) - 1) (s.fv f + 1)

/-- The memories, the lanes and everything else but the registers listed and the network unit are unchanged. -/
def NetOnly (ks : List Nat) (s t : State) : Prop :=
  RegsButSame ks s t ∧ t = { s with regs := t.regs, net := t.net }

/-- A datagram that passes every check of R219 and R229 for session n, its UDP port and its tag included. -/
def ValidCopy (s : State) (n : Nat) (onB : Bool) (udp : BitVec 16) (dst : Word) (b : List Byte) : Prop :=
  (s.fb HXL_CTRL_EN = true ∧ ethUp s (b2n onB) = true ∧ udp.toNat = s.fv HXL_CTRL_UDP_PORT) ∧
  (bytesAt b 0 2 = 0x4858 ∧ bytesAt b 2 1 = 1 ∧ hxLen b ≤ 1024 ∧ b.length = 52 + hxLen b) ∧
  (bytesAt b 4 1 = n ∧ 1 ≤ n ∧ n ≤ 127) ∧
  (dst.toNat = s.fv (ETH_IP_IP (b2n onB)) ∨ (s.fb (HXL_SCFG0_MCAST_EN n) = true ∧ dst = s.rd (HXL_SMCAST n))) ∧
  (s.fb (HXL_SCFG0_RX_EN n) = true ∧ (sesState s n = 1 ∨ sesState s n = 2)) ∧
  (bytesAt b 20 4 = (s.rd (HXL_SPEER_ID n)).toNat ∧ bytesAt b 24 4 = (s.rd (HXL_SLOCAL_ID n)).toNat) ∧
  (s.fv (HXL_SCFG1_IFV_LO n) ≤ bytesAt b 3 1 ∧ bytesAt b 3 1 ≤ s.fv (HXL_SCFG1_IFV_HI n)) ∧ tagVerifies s n b = true

/-- The session's message b has been delivered: it waits for the freeze, NEXP lies past it, the session is OPEN. -/
def Delivered (s t : State) (n : Nat) (b : List Byte) (gap : Nat) (resync single : Bool) : Prop :=
  (t.ses n).wait = (s.ses n).wait ++ [⟨b, gap, resync, single⟩] ∧ t.fv (HXL_SNEXP_NEXP n) = (hxSeq b + 1) % 2 ^ 32 ∧
  (t.ses n).lastStamp = hxStamp b ∧ (t.ses n).copies = [] ∧ sesState t n = 2

/-! ### The bridge -/

/-- Message m of `who` has been accepted on route k: it stands last in its domain, with the next DSEQ; the other domains are as before (R248). -/
def Accepted (s t : State) (k : Nat) (who : BrgFrom) (m : BrgMsg) : Prop :=
  t.dom (s.route k).domain = ⟨((s.dom (s.route k).domain).nextSeq + 1) % 2 ^ 32,
    (s.dom (s.route k).domain).msgs ++ [⟨(s.dom (s.route k).domain).nextSeq, k, who, m, none, false, none, false, none⟩]⟩ ∧
  ∀ d, d ≠ (s.route k).domain → t.dom d = s.dom d

/-- Message m has left by port p, off the rings (R239, R245): on Ethernet to the address and UDP port, on the pair link that is up (PL0 first), or not at
all. -/
def LeavesBy (s t : State) (p dst udp : Nat) (m : BrgMsg) : Prop :=
  let b : BrimMsg := ⟨true, 1, 0, 0, Store.get (fun _ => 0) s.bridge.seq p, brgBytes m⟩
  t.bridge.sent = s.bridge.sent ++ (if p < 11 then [.udp p dst udp (s.fv BRG_CTRL_UDP_PORT) b]
    else if s.fb PAIR_STATUS_LINK0 then [.pair false b] else if s.fb PAIR_STATUS_LINK1 then [.pair true b] else [])

/-- A posted write h of domain d has failed with `cause`: it has left its domain, which stalls; the failure queue has one record more, source 56 one event more
(R250, R252). -/
def PostedFailed (s t : State) (d : Nat) (h : BrgHeld) (cause : Nat) : Prop :=
  t.bridge.fq = s.bridge.fq ++ [failWords s cause d 0 (s.route h.route).outPort h.route h.dseq h.msg.tag 1] ∧
  t.fv BRG_STATUS_FQ_CNT = s.bridge.fq.length + 1 ∧ t.stalled d = true ∧ (∀ g, g ∈ (t.dom d).msgs ↔ g ∈ (s.dom d).msgs ∧ g.dseq ≠ h.dseq) ∧
  (∀ e, d ≠ e → t.dom e = s.dom e) ∧ (s.alive = true → t.fv (PIC_COUNT_COUNT .mgmt 56) = oneMore s .mgmt 56)

/-! ### Power -/

/-- A counter of R335. -/
def accOf (s : State) (k : Nat) : Nat := Store.get (fun _ => 0) s.pwr.acc k

/-- Every lane is OFF with its memories and registers lost and its non-volatile keys in force; MMEM is lost; no network conducts (R19, R353). -/
def Cold (s t : State) : Prop :=
  (∀ l, (t.lane l).st = .off ∧ (t.lane l).mem = [] ∧ (t.lane l).safe = ThreadSt.init ∧ (t.lane l).keys = (s.lane l).keyNv) ∧ t.mmem = [] ∧
  t.ixGates = .all 0

/-- The module has been reset by `c` and boots (R20, R338): mode BOOT, the cause shown and counted. -/
def Boots (s t : State) (c : ResetCause) : Prop :=
  Cold s t ∧ t.pwr.power = .run ∧ t.mode = .boot ∧ t.fv PWR_RESET_CAUSE = c.code ∧ accOf t (31 + c.code) = min 4294967295 (accOf s (31 + c.code) + 1)

/-! ### Self-tests -/

/-- CVU_CTRL's plain fields as a write of w leaves them (R384). -/
def ctrlSet (s : State) (e : Engine) (u : Nat) (w : Word) : State :=
  let t := (s.setF (CVU_CTRL_POLY e u) (getBits w 1 0)).setF (CVU_CTRL_RGN e u) (getBits w 23 20)
  if e = .mgmt then t.setF (CVU_CTRL_SPACE e u) (getBits w 25 24) else t

/-- Lane l has withdrawn for `c` (R73, R74): its state, its cause register, its gates. -/
def Withdrawn (t : State) (l : Lane) (c : Cause) : Prop :=
  ((t.lane l).st = .withdrawn ∨ (t.lane l).st = .lockedOut) ∧ t.fv (LANE_CAUSE_CAUSE l) = c.code ∧ t.ixGates.get l = 0

end Sys2Proof.Safety
end

