-- ==== Sys2Proof/Certificates/Slice0/Obligations.lean ====
section
/-!
DEFINITION. The statements about the block: each formalises numbered rules of spec/, which its docstring names.
-/

open Sys2Proof Sys2Proof.Machine Sys2Proof.Safety

/-! ### Pervo: arithmetic and logic -/

/-- R110 to R112, R118: in SAFE an arithmetic or logic instruction on good operands writes the coded result, and nothing else changes; a predicate destination
that would hold neither 0 nor 1 is a code fault. -/
def Obligations.SafeArithmetic : Prop :=
  ∀ (op : PervoOp) (l : Lane) (s : State), op.thr = .safe l → Issues op s → op.imm.toNat < codeP → xBits op 5 0 = 0 →
    (dst op).legal = true → (src1 op).legal = true → (src2 op).legal = true →
    opndOk s op.thr (src1 op) = true → opndOk s op.thr (src2 op) = true →
    exec (.cadd op) s = .next (safeResult s op l (dst op) ((s.val op.thr (src1 op) + s.val op.thr (src2 op)) % 2 ^ 32) op.imm.toNat) ∧
    exec (.csub op) s = .next (safeResult s op l (dst op) ((s.val op.thr (src1 op) + 2 ^ 32 - s.val op.thr (src2 op)) % 2 ^ 32) op.imm.toNat) ∧
    exec (.cmul op) s = .next (safeResult s op l (dst op) (s.val op.thr (src1 op) * s.val op.thr (src2 op) % 2 ^ 32) op.imm.toNat) ∧
    exec (.cand op) s = .next (safeResult s op l (dst op) (s.val op.thr (src1 op) &&& s.val op.thr (src2 op)) op.imm.toNat) ∧
    exec (.cor op) s = .next (safeResult s op l (dst op) (s.val op.thr (src1 op) ||| s.val op.thr (src2 op)) op.imm.toNat) ∧
    exec (.cxor op) s = .next (safeResult s op l (dst op) (s.val op.thr (src1 op) ^^^ s.val op.thr (src2 op)) op.imm.toNat)

/-- R112, R118: shifts by X[4:0], NOT of a C register and of a predicate, and the move. R112, R118, R119: the select takes the source its predicate names, the
compare writes the condition X[2:0] of the operands, CLDI codes IMM under the short signature with W = 0. -/
def Obligations.SafeShiftsMovesAndSelects : Prop :=
  (∀ (op : PervoOp) (l : Lane) (s : State), op.thr = .safe l → Issues op s → op.imm.toNat < codeP → op.s2 = 0 →
     (dst op).legal = true → (src1 op).legal = true → opndOk s op.thr (src1 op) = true →
     (xBits op 6 5 = 0 →
       exec (.cshl op) s = .next (safeResult s op l (dst op) (s.val op.thr (src1 op) * 2 ^ xBits op 4 0 % 2 ^ 32) op.imm.toNat) ∧
       exec (.cshr op) s = .next (safeResult s op l (dst op) (s.val op.thr (src1 op) / 2 ^ xBits op 4 0) op.imm.toNat)) ∧
     (xBits op 6 0 = 0 →
       exec (.cmov op) s = .next (safeResult s op l (dst op) (s.val op.thr (src1 op)) op.imm.toNat) ∧
       exec (.cnot op) s = .next (safeResult s op l (dst op)
         (if (src1 op).isP then 1 - s.val op.thr (src1 op) else 2 ^ 32 - 1 - s.val op.thr (src1 op)) op.imm.toNat))) ∧
  (∀ (op : PervoOp) (l : Lane) (s : State), op.thr = .safe l → Issues op s →
     (op.imm.toNat < codeP → (src1 op).legal = true → (src2 op).legal = true →
       opndOk s op.thr (src1 op) = true → opndOk s op.thr (src2 op) = true →
       ((dst op).legal = true → xBits op 5 4 = 0 → opndOk s op.thr (selPred op) = true →
         exec (.csel op) s = .next (safeResult s op l (dst op)
           (s.val op.thr (if s.val op.thr (selPred op) = 1 then src1 op else src2 op)) op.imm.toNat)) ∧
       (op.x.getLsbD 8 = false → xBits op 5 3 = 0 → xBits op 2 0 < 6 → op.d.toNat < 16 →
         exec (.ccmp op) s = .next (codedIn s op l ⟨true, op.d.toNat⟩
           (b2n (cmpHolds 32 (xBits op 2 0) (s.val op.thr (src1 op)) (s.val op.thr (src2 op)))) op.imm.toNat))) ∧
     (op.s1 = 0 → xBits op 7 6 = 0 → (dst op).legal = true →
       exec (.cldi op) s = .next (safeResult s op l (dst op) op.imm.toNat (shortSig (shortSS op) 0))))

/-- R52, R88: an operand that is unwritten in this epoch, fails its check or is no predicate value is a code fault: the lane withdraws and the instruction
writes nothing. R115, R116: an encoding with a field that must be 0 set is undefined: SAFE withdraws with ILLEGAL_OP, a plain thread raises source 1; the
fault comes before any operand check and the instruction writes nothing else. R107, R117: so is every word whose OPC the opcode map lacks. -/
def Obligations.BadOperandsAndEncodings : Prop :=
  (∀ (op : PervoOp) (l : Lane) (s : State), op.thr = .safe l → Issues op s → op.imm.toNat < codeP → xBits op 5 0 = 0 →
     (dst op).legal = true → (src1 op).legal = true → (src2 op).legal = true →
     (opndOk s op.thr (src1 op) = false ∨ opndOk s op.thr (src2 op) = false) →
     ∀ i ∈ [Instr.cadd op, .csub op, .cmul op, .cand op, .cor op, .cxor op, .csel op],
       exec i s = .next (withdraw s l .codeFault)) ∧
  (∀ (op : PervoOp) (s : State), Issues op s → op.s2 ≠ 0 →
     ∀ i ∈ [(Instr.nop op, 0x01), (.br op, 0x08), (.brp op, 0x09), (.call op, 0x0A), (.ret op, 0x0B), (.epochend op, 0x0C), (.halt op, 0x0D),
       (.fence op, 0x0E), (.cnot op, 0x16), (.cmov op, 0x18), (.cshl op, 0x1A), (.cshr op, 0x1B), (.aset op, 0x28), (.aadd op, 0x29),
       (.rtreq op, 0x40), (.rtlock op, 0x41), (.rtrel op, 0x42), (.tstart op, 0x48), (.csrr op, 0x60), (.csrw op, 0x61), (.syscall op, 0x62),
       (.waiti op, 0x64)],
       exec i.1 s = .next (deliverFault s op.thr .undef i.2 0)) ∧
  (∀ (t : Thr) (w : DWord) (s : State), w.toNat / 2 ^ 56 ∉ pervoOpcodes.map BitVec.toNat → (s.thread t).run = .running →
     fetchOk t.engine (s.thread t).pc = true →
     exec (decodePervo t w .good) s = .next (deliverFault s t .undef (w.toNat / 2 ^ 56) 0))

/-- R113: SYS and the management thread compute on plain 64-bit words. -/
def Obligations.PlainArithmetic : Prop :=
  ∀ (op : PervoOp) (s : State), op.thr.isSafe = false → Issues op s →
    (dst op).legal = true → (src1 op).legal = true →
    ((src2 op).legal = true → xBits op 5 0 = 0 →
      exec (.cadd op) s = .next (plainIn s op (dst op) (s.reg op.thr (src1 op) + s.reg op.thr (src2 op))) ∧
      exec (.csub op) s = .next (plainIn s op (dst op) (s.reg op.thr (src1 op) - s.reg op.thr (src2 op))) ∧
      exec (.cand op) s = .next (plainIn s op (dst op) (s.reg op.thr (src1 op) &&& s.reg op.thr (src2 op))) ∧
      exec (.cor op) s = .next (plainIn s op (dst op) (s.reg op.thr (src1 op) ||| s.reg op.thr (src2 op))) ∧
      exec (.cxor op) s = .next (plainIn s op (dst op) (s.reg op.thr (src1 op) ^^^ s.reg op.thr (src2 op))) ∧
      exec (.cmul op) s = .next (plainIn s op (dst op) (s.reg op.thr (src1 op) * BitVec.ofNat 64 (wordV (s.reg op.thr (src2 op)))))) ∧
    (op.s2 = 0 → xBits op 6 5 = 0 →
      exec (.cshl op) s = .next (plainIn s op (dst op) (s.reg op.thr (src1 op) <<< xBits op 4 0)) ∧
      exec (.cshr op) s = .next (plainIn s op (dst op) (s.reg op.thr (src1 op) >>> xBits op 4 0)) ∧
      (xBits op 6 0 = 0 → exec (.cmov op) s = .next (plainIn s op (dst op) (s.reg op.thr (src1 op))) ∧
        exec (.cnot op) s = .next (plainIn s op (dst op)
          (if (src1 op).isP then s.reg op.thr (src1 op) ^^^ 1 else ~~~ s.reg op.thr (src1 op))))) ∧
    ((src2 op).legal = true → xBits op 5 4 = 0 → exec (.csel op) s = .next (plainIn s op (dst op)
      (s.reg op.thr (if (s.reg op.thr (selPred op)).getLsbD 0 then src1 op else src2 op)))) ∧
    ((src2 op).legal = true → op.x.getLsbD 8 = false → xBits op 5 3 = 0 → xBits op 2 0 < 6 → op.d.toNat < 16 →
      exec (.ccmp op) s = .next (plainIn s op ⟨true, op.d.toNat⟩ (BitVec.ofNat 64 (b2n
        (cmpHolds 64 (xBits op 2 0) (s.reg op.thr (src1 op)).toNat (s.reg op.thr (src2 op)).toNat))))) ∧
    (op.s1 = 0 → xBits op 7 6 = 0 → exec (.cldi op) s = .next (plainIn s op (dst op) (mkWord op.imm.toNat 0)))

/-- R119: the address registers, in every thread; nothing but A_D and the pc changes. -/
def Obligations.AddressRegisters : Prop :=
  ∀ (op : PervoOp) (s : State), Issues op s → op.d.toNat < 16 →
    (op.x = 0 → op.s1 = 0 → op.s2 = 0 → exec (.aset op) s = .next (past s op { s.thread op.thr with
      a := Store.put (fun _ => 0) (s.thread op.thr).a op.d.toNat op.imm })) ∧
    (op.x = 0 → op.s2 = 0 → op.s1.toNat < 16 → exec (.aadd op) s = .next (past s op { s.thread op.thr with
      a := Store.put (fun _ => 0) (s.thread op.thr).a op.d.toNat (s.areg op.thr op.s1.toNat + op.imm) })) ∧
    (xBits op 8 2 = 0 → op.s1.toNat < 16 → opndOk s op.thr ⟨false, op.s2.toNat⟩ = true →
      exec (.aidx op) s = .next (past s op { s.thread op.thr with
        a := Store.put (fun _ => 0) (s.thread op.thr).a op.d.toNat
          (s.areg op.thr op.s1.toNat + BitVec.ofNat 32 (s.val op.thr ⟨false, op.s2.toNat⟩ * idxScale (xBits op 1 0)) + op.imm) }))

/-! ### Pervo: control flow and the system instructions -/

/-- R130: branches to the address of the branch plus 8 × IMM, a call pushes the return address, RET pops it; the 33rd call and a return from an empty stack
are bounds faults. -/
def Obligations.ControlFlow : Prop :=
  ∀ (op : PervoOp) (s : State), Issues op s → op.d = 0 → op.s2 = 0 →
    let x := s.thread op.thr
    (op.s1 = 0 → op.x = 0 →
      (op.imm = 0 → exec (.nop op) s = .next (past s op x) ∧ exec (.fence op) s = .next (past s op x)) ∧
      exec (.br op) s = .next (goesTo s op 0x08 x (x.pc + 8 * op.imm)) ∧
      exec (.call op) s = .next (if x.rstack.length < 32 then goesTo s op 0x0A { x with rstack := (x.pc + 8) :: x.rstack } (x.pc + 8 * op.imm)
        else deliverFault s op.thr .bounds 0x0A 0) ∧
      (op.imm = 0 → exec (.ret op) s = .next (match x.rstack with
        | [] => deliverFault s op.thr .bounds 0x0B 0
        | a :: r => goesTo s op 0x0B { x with rstack := r } a))) ∧
    (xBits op 8 1 = 0 → op.s1.toNat < 16 → opndOk s op.thr ⟨true, op.s1.toNat⟩ = true →
      exec (.brp op) s = .next (if s.pred op.thr ⟨true, op.s1.toNat⟩ ≠ op.x.getLsbD 0 then goesTo s op 0x09 x (x.pc + 8 * op.imm)
        else past s op x))

/-- R33, R34, R93, R104, R130: EPOCHEND ends the SAFE thread's epoch, HALT withdraws its lane; WAITI stops a SYS or management thread; SYSCALL raises source 5
with CS_EPC to be the address after it, and in normal flow the thread issues nothing more until that source is delivered. -/
def Obligations.EndsOfIssue : Prop :=
  ∀ (op : PervoOp) (s : State), Issues op s → op.d = 0 → op.s1 = 0 → op.s2 = 0 → op.x = 0 →
    (∀ l, op.thr = .safe l → op.imm = 0 →
      exec (.epochend op) s = .next (past s op { s.thread op.thr with run := .ended }) ∧
      exec (.halt op) s = .next (withdraw s l .halt)) ∧
    (op.thr.isSafe = false →
      (op.imm = 0 → exec (.waiti op) s = .next (past s op { s.thread op.thr with run := .waiting }) ∧
        exec (.halt op) s = .next (plainFault s op.thr.engine .halt 0x0D 0)) ∧
      exec (.syscall op) s = .next (plainFault (past s op (s.thread op.thr)) op.thr.engine .syscall 0x62 0) ∧
      ((s.thread op.thr).handler = false → s.engineOn op.thr.engine = true → Gives (.syscall op) s fun t =>
        (t.thread op.thr).run = .faulted ∧ (t.thread op.thr).pc = (s.thread op.thr).pc + 8 ∧
        t.fv (PIC_COUNT_COUNT op.thr.engine 5) = oneMore s op.thr.engine 5 ∧ t.fv (CS_EINFO_OPC op.thr.engine) = 0x62 ∧ MemsSame s t))

/-! ### Objects -/

/-- R85, R120, R135: the object form of OLD delivers the field under its field signature in SAFE, the word as stored in SYS; a SAFE field that is not at the
present D is a code fault. R120, R113: bit b of a field into Pd, under the short signature with W = 0. R86, R89, R110: the address form of OLD through a
descriptor that allows it: a SAFE load of a word that the lane itself codes takes it under the short signature of its address; a SYS or management load
takes the word unchanged. -/
def Obligations.Loads : Prop :=
  (∀ (op : PervoOp) (l : Lane) (s : State), Issues op s → (datum op).legal = true → xBits op 8 7 = 0 → op.s1 = 0 → op.s2 = 0 →
     xBits op 5 0 = 0 → objRefBad op = false →
     (op.thr = .safe l → exec (.old op) s = .next (
       if fieldOk s l (objIdx op) (objFld op) (s.dNow l) then
         safeResult s op l (datum op) (wordV (omemWord s l (objIdx op) (objFld op))) (fieldSig s l (objIdx op) (objFld op))
       else withdraw s l .codeFault)) ∧
     (op.thr = .sys l → exec (.old op) s = .next (plainIn s op (datum op) (omemWord s l (objIdx op) (objFld op))))) ∧
  (∀ (op : PervoOp) (l : Lane) (s : State), Issues op s → op.thr = .safe l ∨ op.thr = .sys l → xBits op 8 7 = 0 → op.x.getLsbD 6 = true →
     op.s1 = 0 → op.d.toNat < 16 → immBits op 5 0 = 0 → immBits op 11 6 < 32 →
     (op.thr = .safe l → fieldOk s l (objIdx op) (objFld op) (s.dNow l) = true) →
     exec (.obit op) s = .next (predIn s op (natBit (wordV (omemWord s l (objIdx op) (objFld op))) (immBits op 11 6))
       (shortSig (shortSS op) 0))) ∧
  (∀ (op : PervoOp) (l : Lane) (s : State), Issues op s → (datum op).legal = true → addrForm op = true → op.x.getLsbD 7 = false →
     op.s1.toNat < 16 → accessFault s op.thr op.s1.toNat (effAddr s op) true false = none →
     (op.thr = .safe l → target s op.thr (effAddr s op) = .lmemSafe ∨ target s op.thr (effAddr s op) = .omem →
       codeOk l (loadWord s op.thr (effAddr s op)) (shortSig (shortSS op) (sigW s op.thr op.s1.toNat (effAddr s op) 8)) (s.dNow l) = true →
       exec (.old op) s = .next (safeResult s op l (datum op) (wordV (loadWord s op.thr (effAddr s op)))
         (shortSig (shortSS op) (sigW s op.thr op.s1.toNat (effAddr s op) 8)))) ∧
     (op.thr = .safe l → target s op.thr (effAddr s op) = .lmemSys →
       exec (.old op) s = .next (safeResult s op l (datum op) (wordV (loadWord s op.thr (effAddr s op)))
         (shortSig (shortSS op) (sigW s op.thr op.s1.toNat (effAddr s op) 8)))) ∧
     (op.thr.isSafe = false → inRegSpace (effAddr s op) = false →
       exec (.old op) s = .next (plainIn s op (datum op) (loadWord s op.thr (effAddr s op)))))

/-- R56, R120, R135, R138: the object form of OST stores v under the field signature for the present D; S follows the functional value; where v of a field 0
to 6 changes, CHG of field 7 becomes E mod 2,048 and its other bits stay. Memory outside the two words is unchanged, and of the rest of the state only the
dirty maps and the pc change. Such a change where field 7 is not at the present D is a code fault, and nothing is stored. -/
def Obligations.ObjectStore : Prop :=
  ∀ (op : PervoOp) (l : Lane) (s : State), op.thr = .safe l → Issues op s → (datum op).legal = true → xBits op 8 7 = 0 → op.s1 = 0 →
    op.s2 = 0 → xBits op 5 0 = 0 → objRefBad op = false → opndOk s op.thr (datum op) = true →
    let i := objIdx op
    let f := objFld op
    let v := s.val op.thr (datum op)
    let old := wordV (omemWord s l i f)
    (fieldOk s l i 7 (s.dNow l) = false → f ≠ 7 → v ≠ old → exec (.ost op) s = .next (withdraw s l .codeFault)) ∧
    (fieldOk s l i 7 (s.dNow l) = true →
    Gives (.ost op) s fun t => StoresOnly l s t ∧
      omemWord t l i f = codeWord l v (fieldSig s l i f) (s.dNow l) ∧
      (v = old → (t.lane l).osum = (s.lane l).osum ∧ MemSameBut l (omemAddr i f) 8 s t) ∧
      (v ≠ old → f = 7 → (t.lane l).osum = (s.lane l).osum - elemHash i f old + elemHash i f v ∧ MemSameBut l (omemAddr i f) 8 s t) ∧
      (v ≠ old → f ≠ 7 →
        wordV (omemWord t l i 7) = wordV (omemWord s l i 7) % 2 ^ 21 + (s.lane l).frozenE % 2048 * 2 ^ 21 ∧
        fieldOk t l i 7 (s.dNow l) = true ∧
        (∀ k, (k < omemAddr i f ∨ omemAddr i f + 8 ≤ k) → (k < omemAddr i 7 ∨ omemAddr i 7 + 8 ≤ k) →
          memRead (t.lane l).mem k = memRead (s.lane l).mem k)))

/-- R85, R113: the address form of OST: a plain thread stores its 64-bit word in its own memory; a SAFE store into its part of LMEM re-signs the word to the
short signature of the address. Nothing outside the 8 bytes changes. -/
def Obligations.AddressStore : Prop :=
  ∀ (op : PervoOp) (s : State), Issues op s → (datum op).legal = true → addrForm op = true → op.x.getLsbD 7 = false →
    op.s1.toNat < 16 → opndOk s op.thr (datum op) = true → accessFault s op.thr op.s1.toNat (effAddr s op) false true = none →
    (∀ l, op.thr = .safe l → Gives (.ost op) s fun t => StoresOnly l s t ∧ (t.lane l).osum = (s.lane l).osum ∧
      memWord (t.lane l).mem (effAddr s op) = codeWord l (s.val op.thr (datum op))
        (shortSig (shortSS op) (sigW s op.thr op.s1.toNat (effAddr s op) 8)) (s.dNow l) ∧
      MemSameBut l (effAddr s op) 8 s t) ∧
    (∀ l, op.thr = .sys l → target s op.thr (effAddr s op) = .lmemSys → Gives (.ost op) s fun t => OnlyLane l s t ∧
      t.lane l = { s.lane l with mem := (t.lane l).mem, sys := { (s.lane l).sys with pc := (s.lane l).sys.pc + 8 } } ∧
      memWord (t.lane l).mem (effAddr s op) = s.reg op.thr (datum op) ∧ MemSameBut l (effAddr s op) 8 s t) ∧
    (op.thr = .mgmt → target s op.thr (effAddr s op) = .mmem → Gives (.ost op) s fun t =>
      t = { s with mmem := t.mmem, mgmt := { s.mgmt with pc := s.mgmt.pc + 8 } } ∧
      memWord t.mmem (effAddr s op) = s.reg op.thr (datum op) ∧
      ∀ k, k < effAddr s op ∨ effAddr s op + 8 ≤ k → memRead t.mmem k = memRead s.mmem k)

/-- R54, R121: a carry takes a field coded for D_prev to the present D, keeps v, counts in OBJ_CARRY and puts the word in field D; a field at any other D, and a
predicate destination that would hold neither 0 nor 1, is a code fault that changes no field. R122: a carrying scan over a run of n objects whose masked fields stand at D_prev (and field 0 of each at the D the scan
applies to it) brings every one of them to the present D, keeps their v, changes no other OMEM word, and puts n into Cd; a run of no object or no field
changes only Cd. -/
def Obligations.Carries : Prop :=
  (∀ (op : PervoOp) (l : Lane) (s : State), op.thr = .safe l → Issues op s → (datum op).legal = true → addrForm op = false → op.s1 = 0 →
     op.s2 = 0 → xBits op 5 0 = 0 → objRefBad op = false →
     let i := objIdx op
     let f := objFld op
     let v := wordV (omemWord s l i f)
     (fieldOk s l i f (dPrev (s.lane l).frozenE) = false → exec (.oldCarry op) s = .next (withdraw s l .codeFault)) ∧
     (fieldOk s l i f (dPrev (s.lane l).frozenE) = true → (datum op).isP = true → 1 < v → exec (.oldCarry op) s = .next (withdraw s l .codeFault)) ∧
     (fieldOk s l i f (dPrev (s.lane l).frozenE) = true → ((datum op).isP = true → v ≤ 1) →
       Gives (.oldCarry op) s fun t => OnlyLane l s t ∧
         omemWord t l i f = codeWord l v (fieldSig s l i f) (s.dNow l) ∧ MemSameBut l (omemAddr i f) 8 s t ∧
         (t.lane l).carried = (s.lane l).carried + 1 ∧ (t.lane l).osum = (s.lane l).osum ∧
         (t.lane l).dirty = (s.lane l).dirty ∧ (t.lane l).tinDirty = (s.lane l).tinDirty ∧
         t.reg op.thr (datum op) = codeWord l v (fieldSig s l i f) (s.dNow l) ∧ (t.lane l).safe.pc = (s.lane l).safe.pc + 8)) ∧
  (∀ (op : PervoOp) (l : Lane) (s : State), op.thr = .safe l → Issues op s → op.s2 = 0 → immBits op 14 0 = 0 → op.x.getLsbD 8 = true →
     opndOk s op.thr ⟨false, op.s1.toNat⟩ = true →
     let n := s.val op.thr ⟨false, op.s1.toNat⟩
     let b := s.tag op.thr ⟨false, op.s1.toNat⟩
     let fm := xBits op 7 0
     let i0 := objIdx op
     let e := (s.lane l).frozenE
     (n = 0 ∨ fm = 0 → exec (.oscn op) s = .next (codedIn s op l ⟨false, op.d.toNat⟩ 0 b)) ∧
     (0 < n → fm ≠ 0 → i0 + n ≤ 131072 →
       (∀ i, i0 ≤ i → i < i0 + n → wordV (omemWord s l i 0) / 2 ^ 26 = wordV (omemWord s l i0 0) / 2 ^ 26 ∧
         (natBit fm 0 = false → fieldOk s l i 0 (s.dNow l) = true) ∧
         ∀ f, f < 8 → natBit fm f = true → fieldOk s l i f (dPrev e) = true) →
       Gives (.oscn op) s fun t => OnlyLane l s t ∧
         t.reg op.thr ⟨false, op.d.toNat⟩ = codeWord l n b (s.dNow l) ∧ (t.lane l).safe.pc = (s.lane l).safe.pc + 8 ∧
         (t.lane l).carried = (s.lane l).carried + n * (maskFields fm).length ∧
         (∀ i f, i0 ≤ i → i < i0 + n → f < 8 → natBit fm f = true →
           omemWord t l i f = codeWord l (wordV (omemWord s l i f)) (fieldSig s l i f) (s.dNow l)) ∧
         (∀ i f, i < 131072 → f < 8 → (i < i0 ∨ i0 + n ≤ i ∨ natBit fm f = false) → omemWord t l i f = omemWord s l i f)))

/-! ### Routes and timers -/

/-- R124, R150: the route test and the two commands on the locked-route vector. RTLOCK locks the route only where the test passes, counts the result and raises source
24 where it locked; RTREL gives what the bit was and raises source 25 where it released. Nothing else changes but RTE_LAST, Pd and the pc. -/
def Obligations.RouteLocking : Prop :=
  ∀ (op : PervoOp) (l : Lane) (r : Nat) (s : State), Issues op s → RouteForm op → NamesRoute s op l r →
    s.engineOn (.lane l) = true →
    (op.thr = .safe l ∨ op.thr = .sys l → exec (.rtreq op) s = .next (predIn s op (routeFree s l r) op.imm.toNat)) ∧
    (op.thr = .safe l →
      (let free := routeFree s l r
       Gives (.rtlock op) s fun t =>
        RouteOnly op l free [RTE_LAST l, RTE_OPS l, PIC_COUNT (.lane l) 24] s t ∧ StoreSame l s t ∧ ShowsRoute t l 1 r free ∧
        t.reg op.thr ⟨true, op.d.toNat⟩ = codeWord l (b2n free) op.imm.toNat (s.dNow l) ∧
        (∀ j, j < 4096 → lockedAt (t.lane l).locked j = (lockedAt (s.lane l).locked j || (decide (j = r) && free))) ∧
        t.fv (RTE_OPS_LOCK_OK l) = (if free then bumped s (RTE_OPS_LOCK_OK l) else s.fv (RTE_OPS_LOCK_OK l)) ∧
        t.fv (RTE_OPS_LOCK_REFUSED l) = (if free then s.fv (RTE_OPS_LOCK_REFUSED l) else bumped s (RTE_OPS_LOCK_REFUSED l)) ∧
        t.fv (PIC_COUNT_COUNT (.lane l) 24) =
          (if free then oneMore s (.lane l) 24 else s.fv (PIC_COUNT_COUNT (.lane l) 24))) ∧
      (let was := lockedAt (s.lane l).locked r
       Gives (.rtrel op) s fun t =>
        RouteOnly op l was [RTE_LAST l, PIC_COUNT (.lane l) 25] s t ∧ StoreSame l s t ∧ ShowsRoute t l 2 r was ∧
        t.reg op.thr ⟨true, op.d.toNat⟩ = codeWord l (b2n was) op.imm.toNat (s.dNow l) ∧
        (∀ j, j < 4096 → lockedAt (t.lane l).locked j = (lockedAt (s.lane l).locked j && decide (j ≠ r))) ∧
        t.fv (PIC_COUNT_COUNT (.lane l) 25) =
          (if was then oneMore s (.lane l) 25 else s.fv (PIC_COUNT_COUNT (.lane l) 25))))

/-- R152: FLANK reserves or releases a route's flank set all or nothing: each RCNT moves by one where every object allows it, none where one does not, and Pd
and RTE_LAST tell which; a refusal raises source 26 or 27. No field but field 2 of the set's objects and the change epochs in their fields 7 changes. -/
def Obligations.FlankSets : Prop :=
  ∀ (op : PervoOp) (l : Lane) (r : Nat) (es : List (Nat × Nat)) (s : State), op.thr = .safe l → Issues op s → RouteForm op →
    NamesRoute s op l r → s.engineOn (.lane l) = true → routeListOf s l r 3 = some es →
    (∀ e ∈ es, fieldOk s l e.1 0 (s.dNow l) = true ∧ fieldOk s l e.1 2 (s.dNow l) = true ∧ fieldOk s l e.1 7 (s.dNow l) = true) →
    let rcnt := fun (u : State) (i : Nat) => wordV (omemWord u l i 2) % 256
    let hdr := fun (i : Nat) => wordV (omemWord s l i 0)
    let done := fun (t : State) => RouteOnly op l true [RTE_LAST l] s t ∧ ShowsRoute t l 3 r true ∧
      (t.lane l).locked = (s.lane l).locked ∧ t.reg op.thr ⟨true, op.d.toNat⟩ = codeWord l 1 op.imm.toNat (s.dNow l) ∧
      (∀ e ∈ es, wordV (omemWord t l e.1 2) / 256 = wordV (omemWord s l e.1 2) / 256 ∧
        wordV (omemWord t l e.1 7) = wordV (omemWord s l e.1 7) % 2 ^ 21 + (s.lane l).frozenE % 2048 * 2 ^ 21) ∧
      ∀ i f, i < 131072 → f < 8 → (f ≠ 2 ∧ f ≠ 7 ∨ ∀ e ∈ es, e.1 ≠ i) → omemWord t l i f = omemWord s l i f
    let refused := fun (src : Nat) (t : State) => RouteOnly op l false [RTE_LAST l, PIC_COUNT (.lane l) src] s t ∧ StoreSame l s t ∧
      (t.lane l).locked = (s.lane l).locked ∧ ShowsRoute t l 3 r false ∧
      t.reg op.thr ⟨true, op.d.toNat⟩ = codeWord l 0 op.imm.toNat (s.dNow l) ∧
      t.fv (PIC_COUNT_COUNT (.lane l) src) = oneMore s (.lane l) src
    ((∀ e ∈ es, rcnt s e.1 < 255 ∧ hdrBlocked (hdr e.1) = false ∧ hdrStale (hdr e.1) = false) →
      Gives (.flankReserve op) s fun t => done t ∧ ∀ e ∈ es, rcnt t e.1 = rcnt s e.1 + 1) ∧
    ((∃ e ∈ es, rcnt s e.1 = 255 ∨ hdrBlocked (hdr e.1) = true ∨ hdrStale (hdr e.1) = true) →
      Gives (.flankReserve op) s (refused 26)) ∧
    ((∀ e ∈ es, 1 ≤ rcnt s e.1) → Gives (.flankRelease op) s fun t => done t ∧ ∀ e ∈ es, rcnt t e.1 = rcnt s e.1 - 1) ∧
    ((∃ e ∈ es, rcnt s e.1 = 0) → Gives (.flankRelease op) s (refused 27))

/-- R151, R153: the element tests. Pd is 1 when every entry examined passes; an entry whose fields are at the present D never faults, and nothing but Pd and
the pc changes. -/
def Obligations.ElementTests : Prop :=
  ∀ (op : PervoOp) (l : Lane) (r : Nat) (es fs os : List (Nat × Nat)) (s : State), op.thr = .safe l ∨ op.thr = .sys l → Issues op s →
    RouteForm op → NamesRoute s op l r → routeListOf s l r 1 = some es → routeListOf s l r 2 = some os → routeListOf s l r 3 = some fs →
    let h := fun (i : Nat) => wordV (omemWord s l i 0)
    let f1 := fun (i : Nat) => wordV (omemWord s l i 1)
    (∀ i ∈ ((es ++ os ++ fs).map fun e => e.1) ++ (fs.map fun e => f1 e.1 / 2 ^ 15), ∀ f, f < 3 → fieldOk s l i f (s.dNow l) = true) →
    let f2 := fun (i : Nat) => wordV (omemWord s l i 2)
    let clear := fun (i : Nat) => natBit (f1 i) 0 && !hdrForced (h i) && !hdrStale (h i) && (decide (f2 i % 8192 = 0) || decide (f2 i % 8192 = r + 1))
    let detected := fun (i q : Nat) => decide (f2 i % 4 = q) && hdrFresh (h i) && !hdrForced (h i) && !hdrStale (h i)
    let guards := fun (i : Nat) => let p := f1 i / 2 ^ 15; let q := f1 i / 2 ^ 13 % 4
      hdrFresh (h p) && !hdrStale (h p) && ((decide (objType s l p = 2) && (decide (q = 1) || decide (q = 2)) && decide (f2 p % 4 = q)) ||
        (decide (objType s l p = 3) && decide (q = 3) && decide (f2 p % 16 = 0)))
    exec (.elchkAvailable op) s = .next (predIn s op (es.all fun e => !hdrBlocked (h e.1) && !hdrStale (h e.1)) op.imm.toNat) ∧
    exec (.elchkClear op) s = .next (predIn s op (es.all fun e => !isSection (objType s l e.1) || clear e.1) op.imm.toNat) ∧
    exec (.elchkDetected op) s = .next (predIn s op
      ((es.all fun e => if objType s l e.1 = 2 then detected e.1 e.2
        else if objType s l e.1 = 5 then natBit (f2 e.1) 0 && hdrFresh (h e.1) else true) && fs.all fun e => guards e.1) op.imm.toNat) ∧
    exec (.elchkOverlap op) s = .next (predIn s op
      (os.all fun e => if isSection (objType s l e.1) then clear e.1
        else if objType s l e.1 = 2 then detected e.1 e.2 else true) op.imm.toNat)

/-- R125, R126, R139: TSTART writes the deadline epoch, the first that begins at or after E × 10 ms + t, into field 7 and sets RUN, keeping CHG; with t = 0 it
writes nothing. TCHK tells whether a running timer's deadline has come. -/
def Obligations.Timers : Prop :=
  ∀ (op : PervoOp) (l : Lane) (s : State), Issues op s → op.s2 = 0 → objRefBad op = false → objFld op = 7 →
    let i := objIdx op
    let e := (s.lane l).frozenE
    let v7 := fun (u : State) => wordV (omemWord u l i 7)
    (op.thr = .safe l → op.d = 0 → op.x = 0 → opndOk s op.thr ⟨false, op.s1.toNat⟩ = true → fieldOk s l i 7 (s.dNow l) = true →
      let us := s.val op.thr ⟨false, op.s1.toNat⟩
      (us = 0 → exec (.tstart op) s = .next (past s op (s.thread op.thr))) ∧
      (0 < us → Gives (.tstart op) s fun t => StoresOnly l s t ∧ fieldOk t l i 7 (s.dNow l) = true ∧
        MemSameBut l (omemAddr i 7) 8 s t ∧ v7 t / 2 ^ 21 = v7 s / 2 ^ 21 ∧ natBit (v7 t) 20 = true ∧
        ∃ dl, v7 t % 2 ^ 20 = dl % 2 ^ 20 ∧ e * 10000000 + 1000 * us ≤ dl * 10000000 ∧ dl * 10000000 < e * 10000000 + 1000 * us + 10000000)) ∧
    (op.thr = .safe l ∨ op.thr = .sys l → op.s1 = 0 → xBits op 8 6 = 0 → op.d.toNat < 16 →
      (op.thr = .safe l → fieldOk s l i 7 (s.dNow l) = true) →
      ∀ dl, v7 s % 2 ^ 20 = dl % 2 ^ 20 → dl < e + 2 ^ 19 → e < dl + 2 ^ 19 →
        exec (.tchk op) s = .next (predIn s op (natBit (v7 s) 20 && decide (dl ≤ e)) (shortSig (shortSS op) 0)))

/-! ### Messages and publication -/

/-- R23, R123, R127: SLRD and HXRECV deliver the frozen word at EA, coded at the load in SAFE, in bits [63:32] in SYS. -/
def Obligations.SnapshotReads : Prop :=
  ∀ (op : PervoOp) (l : Lane) (s : State), Issues op s → op.thr = .safe l ∨ op.thr = .sys l → xBits op 8 6 = 0 → op.s1.toNat < 16 →
    accessFault s op.thr op.s1.toNat (effAddr s op) true false = none →
    let v := (Store.get (fun _ => 0) (s.lane l).snap (effAddr s op)).toNat
    let b := shortSig (shortSS op) (sigW s op.thr op.s1.toNat (effAddr s op) 4)
    let t := if op.thr.isSafe then codedIn s op l ⟨false, op.d.toNat⟩ v b else plainIn s op ⟨false, op.d.toNat⟩ (mkWord v 0)
    (0x06000000 ≤ effAddr s op → effAddr s op ≤ 0x062FFFFF → exec (.slrd op) s = .next t) ∧
    (0x06300000 ≤ effAddr s op → effAddr s op ≤ 0x063FFFFF → exec (.hxrecv op) s = .next t)

/-- R127: SLWR and HXSEND write one word of the build buffer they name and nothing else; a word index of 256 or more, a destination the image or the
configuration lacks, and one already published in the epoch are bounds faults. -/
def Obligations.BuildBuffers : Prop :=
  ∀ (op : PervoOp) (l : Lane) (s : State), op.thr = .safe l → Issues op s → op.s1 = 0 → xBits op 8 1 = 0 →
    (op.x.getLsbD 0 = false → op.s2 = 0) → opndOk s op.thr ⟨false, op.d.toNat⟩ = true →
    (op.x.getLsbD 0 = true → opndOk s op.thr ⟨false, op.s2.toNat⟩ = true) →
    let add := if op.x.getLsbD 0 then s.val op.thr ⟨false, op.s2.toNat⟩ else 0
    let v := BitVec.ofNat 32 (s.val op.thr ⟨false, op.d.toNat⟩)
    (immBits op 12 0 = 0 → immBits op 28 21 ≠ 255 →
      let ring := immBits op 31 29
      let pos := immBits op 28 21
      let k := immBits op 20 13 + add
      if k < 256 ∧ s.hasDownSlice ring pos = true ∧ slicePublished (s.lane l) ring pos = false then
        Gives (.slwr op) s fun t => OnlyLane l s t ∧
          t.lane l = { s.lane l with slBuild := (t.lane l).slBuild, safe := { (s.lane l).safe with pc := (s.lane l).safe.pc + 8 } } ∧
          ∀ j, Store.get (fun _ => 0) (t.lane l).slBuild j =
            if j = (ring * 256 + pos) * 256 + k then v else Store.get (fun _ => 0) (s.lane l).slBuild j
      else exec (.slwr op) s = .next (withdraw s l .bounds)) ∧
    (immBits op 16 0 = 0 → immBits op 31 25 ≠ 0 →
      let ses := immBits op 31 25
      let k := immBits op 24 17 + add
      if k < 256 ∧ s.fb (HXL_SCFG0_EN ses) = true ∧ hexloPublished (s.lane l) ses = false then
        Gives (.hxsend op) s fun t => OnlyLane l s t ∧
          t.lane l = { s.lane l with hxBuild := (t.lane l).hxBuild, safe := { (s.lane l).safe with pc := (s.lane l).safe.pc + 8 } } ∧
          ∀ j, Store.get (fun _ => 0) (t.lane l).hxBuild j = if j = ses * 256 + k then v else Store.get (fun _ => 0) (s.lane l).hxBuild j
      else exec (.hxsend op) s = .next (withdraw s l .bounds))

/-- R57, R128: the local output word is the record of the lowest key: it is published once, before every other record; published later it is VPUB_ORDER. R57,
R66, R67, R128: a slice or a message of L > 0 bytes in key order enters the output vector with the first L bytes of its build buffer, and its plane the
staging store with the lane code of R66; out of order it is VPUB_ORDER; with L = 0 it publishes nothing; beyond 1,024 bytes, without a down-slice or an
enabled session, and where the session has its record already, it is a bounds fault. A word of kind 3 is undefined. -/
def Obligations.LocalWordAndPublication : Prop :=
  (∀ (op : PervoOp) (l : Lane) (s : State), op.thr = .safe l → Issues op s → op.d = 0 → op.s2 = 0 → op.x = 0 → op.imm = 0 →
     opndOk s op.thr ⟨false, op.s1.toNat⟩ = true →
     ((s.lane l).lastKey = none → Gives (.vpubLocal op) s fun t => OnlyLane l s t ∧
       (t.lane l).localWord = some (BitVec.ofNat 32 (s.val op.thr ⟨false, op.s1.toNat⟩)) ∧ (t.lane l).lastKey = some (0, 0, 0) ∧
       (t.lane l).recs = (s.lane l).recs ∧ (t.lane l).mem = (s.lane l).mem ∧ (t.lane l).safe.pc = (s.lane l).safe.pc + 8) ∧
     ((s.lane l).lastKey ≠ none → exec (.vpubLocal op) s = .next (withdraw s l .vpubOrder))) ∧
  (∀ (l : Lane) (w : DWord) (ecc : Ecc) (s : State), (w.toNat / 2 ^ 56) = 0x58 → w.toNat / 2 ^ 32 % 4 = 3 →
     (s.thread (.safe l)).run = .running → ecc = .good → fetchOk (.lane l) (s.thread (.safe l)).pc = true →
     exec (decodePervo (.safe l) w ecc) s = .next (withdraw s l .illegalOp)) ∧
  (∀ (op : PervoOp) (l : Lane) (s : State), op.thr = .safe l → Issues op s → op.d = 0 → xBits op 8 2 = 0 →
     opndOk s op.thr ⟨false, op.s2.toNat⟩ = true →
     let x := s.lane l
     let len := s.val op.thr ⟨false, op.s2.toNat⟩
     (op.s1 = 0 → immBits op 20 0 = 0 → immBits op 28 21 ≠ 255 →
       let ring := immBits op 31 29
       let pos := immBits op 28 21
       let p := buildPayload x.slBuild ((ring * 256 + pos) * 256) len
       (1024 < len ∨ s.hasDownSlice ring pos = false → exec (.vpubSlice op) s = .next (withdraw s l .bounds)) ∧
       (s.hasDownSlice ring pos = true → len = 0 → exec (.vpubSlice op) s = .next (past s op x.safe)) ∧
       (s.hasDownSlice ring pos = true → 0 < len → len ≤ 1024 →
         if keyOk x (1, ring, pos) then Gives (.vpubSlice op) s fun t => OnlyLane l s t ∧ p.length = len ∧
           (t.lane l).recs = x.recs ++ [.slice ring pos p] ∧ (t.lane l).lastKey = some (1, ring, pos) ∧
           (t.lane l).staged = x.staged ++ [⟨.slice ring pos p, s.makeCode l (slotDown ring)
             (downString ring pos (Store.get (fun _ => 0) x.frozenTopo ring) x.frozenE p)⟩] ∧
           (t.lane l).mem = x.mem ∧ (t.lane l).localWord = x.localWord ∧ (t.lane l).safe.pc = x.safe.pc + 8
         else exec (.vpubSlice op) s = .next (withdraw s l .vpubOrder))) ∧
     (opndOk s op.thr ⟨false, op.s1.toNat⟩ = true → immBits op 24 0 = 0 → immBits op 31 25 ≠ 0 →
       let ses := immBits op 31 25
       let seq := s.val op.thr ⟨false, op.s1.toNat⟩
       let p := buildPayload x.hxBuild (ses * 256) len
       let topo := if s.fb (HXL_SCFG0_TOPO_USE ses) then Store.get (fun _ => 0) x.frozenTopo (s.fv (HXL_SCFG0_TOPO_RING ses)) else 0
       (1024 < len ∨ s.fb (HXL_SCFG0_EN ses) = false ∨ hexloPublished x ses = true →
         exec (.vpubHexlo op) s = .next (withdraw s l .bounds)) ∧
       (s.fb (HXL_SCFG0_EN ses) = true → hexloPublished x ses = false → len = 0 → exec (.vpubHexlo op) s = .next (past s op x.safe)) ∧
       (s.fb (HXL_SCFG0_EN ses) = true → hexloPublished x ses = false → 0 < len → len ≤ 1024 →
         if keyOk x (2, ses, seq) then Gives (.vpubHexlo op) s fun t => OnlyLane l s t ∧ p.length = len ∧
           (t.lane l).recs = x.recs ++ [.hexlo ses seq p] ∧ (t.lane l).lastKey = some (2, ses, seq) ∧
           hexloPublished (t.lane l) ses = true ∧
           (t.lane l).staged = x.staged ++ [⟨.hexlo ses seq p, s.makeCode l (slotOut ses)
             (hexloString ses topo x.frozenE seq (s.rd (HXL_SLOCAL_ID ses)).toNat (s.rd (HXL_SPEER_ID ses)).toNat p)⟩] ∧
           (t.lane l).mem = x.mem ∧ (t.lane l).localWord = x.localWord ∧ (t.lane l).safe.pc = x.safe.pc + 8
         else exec (.vpubHexlo op) s = .next (withdraw s l .vpubOrder))))

/-- R127, R247: BRSEND of a plain thread from its memory posts the v of ceil(L / 4) words, cut to L bytes, as a WRITE at its engine's port of the bridge; beyond
1,024 bytes it is a bounds fault, and an offline access where the bridge has no power. Its TAG is free (log entry 2); the steps of 8 bytes are a reading (log entry 19). -/
def Obligations.BridgeSend : Prop :=
  ∀ (op : PervoOp) (s : State), op.thr.isSafe = false → Issues op s → op.d = 0 → op.s1.toNat < 16 →
    let len := s.val op.thr ⟨false, op.s2.toNat⟩
    let ea := (s.areg op.thr op.s1.toNat).toNat
    let addrs := (List.range ((len + 3) / 4)).map fun j => (ea + 8 * j) % 2 ^ 32
    (1024 < len → (∀ a ∈ addrs, accessFault s op.thr op.s1.toNat a true false ≠ some .prot) →
      exec (.brsend op) s = .next (deliverFault s op.thr .bounds 0x54 (s.areg op.thr op.s1.toNat))) ∧
    (len ≤ 1024 → (∀ a ∈ addrs, accessFault s op.thr op.s1.toNat a true false = none) → fabricOn s (epAddr op.thr.engine) = false →
      exec (.brsend op) s = .next (deliverFault (accErr s (.thr op.thr) (epAddr op.thr.engine) true) op.thr .offline 0x54
        (BitVec.ofNat 32 (epAddr op.thr.engine)))) ∧
    (len ≤ 1024 → (∀ a ∈ addrs, accessFault s op.thr op.s1.toNat a true false = none ∧ inRegSpace a = false) →
      fabricOn s (epAddr op.thr.engine) = true →
      exec (.brsend op) s = .next (nextPc (ingress s.drawn
        { brgBlank with
          op := 1, tag := s.freeVal.toNat % 65536, id := op.imm.toNat, dlen := len,
          data := (addrs.flatMap fun a => beBytes 4 (wordV (loadWord s op.thr a))).take len }
        ⟨enginePort op.thr.engine, 0, 0, 0⟩ true) op.thr ((s.thread op.thr).pc + 8)))

/-! ### Control and status registers, interrupts, mailboxes -/

/-- R6, R132, R406: CSRR delivers a control register in bits [63:32] and clears what its read clears; CSRW writes the RW bits only, and nothing else. -/
def Obligations.ControlRegisters : Prop :=
  ∀ (op : PervoOp) (s : State), op.thr.isSafe = false → Issues op s → op.s2 = 0 → op.x = 0 → immBits op 31 12 = 0 →
    csDefined op.thr.engine (immBits op 11 0) = true →
    let k := csKey op.thr.engine + immBits op 11 0
    (op.s1 = 0 → immBits op 11 0 ∉ [6, 7] → Gives (.csrr op) s fun t =>
      t.reg op.thr ⟨false, op.d.toNat⟩ = mkWord (if immBits op 11 0 = 1 then setBits (s.rd k) 0 0 (b2n (s.thread op.thr).handler) else s.rd k).toNat 0 ∧
      t.rd k = s.rd k &&& ~~~ (accOf k).rc ∧ RegsButSame [k] s t ∧ MemsSame s t ∧ (t.thread op.thr).pc = (s.thread op.thr).pc + 8) ∧
    (op.s1 = 0 → immBits op 11 0 ∈ [6, 7] → Gives (.csrr op) s fun t =>
      (∀ j, t.rd j = s.rd j) ∧ MemsSame s t ∧ (t.thread op.thr).pc = (s.thread op.thr).pc + 8) ∧
    (op.d = 0 → Gives (.csrw op) s fun t =>
      t.rd k = (s.rd k &&& ~~~ (accOf k).rw) ||| (BitVec.ofNat 32 (s.val op.thr ⟨false, op.s1.toNat⟩) &&& (accOf k).rw) ∧
      RegsButSame [k] s t ∧ MemsSame s t ∧ t.thread op.thr = { s.thread op.thr with pc := (s.thread op.thr).pc + 8 })

/-- R99, R100: at a selection point in normal flow the eligible source with the lowest number is taken: its count falls by one, CS_EPC takes the address to
return to, CS_ESRC the source, and the thread runs in the handler at the address its vector entry gives; after a restart the entry of source 0 goes on to its vector's address, or stops the thread where the vector cannot be
read. R101: IRET with no source eligible returns to
CS_EPC in normal flow; with one eligible it enters that handler with CS_EPC kept, and the entry counts as tail-chained. Outside a handler it is an
undefined encoding. R98, R102, R105, R106: PIC_SET is an event on a software source, ignored below 104; PIC_CLR zeroes a count, ignored below 8; the
expiry of a hold-off lets its group's sources through again. -/
def Obligations.Interrupts : Prop :=
  (∀ (e : Engine) (n : Nat) (a : Word) (s : State), n < 128 → s.eligible e n = true → (∀ m, m < n → s.eligible e m = false) →
     (s.thread e.thr).handler = false → vectorEntry s e n = some a →
     let ok := fun (t : State) => (t.thread e.thr).handler = true ∧ (t.thread e.thr).run = .running ∧ (t.thread e.thr).pc = a ∧
       t.fv (CS_EPC_EPC e) = (s.thread e.thr).pc.toNat ∧ t.fv (CS_ESRC_SRC e) = n ∧ t.fv (PIC_STATUS_CUR_SRC e) = n ∧
       t.fv (PIC_COUNT_COUNT e n) = s.fv (PIC_COUNT_COUNT e n) - 1 ∧
       (8 ≤ n → s.fv (PIC_HOLDOFF_HOLDOFF e (n / 8)) ≠ 0 → t.held e (n / 8) = true) ∧ MemsSame s t ∧ t.mode = s.mode
     ((s.thread e.thr).run ∉ [.stopped, .dead, .ended, .restarting] → Gives (.interruptEntry e .good) s ok) ∧
     ((s.thread e.thr).run = .waiting → Gives (.waitiWake e) s ok)) ∧
  (∀ (e : Engine) (s : State), (s.thread e.thr).run = .restarting →
     (∀ a, vectorEntry s e 0 = some a →
       exec (.interruptEntry e .good) s = .next (s.updThread e.thr fun x => { x with pc := a, run := .running })) ∧
     (Gives (.interruptEntry e .dataUncorr) s fun t => (t.thread e.thr).run = .dead ∧ MemsSame s t)) ∧
  (∀ (op : PervoOp) (s : State), op.thr.isSafe = false → Issues op s → op.d = 0 → op.s1 = 0 → op.s2 = 0 → op.x = 0 → op.imm = 0 →
     let e := op.thr.engine
     ((s.thread op.thr).handler = false → exec (.iret op) s = .next (deliverFault s op.thr .undef 0x63 0)) ∧
     ((s.thread op.thr).handler = true → (∀ m, m < 128 → s.eligible e m = false) → fetchOk e (s.rd (CS_EPC e)) = true →
       exec (.iret op) s = .next (s.setThread op.thr { s.thread op.thr with handler := false, pc := s.rd (CS_EPC e) })) ∧
     (∀ n a, (s.thread op.thr).handler = true → n < 128 → s.eligible e n = true → (∀ m, m < n → s.eligible e m = false) →
       vectorEntry s e n = some a → Gives (.iret op) s fun t => (t.thread op.thr).handler = true ∧ (t.thread op.thr).pc = a ∧
         t.rd (CS_EPC e) = s.rd (CS_EPC e) ∧ t.fv (CS_ESRC_SRC e) = n ∧
         t.fv (PIC_COUNT_COUNT e n) = s.fv (PIC_COUNT_COUNT e n) - 1 ∧
         t.fv (PIC_STATUS_TAILCHAIN_CNT e) = min 255 (s.fv (PIC_STATUS_TAILCHAIN_CNT e) + 1))) ∧
  (∀ (e : Engine) (src : BitVec 7) (g : BitVec 4) (s : State), s.engineOn e = true →
     (104 ≤ src.toNat → s.fv (PIC_COUNT_COUNT e src.toNat) < 255 → Gives (.picSet e src) s fun t =>
       t.fv (PIC_COUNT_COUNT e src.toNat) = s.fv (PIC_COUNT_COUNT e src.toNat) + 1 ∧ RegsButSame [PIC_COUNT e src.toNat] s t ∧ MemsSame s t) ∧
     (104 ≤ src.toNat → s.fv (PIC_COUNT_COUNT e src.toNat) = 255 → Gives (.picSet e src) s fun t =>
       t.fv (PIC_COUNT_COUNT e src.toNat) = 255 ∧ t.fb (PIC_COUNT_OVF e src.toNat) = true ∧ RegsButSame [PIC_COUNT e src.toNat] s t) ∧
     (src.toNat < 104 → exec (.picSet e src) s = .next s) ∧
     (8 ≤ src.toNat → Gives (.picClr e src) s fun t => t.fv (PIC_COUNT_COUNT e src.toNat) = 0 ∧
       t.fv (PIC_COUNT_OVF e src.toNat) = s.fv (PIC_COUNT_OVF e src.toNat) ∧ RegsButSame [PIC_COUNT e src.toNat] s t ∧ MemsSame s t) ∧
     (src.toNat < 8 → exec (.picClr e src) s = .next s) ∧
     (Gives (.holdoffExpiry e g) s fun t => t.held e g.toNat = false ∧ (∀ k, t.rd k = s.rd k) ∧ MemsSame s t ∧
       ∀ n, n < 128 → 8 ≤ n → n / 8 = g.toNat → t.ready e n = (decide (0 < s.fv (PIC_COUNT_COUNT e n)) && s.enabled e n)))

/-- R95 to R97: each mailbox direction is a queue of 8 messages: a post joins the staged words and raises its source, a post of LEN 0 does nothing, a post to
a full queue is discarded with OVF, and a pop of a full queue raises the poster's space source. -/
def Obligations.Mailboxes : Prop :=
  ∀ (l : Lane) (len : BitVec 5) (s : State), (s.lane l).powered = true → s.alive = true →
    let m := s.mbox l
    (0 < len.toNat → m.upQ.length < 8 → Gives (.laneMbxUpPost l len) s fun t =>
      (t.mbox l).upQ = m.upQ ++ [stagedMsg m.upStage len.toNat] ∧ (t.mbox l).dnQ = m.dnQ ∧
      t.fv (PIC_COUNT_COUNT .mgmt (13 + l.num)) = oneMore s .mgmt (13 + l.num) ∧ t.lanes = s.lanes ∧ t.mmem = s.mmem) ∧
    (0 < len.toNat → m.dnQ.length < 8 → Gives (.laneMbxDnPost l len) s fun t =>
      (t.mbox l).dnQ = m.dnQ ++ [stagedMsg m.dnStage len.toNat] ∧ (t.mbox l).upQ = m.upQ ∧
      t.fv (PIC_COUNT_COUNT (.lane l) 14) = oneMore s (.lane l) 14 ∧ t.lanes = s.lanes ∧ t.mmem = s.mmem) ∧
    (0 < len.toNat → 8 ≤ m.upQ.length → exec (.laneMbxUpPost l len) s = .next (s.setMbox l { m with upOvf := true })) ∧
    (0 < len.toNat → 8 ≤ m.dnQ.length → exec (.laneMbxDnPost l len) s = .next (s.setMbox l { m with dnOvf := true })) ∧
    (len = 0 → exec (.laneMbxUpPost l len) s = .next s ∧ exec (.laneMbxDnPost l len) s = .next s) ∧
    (16 < len.toNat → stagedMsg m.upStage len.toNat = stagedMsg m.upStage 16 ∧ stagedMsg m.dnStage len.toNat = stagedMsg m.dnStage 16) ∧
    (0 < len.toNat → Gives (.laneMbxUpPost l len) s (fun t => (t.mbox l).upStage = m.upStage ∧ (t.mbox l).dnStage = m.dnStage) ∧
      Gives (.laneMbxDnPost l len) s (fun t => (t.mbox l).upStage = m.upStage ∧ (t.mbox l).dnStage = m.dnStage)) ∧
    (m.upQ = [] → exec (.laneMbxUpPop l) s = .next s) ∧ (m.dnQ = [] → exec (.laneMbxDnPop l) s = .next s) ∧
    (m.upQ.length < 8 → exec (.laneMbxUpPop l) s = .next (s.setMbox l { m with upQ := m.upQ.tail })) ∧
    (m.dnQ.length < 8 → exec (.laneMbxDnPop l) s = .next (s.setMbox l { m with dnQ := m.dnQ.tail })) ∧
    (m.upQ.length = 8 → Gives (.laneMbxUpPop l) s fun t => (t.mbox l).upQ = m.upQ.tail ∧
      t.fv (PIC_COUNT_COUNT (.lane l) 15) = oneMore s (.lane l) 15) ∧
    (m.dnQ.length = 8 → Gives (.laneMbxDnPop l) s fun t => (t.mbox l).dnQ = m.dnQ.tail ∧
      t.fv (PIC_COUNT_COUNT .mgmt 23) = oneMore s .mgmt 23)

/-! ### Register accesses -/

/-- R6, R9, R408: a write by the management thread to a register of the time unit writes the RW bits, clears the W1C bits where 1 is written but those that an
event sets in the same cycle, puts SH bits in the shadow only, and changes nothing else. R6, R401: a read by the management thread of a register
of the time unit returns its value, clears its RC bits only, and a read of a _LO register latches the _HI half of the same instant, which the next read of
_HI returns. R92, R93, R399, R400: an access by a running thread that is unaligned or outside register space is a bounds fault, one beyond its rights the
fault that R91 names, one to a block without power an offline access that is logged; a thread that does not run makes none. What CS_EINFO keeps is a
reading (log entry 18). -/
def Obligations.RegisterAccesses : Prop :=
  (∀ (addr v ev : Word) (s : State), s.mgmt.run = .running → s.alive = true → s.stabled = false →
     0x80010000 ≤ addr.toNat → addr.toNat < 0x80100000 → addr.toNat % 4 = 0 →
     let k := addr.toNat
     let c := accOf k
     Gives (.regWrite (.thr .mgmt) addr v ev) s fun t =>
       t.rd k = (((s.rd k &&& ~~~ c.rw) ||| (v &&& c.rw)) &&& ~~~ (v &&& c.w1c)) ||| (ev &&& v &&& c.w1c) ∧
       t.shRd k &&& c.sh = v &&& c.sh ∧ t.shRd k &&& ~~~ c.sh = s.shRd k &&& ~~~ c.sh ∧
       RegsButSame [k] s t ∧ (∀ j, j ≠ k → t.shRd j = s.shRd j) ∧ t = { s with regs := t.regs, shadow := t.shadow }) ∧
  (∀ (addr : Word) (s : State), s.mgmt.run = .running → s.alive = true → s.stabled = false →
     0x80010000 ≤ addr.toNat → addr.toNat < 0x80100000 → addr.toNat % 4 = 0 →
     let k := addr.toNat
     (Gives (.rcRead (.thr .mgmt) addr) s fun t =>
       Store.get (fun _ => 0) t.rdData 6 = readValue s (.thr .mgmt) k ∧ t.rd k = s.rd k &&& ~~~ (accOf k).rc ∧
       RegsButSame [k] s t ∧ MemsSame s t ∧ t.mgmt = s.mgmt) ∧
     (k = TIME_NOW_LO → Gives (.loReadLatch (.thr .mgmt) addr) s fun t =>
       readValue t (.thr .mgmt) TIME_NOW_HI = BitVec.ofNat 32 ((s.time.t + s.subTick) / 2 ^ 32) ∧
       ∀ u : State, u.latch = t.latch → readValue u (.thr .mgmt) TIME_NOW_HI = BitVec.ofNat 32 ((s.time.t + s.subTick) / 2 ^ 32))) ∧
  (∀ (t : Thr) (addr v ev : Word) (s : State),
     let a := addr.toNat
     let run := (s.thread t).run = .running
     (¬ run → exec (.regWrite (.thr t) addr v ev) s = .next s ∧ exec (.rcRead (.thr t) addr) s = .next s) ∧
     (run → (a % 4 ≠ 0 ∨ inRegSpace a = false) →
       exec (.regWrite (.thr t) addr v ev) s = .next (deliverFault s t .bounds 0x39 addr) ∧
       exec (.rcRead (.thr t) addr) s = .next (deliverFault s t .bounds 0x38 addr)) ∧
     (∀ f, run → a % 4 = 0 → inRegSpace a = true →
       (rights s t a true = some f → exec (.regWrite (.thr t) addr v ev) s = .next (deliverFault s t f 0x39 addr)) ∧
       (rights s t a false = some f → exec (.rcRead (.thr t) addr) s = .next (deliverFault s t f 0x38 addr))) ∧
     (run → a % 4 = 0 → inRegSpace a = true → reachable s (.thr t) a = false →
       (rights s t a true = none →
         exec (.regWrite (.thr t) addr v ev) s = .next (deliverFault (accErr s (.thr t) a true) t .offline 0x39 addr)) ∧
       (rights s t a false = none →
         exec (.rcRead (.thr t) addr) s = .next (deliverFault (accErr s (.thr t) a false) t .offline 0x38 addr))))

/-! ### The queue, the strobe and the timebase -/

/-- The queue is first in, first out: a step runs the command at the front on the state with the rest of the queue; on an empty queue the block idles (log
entry 1). -/
def Obligations.StepRunsFront : Prop :=
  (∀ (c : Instr) (q : List Instr) (s : State), step (s.withQueue (c :: q)) = exec c (s.withQueue q)) ∧
  (∀ s : State, s.pending = [] → step s = .next s)

/-- R29, R30, R45: while the timebase runs, each strobe within ticks 0 to 14 begins the next tick of the same epoch, 500 µs later; without a timebase, or with
no more than the always-on domain out of reset, there is no strobe. That there is no strobe without a timebase is a reading (log entry 20). -/
def Obligations.StrobeNumbers : Prop :=
  ∀ (inp : StrobeIn) (s : State),
    (s.alive = false ∨ s.time.isSet = false → exec (.tickStrobe inp) s = .next s) ∧
    (s.alive = true → s.time.isSet = true → s.time.started = true → s.time.tick < 15 → Gives (.tickStrobe inp) s fun t =>
      t.time.tick = s.time.tick + 1 ∧ t.time.epoch = s.time.epoch ∧ t.time.t = s.time.t + 500000 ∧ t.time.isSet = true ∧
      MemsSame s t ∧ t.pending = s.pending)

/-- R42, R43, R47: a Sync on a selected port, of the configured transport, delay mechanism and domain, shows its offset and steers the timebase while its port
is the locked source in use; PTP locks after 64 residuals within 1 µs and is lost after 16 beyond 10 µs; loss clears LOCKED at once
and sets PTP_LOST; a pulse on PPS_IN shows its offset from the nearest whole second. R38: a boundary without a strobe is a skew, which counts; on the
second consecutive tick a STARTING or VOTING lane withdraws with TICK_SKEW. The residual comes with the command, since the predictor is not given (log
entry 6). -/
def Obligations.TimeSourcesAndMissingStrobes : Prop :=
  (∀ (m : PtpMeas) (edge : Nat) (s : State),
     (∀ p ∈ [(EthPort.a, 1), (EthPort.b, 2)],
       (ptpValid s p.2 m = true ↔ ptpSelected s p.2 = true ∧ m.l2 = s.fb TIME_PTP_CFG_TRANSPORT ∧ m.peer = s.fb TIME_PTP_CFG_DELAY_MECH ∧
         m.domain.toNat = s.fv TIME_PTP_CFG_DOMAIN ∧ (m.best = true ∨ s.fv TIME_CTRL_PTP_PORT ≠ 3)) ∧
       (ptpValid s p.2 m = false → exec (.ptpSync p.1 m) s = .next s) ∧
       (ptpValid s p.2 m = true → m.residual.natAbs ≤ 1000 → Gives (.ptpSync p.1 m) s fun t =>
         t.srcOffset p.2 = some m.offset ∧ t.time.rate = (if steersBy s p.2 then m.rate else s.time.rate) ∧
         t.time.goodRun = s.time.goodRun + 1 ∧ t.time.badRun = 0 ∧
         t.time.ptpLocked = (s.time.ptpLocked || decide (63 ≤ s.time.goodRun)) ∧ t.time.epoch = s.time.epoch ∧ t.time.t = s.time.t ∧
         RegsButSame [TIME_OFFSET] s t ∧ t = { s with regs := t.regs, time := t.time }) ∧
       (ptpValid s p.2 m = true → 10000 < m.residual.natAbs → s.time.ptpLocked = true → 15 ≤ s.time.badRun →
         Gives (.ptpSync p.1 m) s fun t => t.time.ptpLocked = false ∧ t.fb TIME_FAULT_PTP_LOST = true)) ∧
     (s.time.ptpLocked = false → exec .ptpLockLost s = .next s) ∧
     (s.time.ptpLocked = true → Gives .ptpLockLost s fun t => t.time.ptpLocked = false ∧ t.fb TIME_FAULT_PTP_LOST = true ∧
       (s.fv TIME_STATUS_SRC = 1 ∨ s.fv TIME_STATUS_SRC = 2 → t.fb TIME_STATUS_LOCKED = false ∧ t.fb TIME_STATUS_SLEWING = false) ∧
       t.fv TIME_STATUS_SRC = s.fv TIME_STATUS_SRC ∧ t.time.rate = s.time.rate ∧ t.time.epoch = s.time.epoch ∧ t.time.t = s.time.t) ∧
     (Gives (.ppsInEdge edge) s fun t => RegsButSame [TIME_PPS_OFFSET] s t ∧ MemsSame s t ∧
       -500000000 ≤ signedOf 32 (t.fv TIME_PPS_OFFSET_PPS_OFS) ∧ signedOf 32 (t.fv TIME_PPS_OFFSET_PPS_OFS) < 500000000 ∧
       ∃ k : Int, (edge : Int) = 1000000000 * k + signedOf 32 (t.fv TIME_PPS_OFFSET_PPS_OFS))) ∧
  (∀ (l : Lane) (s : State), (s.lane l).powered = true →
     ((s.lane l).time.skewLast = false → Gives (.tickStrobeMissing l) s fun t =>
       t.fv (LANE_TIME_SKEW_SKEW_CNT l) = min 255 (s.fv (LANE_TIME_SKEW_SKEW_CNT l) + 1) ∧ (t.lane l).time.skewLast = true ∧
       (t.lane l).st = (s.lane l).st ∧ RegsButSame [LANE_TIME_SKEW l] s t ∧ MemsSame s t) ∧
     ((s.lane l).time.skewLast = true → (s.lane l).st.counted = true → Gives (.tickStrobeMissing l) s fun t =>
       (t.lane l).st.counted = false ∧ t.fv (LANE_CAUSE_CAUSE l) = Cause.tickSkew.code ∧ t.ixGates.get l = 0))

/-! ### Lanes, vote, gates -/

/-- R71 to R75: a withdrawing lane stops its SAFE thread, drops its staged planes and drives no gate; its cause and epoch are shown, source 8 is raised in
every running interrupt controller, and it is LOCKED_OUT at the fourth counted withdrawal in the hour. With two lanes left the module stays in its mode
and the other lanes are untouched. R62, R19, R22: when fewer than two lanes remain STARTING or VOTING the module withdraws at once: no lane remains
counted, the last one shows LAST_LANE, no network conducts and mastership is no longer requested. What becomes of an anneal, and the telling of source 33,
are readings (log entries 7 and 23). -/
def Obligations.Withdrawal : Prop :=
  (∀ (op : PervoOp) (l : Lane) (s : State), op.thr = .safe l → Issues op s → op.d = 0 → op.s1 = 0 → op.s2 = 0 → op.x = 0 → op.imm = 0 →
     s.alive = true → (∀ m, (s.lane m).st.counted = true ∧ (s.lane m).powered = true) →
     Gives (.halt op) s fun t =>
       (t.lane l).st = (if 3 ≤ (lastHour s.E (s.lane l).wdrHist).length then .lockedOut else .withdrawn) ∧
       (t.lane l).wdrHist = lastHour s.E (s.lane l).wdrHist ++ [s.E] ∧
       (t.lane l).safe.run = .stopped ∧ (t.lane l).staged = [] ∧ (t.lane l).mem = (s.lane l).mem ∧ (t.lane l).sys = (s.lane l).sys ∧
       t.ixGates.get l = 0 ∧ t.fv (LANE_CAUSE_CAUSE l) = Cause.halt.code ∧ t.fv (LANE_CAUSE_EPOCH l) = s.E % 2 ^ 24 ∧
       (∀ m, m ≠ l → t.lane m = s.lane m ∧ t.ixGates.get m = s.ixGates.get m) ∧
       (∀ e, t.fv (PIC_COUNT_COUNT e 8) = oneMore s e 8) ∧ t.mode = s.mode ∧ t.mmem = s.mmem) ∧
  (∀ (op : PervoOp) (l m k : Lane) (s : State), op.thr = .safe l → Issues op s → op.d = 0 → op.s1 = 0 → op.s2 = 0 → op.x = 0 → op.imm = 0 →
     l ≠ m → l ≠ k → m ≠ k → (s.lane l).st.counted = true → (s.lane m).st.counted = true → (s.lane k).st.counted = false →
     s.mode = .standby ∨ s.mode = .active →
     Gives (.halt op) s fun t => t.mode = .withdrawn ∧ (∀ n, (t.lane n).st.counted = false) ∧
       t.fv (LANE_CAUSE_CAUSE l) = Cause.halt.code ∧ t.fv (LANE_CAUSE_CAUSE m) = Cause.lastLane.code ∧ SafeSide t ∧ MemsSame s t)

/-- R60: round 1 carries a lane's digest to another over their link, marked where it is a shadow's; round 2 carries its agreement bits. R63: a lane link going
down sets its down bit at both ends, counts, and reaches both lanes; by itself it withdraws nothing unless it carries an anneal; its return clears the
bit. Where round 1 ends is a reading (log entry 21). -/
def Obligations.VoteMessagesAndLaneLinks : Prop :=
  (∀ (src dst : Lane) (s : State), exchangeOpen s src dst = true →
     (round1Open s = true → Gives (.voteRound1Digest src dst) s fun t =>
       (t.lane dst).vote.rx.get src = (s.lane src).vote.digest ∧
       (t.lane dst).vote.rxShadow.get src = decide ((s.lane src).st = .shadow) ∧
       ((s.lane src).st ≠ .shadow → natBit (t.fv (LANE_VOTE_DIGEST_RX dst)) src.num = true ∧
         natBit (t.fv (LANE_VOTE_AGREE dst)) src.num =
           decide ((s.lane dst).vote.digest ≠ none ∧ (s.lane src).vote.digest = (s.lane dst).vote.digest)) ∧
       (∀ m, m ≠ dst → t.lane m = s.lane m) ∧ RegsButSame [LANE_VOTE dst] s t ∧ MemsSame s t) ∧
     (Gives (.voteRound2Agreement src dst) s fun t =>
       (t.lane dst).vote.report.get src = some (agreement s src) ∧ (∀ m, m ≠ dst → t.lane m = s.lane m) ∧
       (∀ k, t.rd k = s.rd k) ∧ MemsSame s t)) ∧
  (∀ (l : Lane) (s : State), s.alive = true → (∀ m, (s.lane m).powered = true) →
     (linkUp s l l.succ = true → (∀ m, (s.lane m).anneal.step = 0) → Gives (.laneLinkDown l) s fun t =>
       t.fb (LANE_LINK_STAT_UP_NEXT l) = false ∧ t.fb (LANE_LINK_STAT_UP_PREV l.succ) = false ∧
       t.fv (LANE_LINK_STAT_DOWN_CNT l) = min 255 (s.fv (LANE_LINK_STAT_DOWN_CNT l) + 1) ∧ t.lanes = s.lanes ∧ t.mode = s.mode ∧
       t.fv (PIC_COUNT_COUNT (.lane l) 13) = oneMore s (.lane l) 13 ∧
       t.fv (PIC_COUNT_COUNT (.lane l.succ) 13) = oneMore s (.lane l.succ) 13) ∧
     (linkUp s l l.succ = false → exec (.laneLinkDown l) s = .next s) ∧
     (linkUp s l l.succ = false → Gives (.laneLinkUp l) s fun t =>
       t.fb (LANE_LINK_STAT_UP_NEXT l) = true ∧ t.fb (LANE_LINK_STAT_UP_PREV l.succ) = true ∧ t.lanes = s.lanes ∧ t.mode = s.mode) ∧
     (linkUp s l l.succ = true → exec (.laneLinkUp l) s = .next s))

/-- R60, R61: with three voters and every message delivered, lanes of one digest continue together; the third lane with another digest is MINORITY; three
different digests are NO_MAJORITY in every lane. A lane never continues unless another lane's digest reached it and equals its own. -/
def Obligations.VoteOutcome : Prop :=
  ∀ s : State,
    (∀ l, voteCause s l = none → ∃ m, m ≠ l ∧ (s.lane l).vote.digest ≠ none ∧ (s.lane l).vote.rx.get m = (s.lane l).vote.digest ∧
      (s.lane l).vote.rxShadow.get m = false) ∧
    ((∀ l, (s.lane l).vote.voter = true ∧ (s.lane l).vote.digest ≠ none) →
      (∀ l m, l ≠ m → (s.lane l).vote.rx.get m = (s.lane m).vote.digest ∧ (s.lane l).vote.rxShadow.get m = false ∧
        (s.lane l).vote.report.get m = some (agreement s m)) →
      ∀ l m k, l ≠ m → l ≠ k → m ≠ k →
        ((s.lane m).vote.digest = (s.lane k).vote.digest → voteCause s m = none ∧ voteCause s k = none ∧
          ((s.lane l).vote.digest ≠ (s.lane m).vote.digest → voteCause s l = some .minority)) ∧
        ((s.lane l).vote.digest ≠ (s.lane m).vote.digest → (s.lane l).vote.digest ≠ (s.lane k).vote.digest →
          (s.lane m).vote.digest ≠ (s.lane k).vote.digest → voteCause s l = some .noMajority))

/-- R70, R71, R272: a gate frame brings what the lane published, and for a brake channel its fast path's gate, only for a STARTING or VOTING lane of an ACTIVE
module and not for a channel with a latched fault; silence takes every gate of the lane off. A network conducts when two lanes drive it, so that where two lanes agree the third decides nothing. -/
def Obligations.TwoOutOfThree : Prop :=
  ∀ (l m k : Lane) (s : State), l ≠ m → l ≠ k → m ≠ k →
    (∀ bit b, natBit (s.ixGates.get m) bit = b → natBit (s.ixGates.get k) bit = b → conducts s bit = b) ∧
    ((s.lane l).powered = true → s.alive = true → Gives (.gateFrame l) s fun t =>
      ((s.lane l).st.counted = false ∨ s.mode ≠ .active → t.ixGates.get l = 0) ∧
      ((s.lane l).st.counted = true → s.mode = .active → ∀ ch, ch < 24 → (∀ p, s.ix.pulse = some p → p.ch ≠ ch ∨ natBit p.by3 l.num = false) →
        (chMode s ch = 1 → natBit (t.ixGates.get l) ch =
          ((s.lane l).pub.getLsbD ch && !natBit (s.part l).chFault ch && !natBit (s.part l).grpFault (groupOf ch))) ∧
        (chMode s ch = 2 → 20 ≤ ch → natBit (t.ixGates.get l) ch =
          (natBit (s.brk.get l).gate (ch - 20) && !natBit (s.part l).chFault ch && !natBit (s.part l).grpFault (groupOf ch))) ∧
        (chMode s ch = 0 → natBit (t.ixGates.get l) ch = false)) ∧
      ((s.lane l).st.counted = true → s.mode = .active → ∀ g, g < 2 → natBit (t.ixGates.get l) (grpBit g) = !natBit (s.part l).grpFault g) ∧
      t.ixGates.get m = s.ixGates.get m ∧ t.ixGates.get k = s.ixGates.get k ∧ t.mode = s.mode ∧ MemsSame s t) ∧
    (Gives (.gateLinkTimeout l) s fun t => t.ixGates.get l = 0 ∧ t.ixGates.get m = s.ixGates.get m ∧ t.ixGates.get k = s.ixGates.get k ∧
      t.mode = s.mode ∧ MemsSame s t)

/-- R81, R82, R380: a lane's retirement request is noted and shown; a deep assay that passes leaves the lane RETIRED for an anneal, one that fails latches it
out with ASSAY_FAIL, and an incomplete one, as after 120 s, leaves it WITHDRAWN with RETIRE. That every lane shows STATUS is the choice of the model (log
entry 22). -/
def Obligations.Retirement : Prop :=
  ∀ (l : Lane) (target : BitVec 2) (s : State),
    ((s.lane l).powered = true → Gives (.laneRetireRequest l target) s fun t =>
      (t.lane l).retireReq = target.toNat ∧ t.fv (LANE_RETIRE_STATUS l) = (if target = 0 then 0 else 1) ∧ t.fv (LANE_RETIRE_REFUSE l) = 0 ∧
      RegsButSame [LANE_RETIRE l] s t ∧ MemsSame s t ∧ (t.lane l).st = (s.lane l).st) ∧
    ((s.lane l).st = .retired → (s.lane l).deep ≠ none → (lastHour s.E (s.lane l).wdrHist).length < 4 →
      (Gives (.deepAssayEnd l .pass) s fun t => (t.lane l).st = .retired ∧ (t.lane l).anneal.passed = true ∧ (t.lane l).deep = none ∧
        t.fv (AST_LANE_DEEP_RESULT l) = 1 ∧ t.fv (LANE_RETIRE_STATUS l) = 5 ∧ MemsSame s t ∧ t.mode = s.mode) ∧
      (Gives (.deepAssayEnd l .fail) s fun t => (t.lane l).st = .lockedOut ∧ t.fv (LANE_CAUSE_CAUSE l) = Cause.assayFail.code ∧
        t.fv (AST_LANE_DEEP_RESULT l) = 2 ∧ MemsSame s t ∧ t.mode = s.mode) ∧
      (Gives (.deepAssayEnd l .incomplete) s fun t => (t.lane l).st = .withdrawn ∧ t.fv (LANE_CAUSE_CAUSE l) = Cause.retire.code ∧
        t.fv (AST_LANE_DEEP_RESULT l) = 3 ∧ (t.lane l).wdrHist = lastHour s.E (s.lane l).wdrHist ∧ MemsSame s t ∧ t.mode = s.mode) ∧
      exec (.deepAssayTimeout l) s = exec (.deepAssayEnd l .incomplete) s)

/-! ### Rings -/

/-- R158, R185, R186: the link condition of a port's lines; a port that loses its link or receives Remote Fault is not usable and wraps in every state but
OFF, sending Remote Fault alone; it unwraps under R186 only, and WRAP returns to RUN when both ports are usable and unwrapped. R214: isolating a port is refused, and shown, where the
other port is not usable or isolated or the ring is in CLAIM or INAUG; otherwise the test runs and the node wraps there. Ending it leaves the errors and
PASS; the port rejoins under R186. What a refused isolation leaves is a choice of the model (log entry 39). -/
def Obligations.RingPortsAndTests : Prop :=
  (∀ (n : BitVec 3) (p : Port) (v : BitVec 6) (s : State), s.alive = true → (∀ m, (s.lane m).powered = true) →
     (linkLines v = true ↔ v.getLsbD 4 = true ∧ v.getLsbD 5 = false ∧ v.getLsbD 1 = false ∧ v.getLsbD 2 = false ∧ v.getLsbD 0 = false) ∧
     (Gives (.linkChange n p v) s fun t => RingOnly n.toNat s t ∧ t.fb (fLink n.toNat p) = linkLines v ∧
       (∀ j, j < 6 → j ≠ 3 → natBit (t.fv (fSfp n.toNat p)) j = v.getLsbD j) ∧
       (s.fb (fLink n.toNat p) = linkLines v → RegsButSame [RING_SFP n.toNat] s t) ∧
       (s.fb (fLink n.toNat p) ≠ linkLines v → t.fb (fLinkChg n.toNat p) = true ∧
         ∀ e, oneMore s e (40 + n.toNat) ≤ t.fv (PIC_COUNT_COUNT e (40 + n.toNat))) ∧
       (s.fb (fLink n.toNat p) = true → linkLines v = false → ringState s n.toNat ≠ 0 → t.fb (fWrap n.toNat p) = true)) ∧
     (Gives (.remoteFault n ⟨p, true⟩) s fun t => RingOnly n.toNat s t ∧ t.fb (fRf n.toNat p) = true ∧ usable t n.toNat p = false ∧
       (ringState s n.toNat ≠ 0 → t.fb (fWrap n.toNat p) = true ∧ remoteFaultOut t n.toNat p = true) ∧
       t.fb (fWrap n.toNat p.other) = s.fb (fWrap n.toNat p.other)) ∧
     (Gives (.remoteFault n ⟨p, false⟩) s fun t => RingOnly n.toNat s t ∧ RegsButSame [RING_WRAP n.toNat] s t ∧ t.fb (fRf n.toNat p) = false ∧
       t.fb (fWrap n.toNat p) = s.fb (fWrap n.toNat p) ∧ (s.fb (fLink n.toNat p) = true → (s.ring n.toNat).iso ≠ some p → usable t n.toNat p = true)) ∧
     (mayUnwrap s n.toNat p = true → at2 (s.ring n.toNat).goodOn p = true ∨
       (4 ≤ at2 (s.ring n.toNat).usableRun p ∧ 2 ≤ at2 (s.ring n.toNat).quietRun p)) ∧
     (mayUnwrap s n.toNat p = false → exec (.unwrap n p) s = .next s) ∧
     (mayUnwrap s n.toNat p = true → s.fb (fWrap n.toNat p) = true ∧ usable s n.toNat p = true ∧
       Gives (.unwrap n p) s fun t => RingOnly n.toNat s t ∧ t.fb (fWrap n.toNat p) = false ∧
         t.fb (fWrap n.toNat p.other) = s.fb (fWrap n.toNat p.other) ∧ t.fb (RING_LIFE_EVT_WRAP_CHG n.toNat) = true ∧
         (ringState s n.toNat = 5 → ringState t n.toNat =
           if s.fb (fWrap n.toNat p.other) = false ∧ usable s n.toNat p.other = true then 4 else 5))) ∧
  (∀ (n : BitVec 3) (p : Port) (errs : Nat) (s : State), errs < 65536 →
     ((s.ring n.toNat).iso ≠ some p → isoRefusal s n.toNat p ≠ 0 → Gives (.portIsolate n p) s fun t =>
       t.fv (RING_PORT_TEST_STATUS n.toNat) = 3 ∧ t.fv (RING_PORT_TEST_REFUSE n.toNat) = isoRefusal s n.toNat p ∧
       t.fb (RING_LIFE_EVT_ISO_REFUSED n.toNat) = true ∧ t.ring n.toNat = s.ring n.toNat ∧ RingOnly n.toNat s t) ∧
     (portGood s n.toNat p.other = false → isoRefusal s n.toNat p = 1) ∧
     (portGood s n.toNat p.other = true → (s.ring n.toNat).iso = some p.other → isoRefusal s n.toNat p = 2) ∧
     (portGood s n.toNat p.other = true → (s.ring n.toNat).iso = none → ringState s n.toNat = 2 ∨ ringState s n.toNat = 3 →
       isoRefusal s n.toNat p = 3) ∧
     ((s.ring n.toNat).iso = none → isoRefusal s n.toNat p = 0 → s.prepared 5 = false → Gives (.portIsolate n p) s fun t =>
       (t.ring n.toNat).iso = some p ∧ t.fv (RING_PORT_TEST_STATUS n.toNat) = 1 ∧ t.fv (RING_PORT_TEST_ERR_CNT n.toNat) = 0 ∧
       usable t n.toNat p = false ∧ (ringState s n.toNat ≠ 0 → t.fb (fWrap n.toNat p) = true ∧ remoteFaultOut t n.toNat p = true) ∧
       RingOnly n.toNat s t) ∧
     ((s.ring n.toNat).iso = some p → Gives (.portIsolateEnd n p errs) s fun t =>
       (t.ring n.toNat).iso = none ∧ t.fv (RING_PORT_TEST_STATUS n.toNat) = 2 ∧ t.fv (RING_PORT_TEST_ERR_CNT n.toNat) = errs ∧
       t.fb (RING_PORT_TEST_PASS n.toNat) = decide (errs = 0) ∧ t.fb (fIso n.toNat p) = false ∧
       t.fb (fWrap n.toNat p) = s.fb (fWrap n.toNat p) ∧ RegsButSame [RING_CTRL n.toNat, RING_PORT_TEST n.toNat] s t ∧ RingOnly n.toNat s t))

/-- R161, R165 to R167, R176 to R179, R187, R188: a RUN frame's passage. OFF is dark; a claimant hears another head and gives way; a reverse passage only
forwards. On a forward passage of a node at a position the frame leaves with EB OR-ed; a band that is shut, unarmed or not predicted within 2 µs, a crown
with a bad CRC and a break in CYCLE without STEP leave every other byte as it came. Where the band is open the node writes its up-slice and its window
fresh where its armed table covers them, and no other position's but the down-slices of the ring plan as safe master. The third closed cycle leads to
LISTEN_ONLY. Corners are readings (log entries 13 and 28). -/
def Obligations.RunPassage : Prop :=
  ∀ (n : BitVec 3) (f : RunFrame) (i : PassIn) (x : Layout) (e : LayEntry) (s : State),
    let q := outPort s n.toNat i.port
    let pos := ownPos s n.toNat
    let ws := bandTable s n.toNat
    let ontime := s.fb (BAND_STATUS_PREDICTED n.toNat) && decide (i.early.natAbs ≤ 2000) && !grdClosed s
    let opens := ontime && s.fb (BAND_STATUS_ARMED n.toNat) && !s.fb (BAND_STATUS_MUTED n.toNat)
    let accepted := f.crown.crcOk && cycleOk (s.ring n.toNat) f.crown
    (ringState s n.toNat = 0 → exec (.runFramePassage n f i) s = .next s) ∧
    (ringState s n.toNat = 2 → f.crown.crcOk = true → f.crown.headId ≠ ownId → Gives (.runFramePassage n f i) s fun t =>
      ringState t n.toNat = (if s.fb (RING_CTRL_EN n.toNat) then 1 else 0) ∧ ownPos t n.toNat = 255 ∧ (t.ring n.toNat).out = [] ∧
      RingOnly n.toNat s t) ∧
    (ringState s n.toNat ≠ 0 → ringState s n.toNat ≠ 2 → isHead s n.toNat = true ∨ isForward s n.toNat i.port = false → usable s n.toNat q = true →
      Gives (.runFramePassage n f i) s fun t => Sends t n.toNat q (.run f) ∧ RingOnly n.toNat s t ∧ (i.suppressed = 0 → ∀ k, t.rd k = s.rd k)) ∧
    (ringState s n.toNat = 4 ∨ ringState s n.toNat = 5 → isHead s n.toNat = false → pos ≠ 255 → isForward s n.toNat i.port = true →
      usable s n.toNat q = true → (s.ring n.toNat).layout = some x → f.crown.topo = x.topo → f.crown.dirCrc = x.dirCrc →
      f.crown.frameLen = x.frameLen →
      (Gives (.runFramePassage n f i) s fun t =>
        ∃ g : RunFrame, Sends t n.toNat q (.run g) ∧ g.joins = f.joins ∧ g.crown = writeEb s n.toNat f.crown ∧
          (accepted = false ∨ opens = false → g.slices = f.slices ∧ g.windows = f.windows) ∧
          g.slices.length = f.slices.length ∧ g.windows.length = f.windows.length ∧
          (∀ b, b ∈ g.slices → b ∈ f.slices ∨ (b.up = true ∧ b.pos = pos ∧ b.fresh = true ∧ b.prior = false ∧
            b.topo = x.topo ∧ b.stamp = f.crown.cycle) ∨ (b.up = false ∧ s.hasDownSlice n.toNat b.pos = true ∧ t.fb (RING_STATUS_MASTER n.toNat) = true)) ∧
          (∀ w, w ∈ g.windows → w ∈ f.windows ∨ (w.pos = pos ∧ w.fresh = true ∧ w.prior = false)) ∧
          (accepted = true → opens = true → x.entryAt pos = some e →
            (∀ a len, a = (placeOf x pos).2.1 → len = sliceLen e.allocUp → 0 < len → gateEnd (some ws) a len = a + len →
              ∀ b, b ∈ g.slices → b.up = true → b.pos = pos → b.fresh = true ∧ b.prior = false ∧ b.stamp = f.crown.cycle ∧ b.crcOk = true) ∧
            (∀ a, a = (placeOf x pos).2.2 → 0 < e.credit → gateEnd (some ws) a e.credit = a + e.credit →
              ∀ w, w ∈ g.windows → w.pos = pos → w.fresh = true ∧ w.prior = false))) ∧
      (Gives (.runFramePassage n f i) s fun t => MemsSame s t ∧ t.mode = s.mode ∧ t.ixGates = s.ixGates ∧
        (f.crown.crcOk = true → t.fv (RING_CYCLE_CYCLE n.toNat) = f.crown.cycle % 2 ^ 32) ∧
        (ontime = true → (t.ring n.toNat).closedRun = 0) ∧
        (s.fb (BAND_STATUS_PREDICTED n.toNat) = true → ontime = false → (t.ring n.toNat).closedRun = (s.ring n.toNat).closedRun + 1 ∧
          ((s.ring n.toNat).closedRun = 2 → ringState t n.toNat = 6))))

/-- R165, R187, R192, R205, R206, R212: the head ends a returned frame and keeps it for its next launch. A frame that comes back incomplete, and one of an
earlier launch, is not there at the launch; one with a bad crown counts, and no position is fresh in its cycle; each gives its EB. A JOIN of an unknown
node causes an inauguration, one of a known node is answered. R177, R204: requesting arming stages the table and computes BAND_TAB_CRC; each lane's
confirm is compared, and the band arms when two are equal to it. A cycle without a frame is missed, not closed. The order of windows and the count of a
bad crown as a cycle are readings (log entries 28 and 29). -/
def Obligations.FrameReturnAndBandArming : Prop :=
  (∀ (n : BitVec 3) (f : RunFrame) (i : RetIn) (x : Layout) (s : State),
     isHead s n.toNat = true → ringState s n.toNat = 4 ∨ ringState s n.toNat = 5 → (s.ring n.toNat).layout = some x →
       let h := (s.ring n.toNat).head
       (i.complete = false ∨ (f.crown.crcOk = true ∧ f.crown.cycle ≠ h.cycle) → Gives (.frameReturn n (.run f) i) s fun t =>
         (t.ring n.toNat).head = { h with ebBack := h.ebBack ||| f.crown.eb } ∧ t.lanes = s.lanes ∧ (t.ring n.toNat).out = []) ∧
       (i.complete = true → f.crown.crcOk = false → Gives (.frameReturn n (.run f) i) s fun t =>
         (t.ring n.toNat).head.arrived = true ∧ (t.ring n.toNat).head.returned = h.returned ∧
         (t.ring n.toNat).head.ebBack = h.ebBack ||| f.crown.eb ∧ (t.ring n.toNat).head.late = 0 ∧ t.lanes = s.lanes ∧
         (h.overBudget = false → ∀ p, p ∈ presentPositions x →
           Store.get (fun _ => 0) (t.ring n.toNat).head.absent p = min 255 (Store.get (fun _ => 0) h.absent p + 1)) ∧
         (h.smId ≠ 0 → h.smPos ≠ 0 → 7 ≤ h.notFresh → (t.ring n.toNat).head.smId = 0) ∧
         t.fv (RING_ERR_CROWN_CRC n.toNat) = min 255 (s.fv (RING_ERR_CROWN_CRC n.toNat) + 1) ∧ t.fb (RING_EVT_CROWN_CRC n.toNat) = true) ∧
       (i.complete = true → f.crown.crcOk = true → f.crown.cycle = h.cycle → Gives (.frameReturn n (.run f) i) s fun t =>
         (t.ring n.toNat).head.arrived = true ∧ (t.ring n.toNat).head.returned = some f ∧
         (t.ring n.toNat).head.ebBack = h.ebBack ||| f.crown.eb ∧
         (t.ring n.toNat).head.late = 0 ∧ t.fv (RING_CYCLE_CYCLE n.toNat) = f.crown.cycle % 2 ^ 32 ∧
         (t.ring n.toNat).out = [] ∧ ringState t n.toNat = ringState s n.toNat ∧
         (∀ uid, uid ∈ joinsOf f → x.entries.all (fun e => e.uid ≠ uid) = true → (t.ring n.toNat).head.cause ≠ 0) ∧
         (∀ e, e ∈ x.entries → e.uid ∈ joinsOf f → t.fb (RING_LIFE_EVT_REJOIN n.toNat) = true ∧ e.uid ∈ (t.ring n.toNat).head.entryFor) ∧
         MemsSame s t)) ∧
  (∀ (n : BitVec 3) (l m : Lane) (v w : Word) (s : State),
     (Gives (.bandArmReq n) s fun t => RingOnly n.toNat s t ∧ (t.ring n.toNat).staged = true ∧
       t.rd (BAND_TAB_CRC n.toNat) = BitVec.ofNat 32 (tableCrc (tableTopo s n.toNat) (bandTable s n.toNat))) ∧
     ((s.lane l).powered = true → (s.ring n.toNat).staged = true → Gives (.bandConfirm n l (some v)) s fun t =>
       RingOnly n.toNat s t ∧ t.rd (fConfirm n.toNat l) = v ∧ (s.fb (BAND_STATUS_ARMED n.toNat) = true → t.fb (BAND_STATUS_ARMED n.toNat) = true) ∧
       natBit (t.fv (BAND_STATUS_CONF n.toNat)) l.num = decide (v = s.rd (BAND_TAB_CRC n.toNat)) ∧
       (l ≠ m → s.rd (fConfirm n.toNat m) = s.rd (BAND_TAB_CRC n.toNat) → v = s.rd (BAND_TAB_CRC n.toNat) →
         t.fb (BAND_STATUS_ARMED n.toNat) = true) ∧
       ((∀ k, k ≠ l → s.rd (fConfirm n.toNat k) ≠ s.rd (BAND_TAB_CRC n.toNat)) →
         t.fb (BAND_STATUS_ARMED n.toNat) = s.fb (BAND_STATUS_ARMED n.toNat))) ∧
     ((s.lane l).powered = false → exec (.bandConfirm n l (some w)) s = .next s) ∧
     (s.fb (BAND_STATUS_PREDICTED n.toNat) = true → Gives (.bandMissedCycle n) s fun t =>
       t.fb (BAND_STATUS_OPEN n.toNat) = false ∧ t.fb (BAND_STATUS_PREDICTED n.toNat) = true ∧
       RegsButSame [BAND_STATUS n.toNat] s t ∧ t.ring n.toNat = s.ring n.toNat ∧ RingOnly n.toNat s t))

/-- R189, R193, R194, R207, R208: how a node becomes and stops being head. Four strobes without a good crown lead to LISTEN, or from LISTEN to CLAIM for an
eligible node (with EN = 0 in force, LISTEN leads on to OFF); a better claim ends a claim, the own claim back unaltered on every usable port wins it, eight rounds without a win end it; two cycles with a foreign
head on a wrapped port stop a head and make any other placed node write a MERGE. R201, R208: RELEASE_HEAD stops a head at its next strobe, REINAUG makes
it inaugurate with cause COMMAND; a node that is not head ignores both. After the third failed attempt a head is silent for eight strobes and enters
LISTEN; over budget it inaugurates again every 2,000 cycles. Corners are readings (log entries 28 and 29). -/
def Obligations.ClaimsAndHeads : Prop :=
  (∀ (n : BitVec 3) (p : Port) (f : ClaimFrame) (c : Crown) (k : Nat) (s : State), f.crown.crcOk = true → f.bodyOk = true →
     let listen := if s.fb (RING_CTRL_EN n.toNat) then 1 else 0
     (ringState s n.toNat = 3 → isHead s n.toNat = false → 4 ≤ (s.ring n.toNat).noRun → Gives (.noCrownTimeout n) s fun t =>
       ringState t n.toNat = listen ∧ ownPos t n.toNat = 255 ∧ RingOnly n.toNat s t) ∧
     (4 ≤ (s.ring n.toNat).noCrown →
       (ringState s n.toNat = 4 ∨ ringState s n.toNat = 5 ∨ ringState s n.toNat = 6 → Gives (.noCrownTimeout n) s fun t =>
         ringState t n.toNat = listen ∧ ownPos t n.toNat = 255 ∧ isHead t n.toNat = false ∧ RingOnly n.toNat s t) ∧
       (ringState s n.toNat = 1 → s.fb (RING_CTRL_HEAD_ELIG n.toNat) = true → s.mode = .standby ∨ s.mode = .active →
         (s.ring n.toNat).mergeHold = false → Gives (.noCrownTimeout n) s fun t => ringState t n.toNat = 2 ∧ RingOnly n.toNat s t) ∧
       (ringState s n.toNat = 1 → s.mode = .withdrawn → exec (.noCrownTimeout n) s = .next s)) ∧
     ((s.ring n.toNat).noCrown < 4 → ringState s n.toNat ≠ 3 → exec (.noCrownTimeout n) s = .next s) ∧
     (ringState s n.toNat = 2 → f.id ≠ ownId →
       (f.prio < s.fv (RING_CTRL_PRIO n.toNat) ∨ (f.prio = s.fv (RING_CTRL_PRIO n.toNat) ∧ f.id < ownId) → Gives (.claimFrame n p k f) s fun t =>
         ringState t n.toNat = listen ∧ (t.ring n.toNat).out = [] ∧ t.fb (RING_LIFE_EVT_CLAIM_LOST n.toNat) = true) ∧
       (s.fv (RING_CTRL_PRIO n.toNat) < f.prio ∨ (f.prio = s.fv (RING_CTRL_PRIO n.toNat) ∧ ownId < f.id) → Gives (.claimFrame n p k f) s fun t =>
         ringState t n.toNat = 2 ∧ (t.ring n.toNat).out = [])) ∧
     (ringState s n.toNat = 2 → f.id = ownId → f.crown.headId = ownId → usable s n.toNat p = true → unaltered (s.ring n.toNat) f = false →
       at2 (s.ring n.toNat).claimBack p = false → Gives (.claimFrame n p k f) s fun t => ringState t n.toNat = 2 ∧
         isHead t n.toNat = isHead s n.toNat ∧ (t.ring n.toNat).out = []) ∧
     (ringState s n.toNat = 2 → f.id = ownId → f.crown.headId = ownId → usable s n.toNat p = true → unaltered (s.ring n.toNat) f = true →
       (usable s n.toNat p.other = true → at2 (s.ring n.toNat).claimBack p.other = true) → Gives (.claimFrame n p k f) s fun t =>
         ringState t n.toNat = 3 ∧ isHead t n.toNat = true ∧ ownPos t n.toNat = 0 ∧ t.fb (RING_LIFE_EVT_HEAD_GAINED n.toNat) = true ∧
         (t.ring n.toNat).head.cause = 1) ∧
     (ringState s n.toNat ≠ 0 → ringState s n.toNat ≠ 2 → usable s n.toNat (outPort s n.toNat p) = true → Gives (.claimFrame n p k f) s fun t =>
       ringState t n.toNat = ringState s n.toNat ∧ Sends t n.toNat (outPort s n.toNat p) (.claim { f with crown := writeEb s n.toNat f.crown })) ∧
     (ringState s n.toNat = 2 → (s.ring n.toNat).claimRound = 8 → Gives (.claimTimeout n) s fun t =>
       ringState t n.toNat = listen ∧ t.fb (RING_LIFE_EVT_CLAIM_TIMEOUT n.toNat) = true ∧
       t.fv (RING_CNT_CLAIM_TIMEOUTS n.toNat) = min 255 (s.fv (RING_CNT_CLAIM_TIMEOUTS n.toNat) + 1) ∧ RingOnly n.toNat s t) ∧
     (ringState s n.toNat ≠ 0 → wrapped s n.toNat p = true → c.crcOk = true → c.headId ≠ ownId → c.headId ≠ (s.ring n.toNat).headSeen →
       at2 (s.ring n.toNat).foreign p = (0, false) → Gives (.foreignFrame n p c) s fun t => RingOnly n.toNat s t ∧ (∀ j, t.rd j = s.rd j) ∧
         at2 (t.ring n.toNat).foreign p = (1, true) ∧ at2 (t.ring n.toNat).foreign p.other = at2 (s.ring n.toNat).foreign p.other ∧
         (t.ring n.toNat).noFrame = 0 ∧ (t.ring n.toNat).merge = (s.ring n.toNat).merge ∧ (t.ring n.toNat).head = (s.ring n.toNat).head) ∧
     (ringState s n.toNat ≠ 0 → wrapped s n.toNat p = true → c.crcOk = true → c.headId ≠ ownId → c.headId ≠ (s.ring n.toNat).headSeen →
       at2 (s.ring n.toNat).foreign p = (1, false) → Gives (.foreignFrame n p c) s fun t => RingOnly n.toNat s t ∧
         (isHead s n.toNat = true → (t.ring n.toNat).head.stop = true ∧ (t.ring n.toNat).mergeHold = true ∧
           t.fb (RING_LIFE_EVT_MERGE n.toNat) = true) ∧
         (oriented s n.toNat = true → (s.ring n.toNat).merge = none → (t.ring n.toNat).merge = some (c.headId, c.topo) ∧
           t.fb (RING_LIFE_EVT_MERGE n.toNat) = true))) ∧
  (∀ (n : BitVec 3) (k : Nat) (s : State),
     (isHead s n.toNat = false → exec (.releaseHead n) s = .next s ∧ exec (.reinaug n) s = .next s ∧ exec (.inaugBackoffEnd n) s = .next s ∧
       exec (.overBudgetRetry n) s = .next s) ∧
     (isHead s n.toNat = true → (Gives (.releaseHead n) s fun t => (t.ring n.toNat).head.stop = true ∧ RingOnly n.toNat s t ∧ ∀ k, t.rd k = s.rd k) ∧
       ((s.ring n.toNat).head.cause = 0 → Gives (.reinaug n) s fun t =>
         (t.ring n.toNat).head = { (s.ring n.toNat).head with cause := 4 } ∧ RingOnly n.toNat s t ∧ ∀ k, t.rd k = s.rd k) ∧
       ((s.ring n.toNat).head.backoff = some k → 8 ≤ k → Gives (.inaugBackoffEnd n) s fun t =>
         ringState t n.toNat = (if s.fb (RING_CTRL_EN n.toNat) then 1 else 0) ∧ isHead t n.toNat = false ∧ RingOnly n.toNat s t) ∧
       ((s.ring n.toNat).head.backoff = some k → k < 8 → exec (.inaugBackoffEnd n) s = .next s) ∧
       ((s.ring n.toNat).head.overBudget = true → (s.ring n.toNat).head.cause = 0 → s.fv (RING_INAUG_CAUSE n.toNat) ≠ 0 →
         2000 ≤ (s.ring n.toNat).head.obRun → Gives (.overBudgetRetry n) s fun t =>
           (t.ring n.toNat).head.cause = s.fv (RING_INAUG_CAUSE n.toNat) ∧ RingOnly n.toNat s t ∧ ∀ k, t.rd k = s.rd k)))

/-- R168, R169, R179, R184, R189, R192, R196 to R198, R201, R202: what an inauguration's frames do at a node that is not head. ROLL: the node takes the index
of the record it writes as its position, and no other byte changes. Every crown that goes by is OR-written with EB alone; an ECHO's passage is timed and its
EB delivered. LAYOUT: the node takes the entry of its position, or enters LISTEN. MEASURE and ACK: it writes its own word alone, the ACK saying whether its
band is armed; a node whose ACK is not armed, that has no layout, or whose band is muted enters LISTEN. The states in which ROLL is taken and the reach of
an ENTRY layout are readings (log entries 11 and 28). -/
def Obligations.InaugPassages : Prop :=
  ∀ (n : BitVec 3) (h : InaugHead) (recs : List RollRec) (m : BrimMsg) (ds : List (Nat × Int × Int)) (dly : List (Nat × Nat))
    (acks : List (Nat × Nat × Bool)) (i : PassIn) (x : Layout) (s : State),
    let q := outPort s n.toNat i.port
    let listen := if s.fb (RING_CTRL_EN n.toNat) then 1 else 0
    let hd : InaugHead := { h with crown := writeEb s n.toNat h.crown }
    let muted := s.fb (BAND_STATUS_MUTED n.toNat)
    h.crown.crcOk = true → h.bodyOk = true → isHead s n.toNat = false → i.suppressed = 0 → grdClosed s = false → usable s n.toNat q = true →
    (ringState s n.toNat = 1 → recs.length < 255 → (s.ring n.toNat).rollAt = none → Gives (.rollPassage n h recs i) s fun t =>
      ringState t n.toNat = 3 ∧ ownPos t n.toNat = recs.length ∧ orientPort t n.toNat = i.port ∧ t.fv (RING_INAUG_PHASE n.toNat) = 1 ∧
      (t.ring n.toNat).rollAt = some (h.crown.cycle, i.clock) ∧ t.fb (BAND_STATUS_MUTED n.toNat) = false ∧
      ∃ r, r.uid = ownId ∧ r.crcOk = true ∧ Sends t n.toNat q (.inaug (.roll hd (recs ++ [r])))) ∧
    (ringState s n.toNat ≠ 0 → ringState s n.toNat ≠ 2 → Gives (.echoPassage n h i) s fun t =>
      Sends t n.toNat q (.inaug (.echo hd)) ∧ (t.ring n.toNat).echoAt = some (h.crown.cycle, i.clock) ∧
      (i.sinceStrobe ≤ 451000 → Store.get (fun _ => (0, 0)) t.crowns.cur n.toNat = (h.crown.eb, h.crown.ebPrior)) ∧
      ringState t n.toNat = ringState s n.toNat ∧ RingOnly n.toNat s t) ∧
    (ringState s n.toNat = 3 → isForward s n.toNat i.port = true →
      (m.crcOk = true → parseLayout m.body = some x → x.offs = none → (∃ e, x.entryAt (ownPos s n.toNat) = some e ∧ e.uid = ownId) →
        Gives (.layoutPassage n h m i) s fun t => Sends t n.toNat q (.inaug (.layout hd m)) ∧
          ringState t n.toNat = 3 ∧ (t.ring n.toNat).next = some x ∧ t.fv (RING_INAUG_PHASE n.toNat) = 2 ∧
          t.rd (BAND_TAB_CRC n.toNat) = BitVec.ofNat 32 (tableCrc x.topo (bandTable t n.toNat)) ∧ RingOnly n.toNat s t) ∧
      (m.crcOk = true → parseLayout m.body = some x → x.entryAt (ownPos s n.toNat) = none →
        Gives (.layoutPassage n h m i) s fun t => ringState t n.toNat = listen ∧ ownPos t n.toNat = 255 ∧ RingOnly n.toNat s t ∧
          ∀ y, y ∈ (t.ring n.toNat).out → y.2 = .inaug (.layout hd m)) ∧
      (m.crcOk = false → Gives (.layoutPassage n h m i) s fun t => Sends t n.toNat q (.inaug (.layout hd m)) ∧ ringState t n.toNat = 3 ∧
        (t.ring n.toNat).next = (s.ring n.toNat).next ∧ RingOnly n.toNat s t) ∧
      (ownPos s n.toNat ≠ 255 → muted = false → Gives (.measurePassage n h ds i) s fun t => t.fv (RING_INAUG_PHASE n.toNat) = 3 ∧
        RingOnly n.toNat s t ∧ ∃ d, Sends t n.toNat q (.inaug (.measure hd (ds ++ [(ownPos s n.toNat, d)])))) ∧
      (muted = true → Gives (.measurePassage n h ds i) s fun t => Sends t n.toNat q (.inaug (.measure hd ds))) ∧
      ((s.ring n.toNat).next = some x → s.fb (BAND_STATUS_ARMED n.toNat) = true → muted = false → Gives (.ackPassage n h dly acks i) s fun t =>
        (t.ring n.toNat).acked = true ∧ ringState t n.toNat = 3 ∧ t.fv (RING_INAUG_PHASE n.toNat) = 4 ∧ RingOnly n.toNat s t ∧
        (∀ d, dly.find? (fun e => decide (e.1 = ownPos s n.toNat)) = some d → t.fv (RING_DLY_DLY n.toNat) = d.2 % 2 ^ 32) ∧
        Sends t n.toNat q (.inaug (.ack hd dly (acks ++ [(ownPos s n.toNat, x.verMaj, true)])))) ∧
      ((s.ring n.toNat).next = some x → s.fb (BAND_STATUS_ARMED n.toNat) = false → muted = false → Gives (.ackPassage n h dly acks i) s fun t =>
        ringState t n.toNat = listen ∧ ∀ y, y ∈ (t.ring n.toNat).out → y.2 = .inaug (.ack hd dly (acks ++ [(ownPos s n.toNat, x.verMaj, false)]))) ∧
      ((s.ring n.toNat).next = none ∨ muted = true → Gives (.ackPassage n h dly acks i) s fun t =>
        ringState t n.toNat = listen ∧ ∀ y, y ∈ (t.ring n.toNat).out → y.2 = .inaug (.ack hd dly acks)))

/-! ### Ethernet ports and Hexlo sessions -/

/-- R158, R218 to R220, R224, R226, R245, R262: the Ethernet ports. A link's state follows its lines, its speed the mode (MGT: negotiation); a frame with a bad
FCS, too long, wrongly tagged, without room in the receive FIFO or of no use to the port is dropped and counted; other UDP and TCP traffic goes whole to
MGMT where a route says so, or is dropped and counted; Hexlo and PTP on MGT are dropped. A port answers ARP requests for its own address and at most 10
echo requests a second, asks for its next hops and reports its groups; what it sends carries its VLAN tag while that is enabled. The fill of the FIFO
comes with the frame (log entry 32); lapses have commands of their own (log entry 15). -/
def Obligations.EthernetPorts : Prop :=
  ∀ (p : EthPort) (f : EthFrame) (d : IpPacket) (k : Nat) (lines : BitVec 6) (speed : BitVec 2) (target sender src dst : Word) (mac : BitVec 48)
    (s : State),
    let tag := if s.fb (ETH_VLAN_EN p.num) then some (s.fv (ETH_VLAN_PCP p.num), s.fv (ETH_VLAN_VID p.num)) else none
    let tagged := if s.fb (ETH_VLAN_EN p.num) then decide (f.tag = some (BitVec.ofNat 12 (s.fv (ETH_VLAN_VID p.num)))) else f.tag.isNone
    let room := decide (f.fill + f.len ≤ 32768) && (f.kind = .ptp || isHexlo s f || decide (f.fill ≤ 24576))
    let mine := decide (d.proto = 17 ∧ d.dstPort.toNat = s.fv BRG_CTRL_UDP_PORT)
    (Gives (.ethLinkChange p lines speed) s fun t =>
      t.fb (ETH_STATUS_LINK p.num) = (lines.getLsbD 4 && (p = .mgt || (!lines.getLsbD 5 && !lines.getLsbD 1 && !lines.getLsbD 2 && !lines.getLsbD 0))) ∧
      t.fv (ETH_STATUS_SPEED p.num) = (if p = .mgt then speed.toNat else if s.fv (ETH_CTRL_MODE p.num) = 1 then 1 else 0) ∧
      (p ≠ .mgt → t.fb (ETH_STATUS_MOD_ABS p.num) = lines.getLsbD 0 ∧ t.fb (ETH_STATUS_LOS p.num) = lines.getLsbD 1 ∧
        t.fb (ETH_STATUS_TX_FAULT p.num) = lines.getLsbD 2) ∧ t = { s with regs := t.regs } ∧
      (s.alive = true → s.fb (ETH_STATUS_LINK p.num) ≠ t.fb (ETH_STATUS_LINK p.num) →
        t.fv (PIC_COUNT_COUNT .mgmt (69 + p.num)) = oneMore s .mgmt (69 + p.num))) ∧
    (Gives (.ethFrameRx p f) s fun t => NetOnly [ETH_CNT_RX p.num, ETH_DROP p.num, BRG_DROP] s t ∧ t.net.out = [] ∧
      (ethUp s p.num = false → (∀ j, t.rd j = s.rd j) ∧ t.net.toMgmt = [] ∧ t.net.arp = s.net.arp) ∧
      (ethUp s p.num = true → t.fv (ETH_CNT_RX_FRAMES p.num) = bumped s (ETH_CNT_RX_FRAMES p.num) ∧
        ((∀ ip w, f.kind ≠ .arpReply ip w) → t.net.arp = s.net.arp)) ∧
      (ethUp s p.num = true → f.fcsOk = false → t.fv (ETH_DROP_FCS p.num) = bumped s (ETH_DROP_FCS p.num) ∧ t.net.arp = s.net.arp ∧
        t.net.toMgmt = [] ∧ t.rd BRG_DROP = s.rd BRG_DROP) ∧
      (ethUp s p.num = true → f.fcsOk = true → (if f.tag.isSome then 1522 else 1518) < f.len →
        t.fv (ETH_DROP_OVERSIZE p.num) = bumped s (ETH_DROP_OVERSIZE p.num) ∧ t.net.arp = s.net.arp ∧ t.net.toMgmt = [] ∧ t.rd BRG_DROP = s.rd BRG_DROP) ∧
      (ethUp s p.num = true → f.fcsOk = true → f.len ≤ (if f.tag.isSome then 1522 else 1518) →
        (tagged = false ∨ room = false → t.fv (ETH_DROP_FILTERED p.num) = bumped s (ETH_DROP_FILTERED p.num) ∧ t.net.arp = s.net.arp ∧
          t.net.toMgmt = [] ∧ t.rd BRG_DROP = s.rd BRG_DROP) ∧
        (tagged = true → room = true →
          (f.kind = .arpReply target mac → arpEntry t p.num target.toNat = some mac.toNat ∧ t.rd (ETH_DROP p.num) = s.rd (ETH_DROP p.num)) ∧
          (f.kind = .otherType ∨ ((f.kind = .ptp ∨ isHexlo s f = true) ∧ p = .mgt) →
            t.fv (ETH_DROP_FILTERED p.num) = bumped s (ETH_DROP_FILTERED p.num) ∧ t.net.toMgmt = []) ∧
          ((f.kind = .ptp ∨ isHexlo s f = true) ∧ p ≠ .mgt → t.rd (ETH_DROP p.num) = s.rd (ETH_DROP p.num) ∧ t.net.toMgmt = []) ∧
          (f.kind = .ip d → isHexlo s f = decide (d.plain = true ∧ d.proto = 17 ∧ d.dstPort.toNat = s.fv HXL_CTRL_UDP_PORT)) ∧
          (f.kind = .ip d → isHexlo s f = false → d.plain = false ∨ (d.proto ≠ 17 ∧ d.proto ≠ 6) ∨ d.dst.toNat ≠ s.fv (ETH_IP_IP p.num) →
            t.fv (ETH_DROP_FILTERED p.num) = bumped s (ETH_DROP_FILTERED p.num) ∧ t.net.toMgmt = [] ∧ t.rd BRG_DROP = s.rd BRG_DROP) ∧
          (f.kind = .ip d → isHexlo s f = false → d.plain = true → d.proto = 17 ∨ d.proto = 6 → d.dst.toNat = s.fv (ETH_IP_IP p.num) →
            (mine = true → t.rd (ETH_DROP p.num) = s.rd (ETH_DROP p.num) ∧ t.rd BRG_DROP = s.rd BRG_DROP ∧ t.net.toMgmt = []) ∧
            (mine = false → s.fb BRG_CTRL_EN = true → s.pwr.power = .run →
              (s.findRoute (8 + p.num) (0xE0000000 + d.proto.toNat * 0x10000 + d.dstPort.toNat) = some k → (s.route k).outPort = 15 →
                t.net.toMgmt = [(p.num, d)] ∧ t.rd (ETH_DROP p.num) = s.rd (ETH_DROP p.num) ∧ t.rd BRG_DROP = s.rd BRG_DROP) ∧
              (s.findRoute (8 + p.num) (0xE0000000 + d.proto.toNat * 0x10000 + d.dstPort.toNat) = none →
                t.net.toMgmt = [] ∧ t.fv BRG_DROP_NO_ROUTE = bumped s BRG_DROP_NO_ROUTE)))))) ∧
    (ethUp s p.num = true →
      (Gives (.arpRequest p target sender mac) s fun t => NetOnly [ETH_CNT_RX p.num, ETH_CNT_TX p.num, ETH_DROP p.num] s t ∧
        t.net.out = (if target.toNat = s.fv (ETH_IP_IP p.num) then [⟨tag, .arpReply p.num sender.toNat mac.toNat⟩] else [])) ∧
      (Gives (.icmpEchoRequest p src dst) s fun t => NetOnly [ETH_CNT_RX p.num, ETH_CNT_TX p.num, ETH_DROP p.num] s t ∧
        (dst.toNat ≠ s.fv (ETH_IP_IP p.num) → t.net.out = []) ∧
        (dst.toNat = s.fv (ETH_IP_IP p.num) →
          ((Store.get (fun _ => (0, 0)) s.net.echo p.num).1 ≠ s.time.t / 1000000000 ∨ (Store.get (fun _ => (0, 0)) s.net.echo p.num).2 < 10 →
            t.net.out = [⟨tag, .echoReply p.num src.toNat⟩]) ∧
          (Store.get (fun _ => (0, 0)) s.net.echo p.num = (s.time.t / 1000000000, 10) → t.net.out = [])))) ∧
    (ethUp s p.num = true → netQuiet s = false → p ≠ .mgt →
      (Gives (.arpRefresh p) s fun t => NetOnly [ETH_CNT_TX p.num] s t ∧
        t.net.out = (nextHops s p.num).eraseDups.map fun ip => ⟨tag, .arpRequest p.num ip⟩) ∧
      (Gives (.igmpReport p) s fun t => NetOnly [ETH_CNT_TX p.num] s t ∧ ∀ n, 1 ≤ n → n ≤ 127 →
        s.fb (HXL_SCFG0_MCAST_EN n) = true → sesEn s n = true → EthSent.mk tag (.igmp p.num (s.rd (HXL_SMCAST n)).toNat) ∈ t.net.out))

/-- R219, R229 to R232: a datagram to another UDP port is not for the engine; one that fails a check, and one that finds the pool or its session's share full,
is discarded and leaves every session's messages alone; the first copy of a message opens its window and delivers nothing; an identical second copy within
the window is one message, a differing one discards both and is a divergence; a window that closes delivers one message flagged SINGLE; in RESYNC a
message is delivered only when its STAMP is later than the last one's, flagged RESYNC. R225, R231, R234: a gap passes at the W-th strobe after a later
message and is counted into it; a session silent for FRESH_T freezes resynchronises; a closed one reopens after its delay; a network carrying alone for
1,000 epochs is DEGRADED; a command waits for the next tick 0. Corners of copies, gaps and RESYNC are readings (log entry 32). -/
def Obligations.HexloMessagesAndSessions : Prop :=
  (∀ (n : BitVec 7) (onB : Bool) (udp : BitVec 16) (dst : Word) (b c : List Byte) (seq : Word) (age : Nat) (s : State),
     (udp.toNat ≠ s.fv HXL_CTRL_UDP_PORT → exec (.hexloDatagram onB ⟨udp, dst⟩ b) s = .next s) ∧
     (bytesAt b 0 2 ≠ 0x4858 ∨ b.length ≠ 52 + hxLen b → s.fb HXL_CTRL_EN = true → ethUp s (b2n onB) = true →
       udp.toNat = s.fv HXL_CTRL_UDP_PORT → Gives (.hexloDatagram onB ⟨udp, dst⟩ b) s fun t =>
         t.fv HXL_ERR_MALFORMED = bumped s HXL_ERR_MALFORMED ∧ RegsButSame [HXL_ERR] s t ∧ t = { s with regs := t.regs }) ∧
     (ValidCopy s n.toNat onB udp dst b →
       ((s.ses n.toNat).copies = [] ∨ ((s.ses n.toNat).copies = [⟨hxSeq b, c, !onB, age, .waiting⟩] ∧ age < sesW s n.toNat) →
         448 ≤ poolUsed s ∨ 16 ≤ sesBufs (s.ses n.toNat) → Gives (.hexloDatagram onB ⟨udp, dst⟩ b) s fun t =>
           (t.ses n.toNat).copies = (s.ses n.toNat).copies ∧ (t.ses n.toNat).wait = (s.ses n.toNat).wait ∧
           sesState t n.toNat = sesState s n.toNat ∧ (448 ≤ poolUsed s → t.fv HXL_ERR_POOL_OVF = bumped s HXL_ERR_POOL_OVF) ∧
           (poolUsed s < 448 → t.fv (HXL_SCNT1_QUEUE_OVF n.toNat) = bumped s (HXL_SCNT1_QUEUE_OVF n.toNat)) ∧
           (s.alive = true → t.fv (PIC_COUNT_COUNT .mgmt 68) = oneMore s .mgmt 68)) ∧
       (poolUsed s < 448 → sesBufs (s.ses n.toNat) < 16 →
       ((s.ses n.toNat).copies = [] → heldMessage s n.toNat (hxSeq b) = none → copyLate s n.toNat (hxSeq b) = false →
         Gives (.hexloDatagram onB ⟨udp, dst⟩ b) s fun t =>
           (t.ses n.toNat).copies = [⟨hxSeq b, b, onB, 0, .waiting⟩] ∧ (t.ses n.toNat).wait = (s.ses n.toNat).wait ∧
           t.fv (HXL_SNEXP_NEXP n.toNat) = s.fv (HXL_SNEXP_NEXP n.toNat) ∧ sesState t n.toNat = sesState s n.toNat ∧ t.lanes = s.lanes ∧
           t.fb ((if onB then HXL_SSTAT_PATH_B else HXL_SSTAT_PATH_A) n.toNat) = true) ∧
       ((s.ses n.toNat).copies = [⟨hxSeq b, c, !onB, age, .waiting⟩] → age < sesW s n.toNat → hxSeq c = hxSeq b →
         s.fv (HXL_SNEXP_NEXP n.toNat) = hxSeq b → sesState s n.toNat = 2 → (s.ses n.toNat).carryGap = 0 → (s.ses n.toNat).staleGap = 0 →
         (c = b → Gives (.hexloDatagram onB ⟨udp, dst⟩ b) s fun t => Delivered s t n.toNat b 0 false false ∧ (t.ses n.toNat).noPair = 0 ∧
           (t.ses n.toNat).delivered = false ∧ t.fb (HXL_SSTAT_DEGRADED n.toNat) = false) ∧
         (c ≠ b → Gives (.hexloDatagram onB ⟨udp, dst⟩ b) s fun t => (t.ses n.toNat).copies = [] ∧ (s.ses n.toNat).lastStamp = (t.ses n.toNat).lastStamp ∧
           ((t.ses n.toNat).wait = (s.ses n.toNat).wait ∨ sesState t n.toNat = 3) ∧
           t.fv (HXL_SCNT0_DIVERGE n.toNat) = bumped s (HXL_SCNT0_DIVERGE n.toNat))))) ∧
     (1 ≤ n.toNat → (s.ses n.toNat).copies = [⟨hxSeq c, c, onB, age, .waiting⟩] → seq.toNat = hxSeq c → sesW s n.toNat ≤ age →
       (s.ses n.toNat).staleGap = 0 →
       (sesState s n.toNat = 2 → s.fv (HXL_SNEXP_NEXP n.toNat) = hxSeq c → (s.ses n.toNat).carryGap = 0 →
         Gives (.hexloWindowClose n seq) s fun t => Delivered s t n.toNat c 0 false true ∧ (t.ses n.toNat).delivered = true ∧
           (t.ses n.toNat).noPair = (s.ses n.toNat).noPair) ∧
       (sesState s n.toNat = 1 → (s.ses n.toNat).lastStamp < hxStamp c → Gives (.hexloWindowClose n seq) s fun t =>
         Delivered s t n.toNat c 0 true true) ∧
       (sesState s n.toNat = 1 → hxStamp c ≤ (s.ses n.toNat).lastStamp → Gives (.hexloWindowClose n seq) s fun t =>
         (t.ses n.toNat).wait = (s.ses n.toNat).wait ∧ (t.ses n.toNat).copies = [] ∧ sesState t n.toNat = 1 ∧
         t.fv (HXL_SCNT1_LATE n.toNat) = bumped s (HXL_SCNT1_LATE n.toNat)))) ∧
  (∀ (n : BitVec 7) (onB : Bool) (b : List Byte) (d : Nat) (s : State), 1 ≤ n.toNat →
     (sesState s n.toNat = 2 → (s.ses n.toNat).copies = [⟨hxSeq b, b, onB, sesW s n.toNat, .single⟩] →
       hxSeq b = (s.fv (HXL_SNEXP_NEXP n.toNat) + d) % 2 ^ 32 → 1 ≤ d → d < 65536 → (s.ses n.toNat).carryGap = 0 → (s.ses n.toNat).staleGap = 0 →
       Gives (.hexloGapTimeout n) s fun t => Delivered s t n.toNat b d false true) ∧
     (sesState s n.toNat = 2 → sesFreshT s n.toNat ≤ s.fv (HXL_SSTAT_SILENT n.toNat) → (s.ses n.toNat).copies = [] →
       Gives (.hexloSessionStale n) s fun t => sesState t n.toNat = 1 ∧ (t.ses n.toNat).lastStamp = (s.ses n.toNat).lastStamp ∧
         (t.ses n.toNat).wait = (s.ses n.toNat).wait ∧ (s.alive = true → t.fv (PIC_COUNT_COUNT .mgmt 64) = oneMore s .mgmt 64)) ∧
     (s.fv (HXL_SSTAT_SILENT n.toNat) < sesFreshT s n.toNat → exec (.hexloSessionStale n) s = .next s) ∧
     (sesState s n.toNat = 3 → s.fb (HXL_SCFG0_AUTO_REOPEN n.toNat) = true →
       (s.ses n.toNat).closedE + (s.fv (HXL_SCFG0_REOPEN_M1 n.toNat) + 1) * 100 ≤ s.E → Gives (.hexloAutoReopen n) s fun t =>
         t.ses n.toNat = { s.ses n.toNat with reopen := true } ∧ ∀ k, t.rd k = s.rd k) ∧
     (1000 ≤ (s.ses n.toNat).noPair → (s.ses n.toNat).delivered = true → s.fb (HXL_SSTAT_DEGRADED n.toNat) = false →
       Gives (.hexloDegraded n) s fun t => t.fb (HXL_SSTAT_DEGRADED n.toNat) = true ∧ sesState t n.toNat = sesState s n.toNat ∧
         t.ses n.toNat = s.ses n.toNat ∧ (s.alive = true → t.fv (PIC_COUNT_COUNT .mgmt 66) = oneMore s .mgmt 66)) ∧
     (Gives (.hxlCmdResync n) s fun t => t.ses n.toNat = { s.ses n.toNat with command := 1 } ∧ ∀ k, t.rd k = s.rd k) ∧
     (Gives (.hxlCmdReopen n) s fun t => t.ses n.toNat = { s.ses n.toNat with command := 2 } ∧ ∀ k, t.rd k = s.rd k) ∧
     (Gives (.hxlCmdClose n) s fun t => t.ses n.toNat = { s.ses n.toNat with command := 3 } ∧ ∀ k, t.rd k = s.rd k))

/-! ### The protocol bridge -/

/-- R240, R241, R243, R245, R247, R248, R251, R261: a posted WRITE that matches a route and finds room is held last in its domain and acknowledged at once at
its source; one that finds no room is answered NAK BUSY, one that matches no route NAK NO_ROUTE. A NOTICE goes on by its own route, outside every domain.
An engine's READ, LOCK or UNLOCK enters by its own port in the same way. A queue's pop discards its oldest entry. Without EN the bridge takes nothing.
Answers in corners are choices of the model (log entry 26). -/
def Obligations.BridgeIngress : Prop :=
  (∀ (p : BitVec 4) (src udp : Nat) (m : BrgMsg) (s : State), s.fb BRG_CTRL_EN = false → exec (.bridgeMessageIngress p ⟨src, udp⟩ m) s = .next s) ∧
  ∀ (p : BitVec 4) (src udp k : Nat) (m : BrgMsg) (e : Engine) (tag : BitVec 16) (s : State), s.fb BRG_CTRL_EN = true → s.pwr.power = .run →
    (8 ≤ p.toNat → p.toNat < 12 → m.dlen ≤ 1024 →
      (m.op = 1 → s.findRoute p.toNat m.id = some k → (s.route k).posted = true → s.bridge.blocks = [] → s.prepared 4 = false →
        hasRoom s (s.route k).domain (msgSize m) = true → Gives (.bridgeMessageIngress p ⟨src, udp⟩ m) s fun t =>
          Accepted s t k ⟨p.toNat, src, m.rid, udp⟩ m ∧ LeavesBy s t p.toNat src udp { Machine.ack m.tag with id := m.rid } ∧
          (∀ n, t.rd n = s.rd n) ∧ MemsSame s t) ∧
      (m.op = 1 → s.findRoute p.toNat m.id = some k → s.bridge.blocks = [] → s.prepared 4 = false → hasRoom s (s.route k).domain (msgSize m) = false →
        Gives (.bridgeMessageIngress p ⟨src, udp⟩ m) s fun t => (∀ d, t.dom d = s.dom d) ∧ t.fv BRG_DROP_BUSY = bumped s BRG_DROP_BUSY ∧
          LeavesBy s t p.toNat src udp { nak m.tag 2 with id := m.rid } ∧ (s.alive = true → t.fv (PIC_COUNT_COUNT .mgmt 62) = oneMore s .mgmt 62)) ∧
      (m.op = 1 → s.findRoute p.toNat m.id = none → Gives (.bridgeMessageIngress p ⟨src, udp⟩ m) s fun t => (∀ d, t.dom d = s.dom d) ∧
        LeavesBy s t p.toNat src udp { nak m.tag 1 with id := m.rid } ∧ RegsButSame [BRG_DROP] s t ∧
        t.fv BRG_DROP_NO_ROUTE = bumped s BRG_DROP_NO_ROUTE) ∧
      (m.op = 6 → s.findRoute p.toNat m.id = some k → (s.route k).outPort = enginePort e → (s.eport e.num).an.length < 8 →
        Gives (.bridgeMessageIngress p ⟨src, udp⟩ m) s fun t => (∀ d, t.dom d = s.dom d) ∧
          (t.eport e.num).an = (s.eport e.num).an ++ [{ m with id := (s.route k).egress m.id, btopo := 0 }])) ∧
    (s.findRoute (enginePort e) (s.fv (BRG_EP_ID_ID e.num)) = some k → s.bridge.blocks = [] → s.prepared 4 = false →
      (s.route k).prefetch = false → hasRoom s (s.route k).domain 64 = true →
      (Gives (.brgEpRead e tag) s fun t => Accepted s t k ⟨enginePort e, 0, 0, 0⟩
        { brgBlank with op := 2, tag := tag.toNat, id := s.fv (BRG_EP_ID_ID e.num), dlen := min 1024 (s.fv (BRG_EP_LEN_LEN e.num)) }) ∧
      ((s.route k).lockable = true → (s.route k).outPort < 8 →
        (Gives (.brgEpLock e tag) s fun t => Accepted s t k ⟨enginePort e, 0, 0, 0⟩
          { brgBlank with op := 8, tag := tag.toNat, id := s.fv (BRG_EP_ID_ID e.num) }) ∧
        (Gives (.brgEpUnlock e tag) s fun t => Accepted s t k ⟨enginePort e, 0, 0, 0⟩
          { brgBlank with op := 9, tag := tag.toNat, id := s.fv (BRG_EP_ID_ID e.num) }))) ∧
    (s.findRoute (enginePort e) (s.fv (BRG_EP_ID_ID e.num)) = none → (s.eport e.num).an.length < 8 → Gives (.brgEpRead e tag) s fun t =>
      (t.eport e.num).an = (s.eport e.num).an ++ [nak tag.toNat 1] ∧ (t.eport e.num).rx = (s.eport e.num).rx) ∧
    (Gives (.brgEpRxPop e) s fun t => t.eport e.num = { s.eport e.num with rx := (s.eport e.num).rx.tail } ∧ ∀ n, t.rd n = s.rd n) ∧
    (Gives (.brgEpAnPop e) s fun t => t.eport e.num = { s.eport e.num with an := (s.eport e.num).an.tail } ∧ ∀ n, t.rd n = s.rd n)

/-- R248 to R252: a held posted WRITE of a running domain leaves when order and the in-flight limit allow, under its route's identifier at the receiver; an ACK
resolves it, a NAK BUSY holds it for another sending; any other NAK and a timeout are a failure that stalls the domain, after which nothing is sent until
RESUME or FLUSH, whose one summary record counts the writes. Reading a failure record off pops the oldest. R247, R255: the answer of a READ goes to its
engine; the ACK of a LOCK grants its lock for 8 ticks. R256, R259: at the end of those a lock ends with a release message to its target; a prefetched
block held for 8 ticks is discarded unused. When held messages are let go, and whose timeout passes, are choices of the model (log entries 15 and 26). -/
def Obligations.BridgeOrderAndExpiries : Prop :=
  (∀ (d : BitVec 6) (h : BrgHeld) (m : BrgMsg) (p : BitVec 4) (target src : Nat) (s : State), s.pwr.power = .run →
     h ∈ (s.dom d.toNat).msgs → h.msg.op = 1 → (s.route h.route).posted = true → (s.route h.route).ret = false →
     (s.route h.route).outPort = p.toNat → 8 ≤ p.toNat → p.toNat < 12 →
     egressTarget p.toNat ((s.route h.route).egress h.msg.id) = target →
     (s.stalled d.toNat = true → exec (.bridgeMessageSend d) s = .next s) ∧
     (s.stalled d.toNat = false → nextHeld (s.dom d.toNat) = some h → mayGo s d.toNat h = true → s.bridge.locks = [] →
       Gives (.bridgeMessageSend d) s fun t =>
         (∃ x, LeavesBy s t p.toNat (s.fv (BRG_PEER_IP_IP target)) (s.fv BRG_CTRL_UDP_PORT) x ∧ x.op = 1 ∧
           x.id = (if p.toNat < 11 then (s.route h.route).egress h.msg.id % 2 ^ 26 else (s.route h.route).egress h.msg.id) ∧
           x.tag = h.msg.tag ∧ x.data = h.msg.data ∧ x.dlen = h.msg.dlen ∧ x.btopo = 0 ∧ x.inLock = false) ∧
         (∀ g, g ∈ (t.dom d.toNat).msgs → g.dseq = h.dseq → g.out = true) ∧ (∀ n, t.rd n = s.rd n) ∧ MemsSame s t) ∧
     (answered s p.toNat src m = some (d.toNat, h) → h.lock = none → s.bridge.fq.length < 256 →
       (m.op = 4 → Gives (.bridgeAnswer p src m) s fun t => (∀ g, g ∈ (t.dom d.toNat).msgs ↔ g ∈ (s.dom d.toNat).msgs ∧ g.dseq ≠ h.dseq) ∧
         t.bridge.fq = s.bridge.fq ∧ ∀ n, t.rd n = s.rd n) ∧
       (m.op = 5 → m.cause = 2 → Gives (.bridgeAnswer p src m) s fun t => t.bridge.fq = s.bridge.fq ∧ (∀ n, t.rd n = s.rd n) ∧
         (∀ g, g ∈ (t.dom d.toNat).msgs → g.dseq = h.dseq → g.out = false) ∧ (t.dom d.toNat).msgs.length = (s.dom d.toNat).msgs.length) ∧
       (m.op = 5 → m.cause ≠ 2 → m.cause ≠ 3 → m.cause ≠ 4 → Gives (.bridgeAnswer p src m) s fun t =>
         PostedFailed s t d.toNat h m.cause)) ∧
     (s.bridge.fq.length < 256 → (∀ g, g ∈ (s.dom d.toNat).msgs → (g = h ↔ ∃ n, g.age = some n ∧ (s.route g.route).timeout + 1 ≤ n)) →
       (s.dom d.toNat).msgs.Nodup → Gives (.bridgeTimeout d) s fun t => PostedFailed s t d.toNat h 0x10) ∧
     (s.stalled d.toNat = true →
       (Gives (.domainResume d) s fun t => t.stalled d.toNat = false ∧ (∀ e, t.dom e = s.dom e) ∧ t.bridge.fq = s.bridge.fq) ∧
       (Gives (.domainFlush d) s fun t => t.stalled d.toNat = false ∧ (∀ g, g ∈ (t.dom d.toNat).msgs ↔ g ∈ (s.dom d.toNat).msgs ∧ g.out = true) ∧
         (s.bridge.fq.length < 256 → ∃ w, t.bridge.fq = s.bridge.fq ++ [w] ∧
           w.getD 2 0 = BitVec.ofNat 32 (min 65535 ((s.dom d.toNat).msgs.filter fun g => !g.out && g.msg.op = 1).length)))) ∧
     (s.stalled d.toNat = false → exec (.domainResume d) s = .next s ∧ exec (.domainFlush d) s = .next s) ∧
     (Gives .brgFqPop s fun t => t.bridge.fq = s.bridge.fq.tail ∧ t.fv BRG_STATUS_FQ_CNT = s.bridge.fq.tail.length % 512 ∧
       RegsButSame [BRG_STATUS] s t)) ∧
  (∀ (p : BitVec 4) (src d : Nat) (h : BrgHeld) (m : BrgMsg) (e : Engine) (s : State), s.pwr.power = .run → answered s p.toNat src m = some (d, h) →
     (m.op = 3 → h.msg.op = 2 → h.msg.prefetched = false → h.sender.port = enginePort e → (s.eport e.num).an.length < 8 →
       Gives (.bridgeAnswer p src m) s fun t => (∀ g, g ∈ (t.dom d).msgs ↔ g ∈ (s.dom d).msgs ∧ g.dseq ≠ h.dseq) ∧
         (t.eport e.num).an = (s.eport e.num).an ++ [{ readResp h.msg.tag m.data with id := h.sender.rid }]) ∧
     (∀ g, m.op = 4 → h.lock = some g → Gives (.bridgeAnswer p src m) s fun t =>
       (∀ x, x ∈ (t.dom d).msgs ↔ x ∈ (s.dom d).msgs ∧ x.dseq ≠ h.dseq) ∧
       t.bridge.locks = s.bridge.locks.map fun k => if k.ltag = g then { k with granted := true, left := 8 } else k)) ∧
  (∀ (ltag : BitVec 16) (k : BrgLock) (s : State), (s.bridge.locks.map fun x => x.ltag).Nodup → s.bridge.blocks.Nodup →
     (k ∈ s.bridge.locks → k.ltag = ltag.toNat → k.granted = true → k.left = 0 → Gives (.lockExpiry ltag) s fun t =>
       (∀ x, x ∈ t.bridge.locks ↔ x ∈ s.bridge.locks ∧ x.ltag ≠ ltag.toNat) ∧
       (∃ b, b ∈ (t.ring k.ring).txq ∧ b.mtype = 5 ∧ b.dst = k.target ∧ b.body = beBytes 2 k.ltag ++ [0, 0])) ∧
     (Gives .prefetchExpiry s fun t => (∀ b, b ∈ t.bridge.blocks ↔ b ∈ s.bridge.blocks ∧ b.age < 8) ∧ t.bridge.doms = s.bridge.doms))

/-! ### Field channels and brake -/

/-- R267, R269, R277, R279: every sample each partition filters the majority of the three comparators; the 40th mismatch in a row of an output is
SHORT_SUPPLY, which opens the group, or OUT_LOW, which takes the channel off; the 2,000th sample with one odd comparator is DISCREPANCY, which holds an
input at 0. R273 to R276: a test pulse starts in its channel's slot when one is due and two partitions hold its command: the channel is switched off or
on; at its end it goes back to what the frames give, and the majority of the comparators at the last three samples passes it, fails it with SHORT_SUPPLY
or OUT_LOW, or it counts as not run. What commands the pulse and when its end falls are choices of the model (log entry 27). -/
def Obligations.FieldSamplesAndTestPulses : Prop :=
  (∀ (inp : IoIn) (l : Lane) (ch : Nat) (s : State), s.alive = true → (∀ k, testedCh s k = none) → ch < 48 →
     Gives (.ioSample inp) s fun t =>
       let c := Store.get (fun _ => 0) (s.part l).cnt ch
       let flt := s.fv (IO_CH_CFG_FLT ch)
       let c' := if majority3 inp.raw ch = true ∧ c < flt then c + 1 else if majority3 inp.raw ch = false ∧ 0 < c then c - 1 else c
       Store.get (fun _ => 0) (t.part l).cnt ch = c' ∧
       natBit (t.part l).st ch = (if c' = 0 ∨ (natBit (t.part l).disc ch = true ∧ isOutput s ch = false) then false
         else if c' = flt then true else natBit (s.part l).st ch) ∧
       (isOutput s ch = true → natBit (s.ixGates.get l) (grpBit (groupOf ch)) = true → s.time.tick ≠ 18 → s.time.tick ≠ 19 →
         Store.get (fun _ => 0) (s.part l).settle ch = 0 → Store.get (fun _ => 0) (s.part l).miss ch = 39 →
         (majority3 inp.raw ch = true → natBit (s.ixGates.get l) ch = false → natBit (t.part l).grpFault (groupOf ch) = true ∧
           natBit (t.ixGates.get l) (grpBit (groupOf ch)) = false) ∧
         (majority3 inp.raw ch = false → natBit (s.ixGates.get l) ch = true → natBit (s.part l).uv (groupOf ch) = false →
           natBit (t.part l).chFault ch = true ∧ natBit (t.ixGates.get l) ch = false)) ∧
       (isOutput s ch = false → oddOne inp.raw ch = some l → Store.get (fun _ => 0) s.ix.discRun (3 * ch + l.num) = 1999 →
         ∀ k, natBit (t.part k).disc ch = true ∧ natBit (t.part k).st ch = false ∧ inputState t k ch = false) ∧
       t.mode = s.mode ∧ MemsSame s t) ∧
  (∀ (ch : BitVec 5) (p : Pulse) (w : PerLane (BitVec 24)) (last : List (PerLane (BitVec 24))) (l : Lane) (s : State),
     (pulseDue s ch.toNat = true → inSlot s ch.toNat = true ∧ testDue s ch.toNat = true ∧ s.mode = .active ∧
       2 ≤ popCount 3 (commanded s ch.toNat) ∧ (darkDue s ch.toNat = true ∨ brightDue s ch.toNat = true)) ∧
     (s.ix.pulse = none → pulseDue s ch.toNat = true → Gives (.testPulseStart ch) s fun t =>
       t.ix.pulse = some ⟨ch.toNat, darkDue s ch.toNat, s.ix.maj, false, commanded s ch.toNat⟩ ∧
       (∀ k bit, bit ≠ ch.toNat → natBit (t.ixGates.get k) bit = natBit (s.part k).frame bit) ∧
       (darkDue s ch.toNat = true → conducts t ch.toNat = false) ∧
       (darkDue s ch.toNat = false → (∀ k, natBit (s.part k).chFault ch.toNat = false ∧ natBit (s.part k).frame (grpBit (groupOf ch.toNat)) = true) →
         conducts t ch.toNat = true) ∧
       (t.part l).chFault = (s.part l).chFault ∧ (t.part l).grpFault = (s.part l).grpFault ∧ t.mode = s.mode ∧ MemsSame s t) ∧
     (pulseDue s ch.toNat = false → exec (.testPulseStart ch) s = .next s) ∧ (s.ix.pulse = none → exec (.testPulseEnd last) s = .next s) ∧
     (let rb := fun (j : Nat) => decide (2 ≤ (allLanes.filter fun k => (w.get k).getLsbD j).length)
      s.ix.pulse = some p → p.spoilt = false → p.ch < 24 → (∀ k, testedCh s k = none) →
       (∀ j, j ≠ p.ch → j < 24 → isOutput s j = true → natBit p.start j = p.dark → rb j = p.dark) →
       (rb p.ch = !p.dark → Gives (.testPulseEnd [w, w, w]) s fun t => t.ix.pulse = none ∧
         Store.get (fun _ => none) t.ix.lastTest p.ch = some s.E ∧ t.ixGates.get l = (s.part l).frame ∧
         (t.part l).chFault = (s.part l).chFault ∧ (t.part l).grpFault = (s.part l).grpFault ∧ t.mode = s.mode ∧ MemsSame s t) ∧
       (rb p.ch = p.dark → Gives (.testPulseEnd [w, w, w]) s fun t => t.ix.pulse = none ∧
         (p.dark = true → natBit (t.part l).grpFault (groupOf p.ch) = true ∧ natBit (t.ixGates.get l) p.ch = false ∧
           natBit (t.ixGates.get l) (grpBit (groupOf p.ch)) = false) ∧
         (p.dark = false → natBit (t.part l).chFault p.ch = true ∧ natBit (t.ixGates.get l) p.ch = false))) ∧
     (s.ix.pulse = some p → p.spoilt = true → Gives (.testPulseEnd last) s fun t => t.ix.pulse = none ∧ t.ix.lastTest = s.ix.lastTest ∧
       t.ixGates.get l = (s.part l).frame ∧ (t.part l).chFault = (s.part l).chFault ∧ (t.part l).grpFault = (s.part l).grpFault))

/-- R271, R278 to R282: an overcurrent takes its channel off and latches it; undervoltage is noted and opens nothing; overvoltage and a feedback that does not
follow its output open the group in the partitions that see it; a lane's clear mask and confirm are its own, the last one counting. That an overcurrent is
seen by all partitions is a choice of the model (log entry 27). -/
def Obligations.FieldFaults : Prop :=
  ∀ (ch : BitVec 5) (g2 enter : Bool) (by3 : BitVec 3) (l : Lane) (v : Word) (s : State), s.alive = true → (∀ m, (s.lane m).powered = true) →
    (isOutput s ch.toNat = true → Gives (.overcurrent ch) s fun t => natBit (t.part l).chFault ch.toNat = true ∧
      natBit (t.ixGates.get l) ch.toNat = false ∧ t.fv IO_FLT_REC_0_CODE = 5 ∧ t.fv IO_FLT_REC_0_CH = ch.toNat ∧
      t.fv (PIC_COUNT_COUNT (.lane l) 32) = oneMore s (.lane l) 32 ∧ t.mode = s.mode ∧ MemsSame s t) ∧
    (Gives (.vfUndervoltage g2 enter by3) s fun t => (by3.getLsbD l.num = true → natBit (t.part l).uv (b2n g2) = enter) ∧
      (by3.getLsbD l.num = false → t.part l = s.part l) ∧ t.ixGates = s.ixGates ∧
      t.fv (PIC_COUNT_COUNT (.lane l) 35) = oneMore s (.lane l) 35 ∧ MemsSame s t) ∧
    (Gives (.vfOvervoltage g2 by3) s fun t => (by3.getLsbD l.num = true → natBit (t.part l).grpFault (b2n g2) = true ∧
      natBit (t.ixGates.get l) (grpBit (b2n g2)) = false) ∧ (by3.getLsbD l.num = false → t.part l = s.part l ∧ t.ixGates.get l = s.ixGates.get l) ∧
      t.fv IO_FLT_REC_0_CODE = 8 ∧ MemsSame s t) ∧
    (isOutput s ch.toNat = true → s.fb (IO_CH_CFG_FB_EN ch.toNat) = true → feedbackBad s l ch.toNat = true →
      Gives (.feedbackTimeout ch) s fun t => natBit (t.part l).grpFault (groupOf ch.toNat) = true ∧
        natBit (t.ixGates.get l) (grpBit (groupOf ch.toNat)) = false ∧ t.fv IO_FLT_REC_0_CODE = 4 ∧
        (∀ m, feedbackBad s m ch.toNat = false → t.part m = s.part m)) ∧
    (Gives (.ioFltClr l v) s fun t => (t.brk.get l).fltClr = some (v.toNat % 2 ^ 26) ∧ (∀ m, m ≠ l → t.brk.get m = s.brk.get m) ∧
      t.ix = s.ix ∧ ∀ k, t.rd k = s.rd k) ∧
    (Gives (.ioConfirm l v) s fun t => t.rd (IO_CONFIRM l) = v ∧ RegsButSame [IO_CONFIRM l] s t ∧ t = { s with regs := t.regs })

/-- R284, R287, R288: the fast path releases a brake channel only on all its conditions; a brake test's phases end with their times as the table of R287 says;
a failure ends the validity, a lapse latches BRK_TEST_DUE. That an outcome is told once is a choice of the model (log entry 27). -/
def Obligations.BrakeTests : Prop :=
  ∀ (k : BitVec 2) (l : Lane) (mask : BitVec 4) (e : Nat) (x : BrkTest) (s : State), s.alive = true → (∀ m, (s.lane m).powered = true) →
    (brkRelease s l k.toNat = true → chMode s (20 + k.toNat) = 2 ∧ (s.lane l).pub.getLsbD (20 + k.toNat) = true ∧
      (s.lane l).pub.getLsbD (24 + k.toNat) = true ∧ brkReq s l k.toNat = false ∧ brkEb s l k.toNat = false ∧ brkPhase s l k.toNat ≠ 1 ∧
      brkPhase s l k.toNat ≠ 2 ∧ (brkValid s l k.toNat = true ∨ brkPhase s l k.toNat = 3) ∧ natBit (s.part l).grpFault 1 = false ∧
      natBit (s.part l).chFault (20 + k.toNat) = false ∧ natBit (s.part l).disc (20 + k.toNat) = false) ∧
    (Gives (.brkTestReq l mask) s fun t => (t.brk.get l).testReq = some mask.toNat ∧ (∀ m, m ≠ l → t.brk.get m = s.brk.get m) ∧ ∀ n, t.rd n = s.rd n) ∧
    (brkTest s l k.toNat = some x →
      (x.phase = 1 → psTicks s ≤ x.ticks → Gives (.brakeTestTimeout k) s fun t => brkTest t l k.toNat = none ∧
        natBit (t.brk.get l).fail k.toNat = true ∧ brkValid t l k.toNat = false ∧ natBit (t.fv (BRK_TEST_STAT_FAIL l)) k.toNat = true) ∧
      (x.phase = 2 → 2000 ≤ x.ticks → Gives (.brakeTestTimeout k) s fun t => brkTest t l k.toNat = some ⟨3, 0, 0⟩) ∧
      (x.phase = 3 → psTicks s ≤ x.gateOn → Gives (.brakeTestTimeout k) s fun t => brkTest t l k.toNat = none ∧
        natBit (t.brk.get l).fail k.toNat = true ∧ brkValid t l k.toNat = false) ∧
      (x.phase = 3 → x.gateOn = 0 → psTicks s ≤ x.ticks → Gives (.brakeTestTimeout k) s fun t => brkTest t l k.toNat = none ∧
        brkValid t l k.toNat = brkValid s l k.toNat ∧ natBit (t.fv (BRK_TEST_STAT_INCOMPLETE l)) k.toNat = true)) ∧
    (Store.get (fun _ => none) (s.brk.get l).pass k.toNat = some e → brkValid s l k.toNat = true → e + validEpochs s ≤ s.E + 360000 →
      Gives (.brakeValidityWarning k) s fun t => t.fv (PIC_COUNT_COUNT .mgmt 39) = oneMore s .mgmt 39 ∧ t.brk = s.brk ∧ MemsSame s t) ∧
    (Store.get (fun _ => none) (s.brk.get l).pass k.toNat = some e → e + validEpochs s ≤ s.E → Gives (.brakeValidityLapse k) s fun t =>
      natBit (t.brk.get l).due k.toNat = true ∧ brkValid t l k.toNat = false ∧ t.fv IO_FLT_REC_0_CODE = 0x0A ∧ t.ixGates = s.ixGates)

/-! ### Module pairs -/

/-- R296 to R298, R304, R306 to R308, R311, R314: what the pair links bring. A bad CRC counts and a second copy does nothing; any heartbeat of the partner
gives its time; a valid one, of an E within 1 of the own, ends silence and shows the partner's mode; WITHDRAW makes a READY standby take over with copied state; four strobes without a heartbeat are silence, which makes a
standby COLD while the partner's slices are fresh; a switchover is refused unless the partner is READY, or both ends permit a cold one. That COLD_TAKE of
the partner comes with the command is a choice of the model (log entry 30). -/
def Obligations.PairLinks : Prop :=
  ∀ (k cold pcold : Bool) (h : Heartbeat) (since : Nat) (lines : BitVec 6) (b : List Byte) (s : State), paired s = true →
    (h.crcOk = false → Gives (.pairHeartbeat k h since) s fun t => t.fv PAIR_CNT_FRAME_CRC = bumped s PAIR_CNT_FRAME_CRC ∧
      RegsButSame [PAIR_CNT] s t ∧ t = { s with regs := t.regs }) ∧
    (h.crcOk = true → hbOfPeer s h = false ∨ hbCopy s h = true → exec (.pairHeartbeat k h since) s = .next s) ∧
    (hbOfPeer s h = true → hbCopy s h = false → hbValid s h = false → Gives (.pairHeartbeat k h since) s fun t =>
      t.pair = { s.pair with echo := some h.t, lastAt := s.time.t + since } ∧ t.mode = s.mode ∧ t.lanes = s.lanes ∧ t.ixGates = s.ixGates ∧
      t.fb PAIR_STATUS_SILENT = s.fb PAIR_STATUS_SILENT ∧ t.fv PAIR_STATUS_PEER_MODE = s.fv PAIR_STATUS_PEER_MODE) ∧
    (hbValid s h = true → hbCopy s h = false → Gives (.pairHeartbeat k h since) s fun t =>
      t.pair.last = some h ∧ t.pair.hbAge = 0 ∧ t.pair.withdraw = h.withdraw ∧ t.pair.echo = some h.t ∧ t.fv PAIR_STATUS_PEER_MODE = h.mode % 8 ∧
      t.fb PAIR_STATUS_SILENT = false ∧ t.fb PAIR_STATUS_LINK_LOST = false ∧ t.fb PAIR_STATUS_RANK_CLASH = decide (h.rank = s.fv PAIR_CFG_RANK) ∧
      t.mode = s.mode ∧ t.lanes = s.lanes ∧ t.mmem = s.mmem ∧
      (s.mode = .standby → h.withdraw = true → h.readiness ≠ 0 → s.fv PAIR_STATUS_READINESS = 2 → s.fb PAIR_STATUS_TAKE_COND = false →
        t.fb PAIR_STATUS_TAKE_COND = true ∧ t.pair.decided = some false ∧ (s.sec.startOk = true → t.fb PAIR_STATUS_MREQ = true)) ∧
      (s.mode = .active → h.mode = Mode.standby.code → h.readiness = 0 → s.pair.resync = 0 → t.pair.resync = 1)) ∧
    (s.pair.hbAge < 4 → exec .pairSilence s = .next s) ∧
    (4 ≤ s.pair.hbAge → s.fb PAIR_STATUS_SILENT = false → Gives .pairSilence s fun t => t.fb PAIR_STATUS_SILENT = true ∧
      t.mode = s.mode ∧ t.lanes = s.lanes ∧ t.mmem = s.mmem ∧
      (peerFreshMaj s 2 = true → t.fb PAIR_STATUS_LINK_LOST = true ∧
        (s.mode = .standby → s.fv PAIR_STATUS_READINESS = 1 ∨ s.fv PAIR_STATUS_READINESS = 2 → t.fv PAIR_STATUS_READINESS = 0)) ∧
      (s.mode = .standby → peerStaleMaj s 8 = true → peerFreshMaj s 2 = false → s.fv PAIR_STATUS_READINESS = 2 →
        s.fb PAIR_STATUS_TAKE_COND = false → t.pair.decided = some false)) ∧
    (Gives (.pairLinkChange k lines) s fun t => t.fb (if k then PAIR_STATUS_LINK1 else PAIR_STATUS_LINK0) = linkLines lines ∧
      t = { s with regs := t.regs }) ∧
    (s.mode = .active → s.pair.switchSt = 0 →
      ((∃ g, s.pair.last = some g ∧ g.readiness = 2) ∨ (cold = true ∧ pcold = true) → Gives (.pairSwitch cold pcold) s fun t =>
        t = { s with pair := { s.pair with switchSt := 1 } }) ∧
      (s.pair.last = none → cold = false ∨ pcold = false → Gives (.pairSwitch cold pcold) s fun t => t.pair = s.pair ∧
        t.mode = s.mode ∧ (s.alive = true → t.fv (PIC_COUNT_COUNT .mgmt 79) = oneMore s .mgmt 79))) ∧
    (s.mode = .active → s.pair.resync = 0 ∨ s.pair.resync = 2 → Gives .pairResync s fun t => t.pair.resync = 1 ∧
      t.fv PAIR_CNT_RESYNC = bumped s PAIR_CNT_RESYNC ∧ t.lanes = s.lanes ∧ t.mode = s.mode) ∧
    (b.length = 64 → bytesAt b 0 1 = 4 → bytesAt b 60 4 = crc32c (b.take 60) → s.pair.watch.lastE = some (bytesAt b 40 6) →
      exec (.healthReport k b) s = .next s) ∧
    (b.length = 64 → bytesAt b 0 1 = 4 → bytesAt b 60 4 = crc32c (b.take 60) → s.pair.watch.lastE ≠ some (bytesAt b 40 6) → Gives (.healthReport k b) s fun t =>
      t.pair.watch.lastE = some (bytesAt b 40 6) ∧ t.pair.watch.age = 0 ∧
      (∀ j, j < 16 → (t.rd (PAIR_PEER_HEALTH j)).toNat = bytesAt b (4 * j) 4) ∧ t.mode = s.mode ∧ t.lanes = s.lanes ∧
      (s.mode = .active → bytesAt b 2 1 = LState.lockedOut.code → natBit (t.fv PAIR_PEER_FLT_FLT) 1 = true)) ∧
    (b.length ≠ 64 → Gives (.healthReport k b) s fun t => t.fv PAIR_CNT_FRAME_CRC = bumped s PAIR_CNT_FRAME_CRC ∧ t.pair = s.pair)

/-- R30, R296, R301, R303, R305: the active's marker leaves in tick 19 alone, while its lanes vote; bad CRCs count, a second copy of a block or a marker
changes nothing; a standby collects an epoch's records and commits them only whole, in time and under a schema it knows: each lane that verifies both codes takes every word, coded with its own A and the present D, and the locked-route vector; otherwise OMEM
is left. -/
def Obligations.Tinning : Prop :=
  ∀ (k : Bool) (r : TinRec) (rs : List TinRec) (m : Marker) (since : Nat) (l : Lane) (s : State), paired s = true →
    (s.mode = .standby → 1 ≤ rs.length → rs.length ≤ 16 → (∀ x, x ∈ rs → x.e = m.e) → (rs.map fun x => x.rseq).Pairwise (· < ·) →
      (s.pair.bank = [] → Gives (.tinningBlock k true rs) s fun t => t = { s with pair := { s.pair with bank := rs } }) ∧
      (s.pair.bank = rs → exec (.tinningBlock k true rs) s = .next s)) ∧
    (1 ≤ rs.length → rs.length ≤ 16 → Gives (.tinningBlock k false rs) s fun t =>
      t.fv PAIR_CNT_FRAME_CRC = bumped s PAIR_CNT_FRAME_CRC ∧ RegsButSame [PAIR_CNT] s t ∧ t = { s with regs := t.regs }) ∧
    (m.crcOk = false → Gives (.tinMarker k m since) s fun t => t.fv PAIR_CNT_FRAME_CRC = bumped s PAIR_CNT_FRAME_CRC ∧ RegsButSame [PAIR_CNT] s t ∧
      t = { s with regs := t.regs }) ∧
    (s.time.tick ≠ 19 → exec .tinMarkerSend s = .next s) ∧
    (s.mode = .active → s.time.tick = 19 → s.pair.marker = some m → s.pair.tinLane = some l → m.pair = 1 →
      ((∀ x, (s.lane x).st = .voting) → m.e < 2 ^ 48 → Gives .tinMarkerSend s fun t => t.pair.marker = none ∧ .marker m ∈ t.pair.sent ∧
        committedE t = m.e ∧ t.lanes = s.lanes) ∧
      ((s.lane l).st ≠ .voting → exec .tinMarkerSend s = .next s)) ∧
    (m.crcOk = true → s.mode ≠ .standby ∨ s.pair.epochDone = true → exec (.tinMarker k m since) s = .next s) ∧
    (s.mode = .standby → m.crcOk = true → s.pair.epochDone = false →
      (schemaOk s m = false ∨ bankWhole s m since = false → Gives (.tinMarker k m since) s fun t =>
        t.pair.bank = [] ∧ t.pair.epochDone = true ∧ t.fv PAIR_CNT_COMMIT_FAIL = bumped s PAIR_CNT_COMMIT_FAIL ∧ t.lanes = s.lanes ∧
        committedE t = committedE s) ∧
      (schemaOk s m = true → bankWhole s m since = true → m.e < 2 ^ 48 → Gives (.tinMarker k m since) s fun t =>
        committedE t = m.e ∧ t.pair.bank = [] ∧ t.pair.epochDone = true ∧ t.mode = s.mode ∧
        (markerOk s l m = false → t.lane l = s.lane l) ∧
        ((s.lane l).st.counted = true → markerOk s l m = true → (t.lane l).locked = m.locked ∧ (t.lane l).tinDirty = (s.lane l).tinDirty ∧
          ((s.pair.bank.map fun x => x.obj).Nodup → r ∈ s.pair.bank → r.e = m.e → r.obj < 131072 → ∀ f, f < 8 →
            omemWord t l r.obj f = codeWord l (r.v.getD f 0) (fieldSig s l r.obj f) (s.dNow l)))))

/-! ### Feeds, power states, reset -/

/-- R318 to R320: ten samples in a row below 14.0 V make a feed LOST, below 16.8 V LOW, above 137.5 V HIGH; 1,000 within the range make it NORMAL again. With
both LOST the module runs on its hold-up store, and after 10 ms of that it holds itself in reset with every gate off until a feed has been NORMAL for 100
ms. R323, R325 to R328: a lane's own SYS thread alone writes its request, another's write is counted; each block in turn acknowledges or refuses, a
refusal ending the handshake in RUN; after block 0x08 the entry is accepted; an active wake source of the target ends it as ABORT_WAKE. The order of feed
states and what a module withdrawal does to an entry are readings (log entries 35 and 36). -/
def Obligations.FeedsAndPowerEntry : Prop :=
  (∀ (va vb : BitVec 16) (store : BitVec 7) (busOk : Bool) (s : State),
     (s.alive = true → Gives (.feedSample va vb store busOk) s fun t =>
       t.fv PWR_FEED_V_FEED_A = va.toNat ∧ t.fv PWR_FEED_V_FEED_B = vb.toNat ∧ t.fv PWR_HOLDUP_STORE = store.toNat ∧
       t.fb PWR_FEED_STAT_BUS_OK = busOk ∧ t.lanes = s.lanes ∧ t.mode = s.mode ∧ t.mmem = s.mmem ∧
       (va.toNat < 140 → 9 ≤ s.feed.a.lost → t.fv PWR_FEED_STAT_FEED_A = 2) ∧
       (140 ≤ va.toNat → va.toNat < 168 → 9 ≤ s.feed.a.low → t.fv PWR_FEED_STAT_FEED_A = 1) ∧
       (1375 < va.toNat → 9 ≤ s.feed.a.high → t.fv PWR_FEED_STAT_FEED_A = 3) ∧
       (168 ≤ va.toNat → va.toNat ≤ 1375 → 999 ≤ s.feed.a.ok → t.fv PWR_FEED_STAT_FEED_A = 0) ∧
       (s.fv PWR_FEED_STAT_FEED_A ≠ t.fv PWR_FEED_STAT_FEED_A → t.fb PWR_FEED_EVT_FEED_A = true) ∧
       (s.feed.holdup = none → t.fv PWR_FEED_STAT_FEED_A = 2 → t.fv PWR_FEED_STAT_FEED_B = 2 → t.feed.holdup = some 0 ∧
         t.fb PWR_FEED_STAT_HOLDUP = true)) ∧
     (∀ n, s.feed.holdup = some n → s.alive = true → 100 ≤ n → Gives .powerFailSequence s fun t =>
       Cold s t ∧ t.pwr.power = .reset ∧ t.pwr.failHold = true) ∧
     (∀ n, s.feed.holdup = some n → n < 100 → exec .powerFailSequence s = .next s) ∧
     (s.feed.holdup = none → exec .powerFailSequence s = .next s) ∧
     (s.pwr.failHold = true → s.pwr.rstHeld = false → 1000 ≤ s.feed.a.ok ∨ 1000 ≤ s.feed.b.ok → Gives .powerFailRestart s fun t => Boots s t .powerFail) ∧
     (s.pwr.failHold = true → s.feed.a.ok < 1000 → s.feed.b.ok < 1000 → exec .powerFailRestart s = .next s)) ∧
  (∀ (l : Lane) (k : BitVec 2) (v : Word) (s : State),
     (s.alive = true → s.stabled = false → Gives (.pwrReqWrite (.thr (.sys l)) k v) s fun t =>
       (k.toNat = l.num → t.rd (reqKey k.toNat) = v &&& 0xFFFF0003 ∧ RegsButSame [reqKey k.toNat] s t ∧ t = { s with regs := t.regs }) ∧
       (k.toNat ≠ l.num → t.fv PWR_ENTRY_BAD_WRITE = bumped s PWR_ENTRY_BAD_WRITE ∧ RegsButSame [PWR_ENTRY] s t ∧ t = { s with regs := t.regs })) ∧
     (s.fv PWR_STATE_STATE = 1 → activeSources s (s.fv PWR_STATE_TARGET) = 0 → 2 ≤ s.voting.length → 1 ≤ s.pwr.asked → s.pwr.asked ≤ 8 →
       (blockRefuses s s.pwr.asked = true → Gives .handshakeAnswer s fun t => t.pwr.asked = 0 ∧ t.fv PWR_ENTRY_RESULT = 2 ∧
         t.fv PWR_ENTRY_REFUSER = s.pwr.asked ∧ accOf t (7 + s.pwr.asked) = min 4294967295 (accOf s (7 + s.pwr.asked) + 1) ∧
         t.fv PWR_STATE_STATE = 0 ∧ t.mode = s.mode ∧ t.pwr.power = s.pwr.power) ∧
       (blockRefuses s s.pwr.asked = false → s.pwr.asked < 8 → Gives .handshakeAnswer s fun t => t.pwr.asked = s.pwr.asked + 1 ∧
         t.fv PWR_STATE_STEP = s.pwr.asked + 1 ∧ t.mode = s.mode ∧ t.lanes = s.lanes) ∧
       (blockRefuses s s.pwr.asked = false → s.pwr.asked = 8 → Gives .handshakeAnswer s fun t => t.pwr.asked = 9 ∧ t.fv PWR_ENTRY_RESULT = 1 ∧
         t.fv PWR_STATE_STATE = 2 ∧ t.fv PWR_STATE_TARGET = s.fv PWR_STATE_TARGET ∧ t.mode = s.mode) ∧
       (Gives .handshakeTimeout s fun t => t.fb PWR_ENTRY_TIMEOUT = true ∧ t.pwr.asked = 0 ∧ t.fv PWR_ENTRY_REFUSER = s.pwr.asked)) ∧
     (s.fv PWR_STATE_STATE = 1 → activeSources s (s.fv PWR_STATE_TARGET) ≠ 0 → Gives .handshakeAnswer s fun t =>
       t.pwr.asked = 0 ∧ t.fv PWR_ENTRY_RESULT = 3 ∧ t.fv PWR_ENTRY_ABORT_SRC = lowestBit (activeSources s (s.fv PWR_STATE_TARGET)) ∧
       accOf t 2 = min 4294967295 (accOf s 2 + 1) ∧ t.mode = s.mode) ∧
     (s.fv PWR_STATE_STATE ≠ 1 → exec .handshakeAnswer s = .next s ∧ exec .handshakeTimeout s = .next s) ∧
     (s.pwr.reaching = true → s.fv PWR_STATE_STATE = 2 → s.fv PWR_STATE_TARGET = 1 → s.pwr.heldWake = 0 → activeSources s 1 = 0 →
       Gives .powerStateReached s fun t => t.fv PWR_STATE_STATE = 3 ∧ t.pwr.reaching = false ∧ t.pwr.entryE = s.E ∧ t.lanes = s.lanes) ∧
     (s.stabled = true → s.fv PWR_STATE_STATE = 3 → s.pwr.dormLeft ≠ none → activeSources s 1 = 0 → Gives .dormAfterExpiry s fun t =>
       t.pwr.asked = 9 ∧ t.pwr.dormLeft = none ∧ t.fv PWR_ENTRY_RESULT = 1 ∧ t.fv PWR_STATE_STATE = 2 ∧ t.fv PWR_STATE_TARGET = 2 ∧ t.pwr.power = s.pwr.power))

/-- R329, R331, R333, R334: an enabled source that becomes active in STABLED starts a wake, recorded under its number; the domains start in their order, each
after the one before it; after the last, from STABLED, boot step 3 follows; a missed limit leaves everything dark for one retry. RELEASE frees the pads.
That a failed wake leaves every domain dark is a reading (log entry 35). -/
def Obligations.Wakes : Prop :=
  ∀ (n : BitVec 2) (r d : BitVec 3) (high : Bool) (s : State), s.stabled = true →
    (s.fv PWR_STATE_STATE = 3 → s.pwr.dead = false → s.pwr.waking = 0 →
      (activeSources s 1 = 0 → natBit (s.fv PWR_WAKE_EN_EN) n.toNat = true → natBit (s.fv PWR_WAKE_CFG_POL) n.toNat = high →
        Gives (.wakeInput n high) s fun t => t.pwr.waking = 1 ∧ t.fv PWR_WAKE_STAT_SRC = n.toNat ∧ t.fv PWR_WAKE_STAT_FROM = 1 ∧
          t.fv PWR_STATE_STATE = 4 ∧ t.pwr.groups = wakePlan 1 ∧ accOf t (16 + n.toNat) = min 4294967295 (accOf s (16 + n.toNat) + 1)) ∧
      (activeSources s 1 = 0 → natBit (s.fv PWR_WAKE_EN_EN) (4 + r.toNat) = true → s.fb (RING_CTRL_WAKE r.toNat) = true →
        s.fb (RING_CTRL_KEEP r.toNat) = false → Gives (.wakeRingActivity r true) s fun t =>
          t.pwr.waking = 1 ∧ t.fv PWR_WAKE_STAT_SRC = 4 + r.toNat ∧ t.fv PWR_STATE_STATE = 4) ∧
      (activeSources s 1 = 0 → natBit (s.fv PWR_WAKE_EN_EN) 12 = true → s.fv PWR_WAKE_TIMER_SECONDS ≠ 0 → Gives .wakeTimer s fun t =>
        t.pwr.waking = 1 ∧ t.fv PWR_WAKE_STAT_SRC = 12) ∧
      (activeSources s 1 = 0 → natBit (s.fv PWR_WAKE_EN_EN) 13 = true → Gives (.pwrWakeCmd (.thr .mgmt)) s fun t =>
        t.pwr.waking = 1 ∧ t.fv PWR_WAKE_STAT_SRC = 13)) ∧
    (s.pwr.groups = [[(d.toNat, [4])]] → Gives (.wakeReadySignal d) s fun t => t.pwr.groups = [] ∧ t.pwr.power = .run ∧ t.sec.bootStep = 3 ∧
      t.lane .a = s.lane .a ∧ (t.lane .b).powered = true ∧ (t.lane .b).mem = [] ∧ (t.lane .c).powered = true) ∧
    (∀ rest g, s.pwr.groups = [[(d.toNat, [4])], g] ++ rest → Gives (.wakeReadySignal d) s fun t =>
      t = { s with pwr := { s.pwr with groups := g :: rest } }) ∧
    (∀ g rest st, s.pwr.groups = [(d.toNat, st :: g)] :: rest → s.pwr.failed = false → Gives (.wakeStepTimeout d) s fun t =>
      Cold s t ∧ t.pwr.power = .dormant ∧ t.pwr.failed = true ∧ t.pwr.dead = s.pwr.failed ∧ t.pwr.groups = [] ∧ t.fv PWR_WAKE_STAT_FAIL_DOM = d.toNat ∧
      (st ≤ 4 → t.fv PWR_WAKE_STAT_FAIL_STEP = st)) ∧
    (∀ u : State, u.pwr.failed = true → u.pwr.dead = false → u.pwr.power = .dormant → u.pwr.groups = [] → u.pwr.waking ≠ 0 →
      Gives .wakeRetry u fun t => t = { u with pwr := { u.pwr with groups := wakePlan 2 } }) ∧
    (∀ u : State, u.pwr.power = .run → Gives .pwrPadRelease u fun t => t.fb PWR_PAD_LATCHED = false ∧ RegsButSame [PWR_PAD] u t ∧
      t = { u with regs := t.regs })

/-- R19, R20, R322, R337, R338, R353: every module reset takes every gate off, loses the memories and the lanes' state, keeps their non-volatile keys, and
boots with its cause shown and counted; a held RST_N boots at its release, or after 5 s as a stuck button; without power all is off. What a reset keeps of
the feeds and the recorder queue are readings (log entries 31 and 36). -/
def Obligations.Resets : Prop :=
  ∀ (c : ResetCause) (key : Word) (session : BitVec 16) (s : State),
    (s.pwr.power ≠ .off ∨ c = .powerOn → Gives (.moduleReset c) s fun t => Boots s t c) ∧
    (s.pwr.power = .off → c ≠ .powerOn → exec (.moduleReset c) s = .next s) ∧
    (s.pwr.power = .off → Gives .powerOn s fun t => Boots s t .powerOn) ∧
    (s.alive = true → s.mode ≠ .configHold → key = 0xB007 → Gives (.pwrRestart key session) s fun t => Boots s t .mgtRestart) ∧
    (key ≠ 0xB007 → exec (.pwrRestart key session) s = .next s) ∧
    (s.pwr.power ≠ .off → s.fb PWR_RESET_IGNORED = false → Gives .rstNQualified s fun t => Cold s t ∧ t.pwr.power = .reset ∧ t.pwr.rstHeld = true ∧
      t.fb PWR_PAD_LATCHED = false) ∧
    (s.fb PWR_RESET_IGNORED = true → exec .rstNQualified s = .next s) ∧
    (s.pwr.rstHeld = true → s.pwr.failHold = false →
      (Gives .rstNRelease s fun t => Boots s t .rstN) ∧
      (Gives .rstNStuck s fun t => Boots s t .rstNStuck ∧ t.fb PWR_RESET_RESET_STUCK = true ∧ t.fb PWR_RESET_IGNORED = true)) ∧
    (s.pwr.rstHeld = false → exec .rstNRelease s = .next s ∧ exec .rstNStuck s = .next s) ∧
    (s.pwr.power ≠ .off → Gives .rstNIgnoreEnd s fun t => t.fb PWR_RESET_IGNORED = false ∧ RegsButSame [PWR_RESET] s t ∧ t = { s with regs := t.regs }) ∧
    (Gives .powerLoss s fun t => Cold s t ∧ t.pwr.power = .off ∧ t.pwr.acc = s.pwr.acc)

/-! ### Boot agreement, tokens, banks, keys -/

/-- R147, R360, R361: at boot step 3 the lanes agree on the image. RTE_LOAD_ERR shows the load checks of this image. Where the lanes agree, each holds its
sections; where they do not, the code of the failure and the lanes it names are shown and a boot leads to CONFIG_HOLD (SERVICE, while its life cycle is
SERVICE), unless on trial: then it reverts to the previous bank. The layout of the settings is open (log entry 2); what is coded where the image gives
nothing, the order of checks, and a failure in a wake from STABLED are readings (log entries 24, 34 and 35). -/
def Obligations.HallmarkAgreement : Prop :=
  ∀ (reps : PerLane HmReport) (s : State),
    (s.sec.bootStep ≠ 3 → exec (.hallmarkAgreement reps) s = .next s) ∧
    (s.sec.bootStep = 3 → ∀ k m, hallmarkFail s s.sec.selected reps = (k, m) →
      (∀ l, Gives (.hallmarkAgreement reps) s fun t => (t.fv (RTE_LOAD_ERR_CODE l), t.fv (RTE_LOAD_ERR_INDEX l)) =
        (match rteLoadErr s s.sec.selected with | some x => (x.1 % 256, x.2 % 2 ^ 17) | none => (0, 0))) ∧
      (k ≠ 0 → s.sec.trial = false → Gives (.hallmarkAgreement reps) s fun t => t.fv SEC_BOOT_FAIL = k ∧ t.fv SEC_BOOT_STEP = 3 ∧ t.fv SEC_BOOT_LANES = m ∧
        t.sec.bootStep = 0 ∧ t.mode = s.mode ∧ MemsSame s t ∧
        t.sec.nextMode = if s.mode = .boot then some (if lcState s = 4 then .service else .configHold) else s.sec.nextMode) ∧
      (k ≠ 0 → s.sec.trial = true → Gives (.hallmarkAgreement reps) s fun t => t.sec.selected = s.sec.previous ∧ t.sec.trial = false ∧
        t.fb SEC_BOOT_REVERTED = true ∧ t.mode = s.mode ∧ MemsSame s t) ∧
      (k = 0 → Gives (.hallmarkAgreement reps) s fun t => ∀ l,
        (t.lane l).mem = loadMem s s.sec.selected l (getBits (Config.setting (secBytes s s.sec.selected 3) 96) 31 16 * 65536)
          ((Config.setting (secBytes s s.sec.selected 3) 99).toNat % 2048) ∧
        (t.lane l).typeMap = typeMapOf (secBytes s s.sec.selected 4) ∧ (t.lane l).locked = 0 ∧
        (t.lane l).osum = initialSum (secBytes s s.sec.selected 5)))

/-- R347, R348, R368: a token submitted waits for its check with the nonce it was submitted under; one submitted meanwhile is refused with BUSY. R344, R345,
R348, R351: a token that fails a check changes nothing but the result shown; an accepted one has the effect of its type: a root slot written, a slot
revoked, the floor raised, a maintenance session opened, the entry into SERVICE due, or a life-cycle change that ends in a module reset. The format of
signatures is PRESUMED (log entry 14); that a life-cycle change resets in the same step is a reading (log entry 45). -/
def Obligations.Tokens : Prop :=
  (∀ (i : Instr) (ty : Nat) (s : State),
     (i, ty) ∈ [(.tokenCommission, 1), (.tokenOperate, 2), (.tokenService, 3), (.tokenRetire, 4), (.tokenRoot, 5), (.tokenRevoke, 6), (.tokenMaint, 7),
       (.tokenClear, 8), (Instr.tokenFloor, 9)] →
     s.pwr.power = .run → (Store.get byteZero s.sec.tokenBuf 4).toNat = ty →
     (s.sec.token = none → Gives i s fun t => t.sec = { s.sec with token := some (Store.getList byteZero s.sec.tokenBuf 0 3280, nonceBytes s) } ∧
       t.fv SEC_TOKEN_STAT_TYPE = ty ∧ t.fb SEC_TOKEN_STAT_BUSY = true ∧ RegsButSame [SEC_TOKEN_STAT] s t ∧
       t = { s with regs := t.regs, sec := t.sec }) ∧
     (s.sec.token ≠ none → Gives i s fun t => t.fv SEC_TOKEN_STAT_RESULT = 1 ∧ t.sec = s.sec ∧ t.lanes = s.lanes ∧ t.mode = s.mode)) ∧
  (∀ (b nonce : List Byte) (s : State), s.pwr.power = .run → s.sec.token = some (b, nonce) →
     (tokenResult s b nonce ≠ 0 → Gives .tokenCheckComplete s fun t => t.sec = { s.sec with token := none } ∧
       t.fv SEC_TOKEN_STAT_RESULT = tokenResult s b nonce ∧ t.fb SEC_TOKEN_STAT_BUSY = false ∧ t.fv SEC_FLOOR_FLOOR = s.fv SEC_FLOOR_FLOOR ∧
       t.lanes = s.lanes ∧ t.mode = s.mode ∧ t.mmem = s.mmem ∧ (s.alive = true → t.fv (PIC_COUNT_COUNT .mgmt 92) = oneMore s .mgmt 92)) ∧
     (tokenResult s b nonce = 0 →
       (tokenTypeOf b = 1 → Gives .tokenCheckComplete s fun t => Boots s t .mgtRestart ∧ t.sec.lcBits = 2) ∧
       (tokenTypeOf b = 2 → Gives .tokenCheckComplete s fun t => Boots s t .mgtRestart ∧ t.sec.lcBits = 3) ∧
       (tokenTypeOf b = 4 → Gives .tokenCheckComplete s fun t => t.sec.lcBits = 4 ∧ t.sec.hxKeys = [] ∧ t.sec.hxKeysNv = [] ∧
         ∀ l, (t.lane l).st = .off ∧ (t.lane l).keys = [] ∧ (t.lane l).keyNv = []) ∧
       (tokenTypeOf b = 3 → Gives .tokenCheckComplete s fun t => t.sec = { s.sec with token := none, nextMode := some .service } ∧ t.mode = s.mode) ∧
       (tokenTypeOf b = 5 → Gives .tokenCheckComplete s fun t =>
         t.sec = { s.sec with token := none, roots := s.sec.roots ++ [(bytesAt b 32 1, BitVec.ofNat 256 (bytesAt b 64 32))] }) ∧
       (tokenTypeOf b = 6 → Gives .tokenCheckComplete s fun t => bytesAt b 32 1 ∈ t.sec.revoked ∧ ∀ k, k ∈ s.sec.revoked → k ∈ t.sec.revoked) ∧
       (tokenTypeOf b = 7 → Gives .tokenCheckComplete s fun t => t.sec = { s.sec with token := none, maint := true } ∧ t.lanes = s.lanes) ∧
       (tokenTypeOf b = 8 → Gives .tokenCheckComplete s fun t => t.recorder.erasing = true ∧ t.fb REC_STATUS_ERASING = true ∧ t.fv REC_LAP_LAP = 0 ∧
         t.fb REC_STATUS_FF_FULL = false ∧ t.sec = { s.sec with token := none } ∧ t.lanes = s.lanes) ∧
       (tokenTypeOf b = 9 → Gives .tokenCheckComplete s fun t => t.fv SEC_FLOOR_FLOOR = max (s.fv SEC_FLOOR_FLOOR) (s.fv SEC_VERSIONS_SEC_VERSION) ∧
         t.lanes = s.lanes)))

/-- R361, R365: a verified bank may be switched to, never in ACTIVE with a partner or without the outage accepted; an erase or a program waits for its end at
an offset of whole 4 KiB, and withdraws the verification; programming writes the buffer's 4,096 bytes, erasing 256 KiB, and nothing else. That an erased
byte reads 0xFF is PRESUMED (log entry 5); the maintenance session and what a busy unit ignores are the readings and choices of log entries 37 and 38. -/
def Obligations.Banks : Prop :=
  ∀ (off : BitVec 28) (outage : Bool) (s : State), s.pwr.power = .run →
    (s.fb SEC_BANK_VER_BUSY = false → Gives .bankVerify s fun t => t.fb SEC_BANK_VER_BUSY = true ∧ t.fb SEC_BANK_VER_OK = false ∧
      RegsButSame [SEC_BANK] s t ∧ t = { s with regs := t.regs }) ∧
    (s.fb SEC_BANK_VER_BUSY = true → Gives .bankVerifyDone s fun t => t.fv SEC_BANK_VER_FAIL = verifyBank s ∧ t.fb SEC_BANK_VER_OK = decide (verifyBank s = 0) ∧
      t.fb SEC_BANK_VER_BUSY = false ∧ t.sec = s.sec ∧ t.fv (PIC_COUNT_COUNT .mgmt 95) = oneMore s .mgmt 95) ∧
    (s.fb SEC_BANK_VER_OK = true → serviceAllows s = true → (s.mode = .active → paired s = false ∧ outage = true) → Gives (.bankSwitch outage) s fun t =>
      t.fb SEC_BANK_PENDING = true ∧ RegsButSame [SEC_BANK] s t ∧ t = { s with regs := t.regs }) ∧
    (s.fb SEC_BANK_VER_OK = false ∨ serviceAllows s = false ∨ (s.mode = .active ∧ (paired s = true ∨ outage = false)) → Gives (.bankSwitch outage) s fun t =>
      t.fv SEC_BANK_PENDING = s.fv SEC_BANK_PENDING ∧ t.fv (PIC_COUNT_COUNT .mgmt 95) = oneMore s .mgmt 95 ∧ t.sec = s.sec) ∧
    (Gives .bankConfirm s fun t => t = { s with sec := { s.sec with trial := false } }) ∧
    (∀ i op, (i, op) ∈ [(.norErase off, 1), (Instr.norProgram off, 2)] → serviceAllows s = true → s.sec.norBusy = none →
      (off.toNat % 4096 = 0 → Gives i s fun t => t.sec = { s.sec with norBusy := some (op, off.toNat) } ∧ t.fb SEC_NOR_STAT_BUSY = true ∧
        t.fb SEC_BANK_VER_OK = false ∧ RegsButSame [SEC_NOR_STAT, SEC_BANK] s t) ∧
      (off.toNat % 4096 ≠ 0 → Gives i s fun t => t.fb SEC_NOR_STAT_REFUSED = true ∧ RegsButSame [SEC_NOR_STAT] s t ∧ t = { s with regs := t.regs })) ∧
    (∀ off' : Nat, s.sec.norBusy = some (2, off') → Gives (.norOpDone true) s fun t => t.sec.norBusy = none ∧ t.fb SEC_NOR_STAT_BUSY = false ∧ ∀ k,
      (k < 4096 → Store.get norDefault t.sec.nor (norKey (otherBank s) off' + k) = Store.get byteZero s.sec.norBuf k) ∧
      (k < norKey (otherBank s) off' ∨ norKey (otherBank s) off' + 4096 ≤ k → Store.get norDefault t.sec.nor k = Store.get norDefault s.sec.nor k)) ∧
    (∀ sector : Nat, s.sec.norBusy = some (1, 262144 * sector) → Store.wf norDefault s.sec.nor = true → Gives (.norOpDone true) s fun t => t.sec.norBusy = none ∧ ∀ k,
      (k < 262144 → Store.get norDefault t.sec.nor (norKey (otherBank s) (262144 * sector) + k) = 0xFF) ∧
      (k < norKey (otherBank s) (262144 * sector) ∨ norKey (otherBank s) (262144 * sector) + 262144 ≤ k →
        Store.get norDefault t.sec.nor k = Store.get norDefault s.sec.nor k))

/-- R222, R350, R352 to R354, R356, R364: keys enter the non-volatile stores in COMMISSION or SERVICE while the module is not ACTIVE, and leave the keys in
force as they are; a slot not in the table is told. A quote uses up one attestation index. SERVICE ends with an EXIT bit and a module reset. What the
signature and the identity key are is open (log entry 2). -/
def Obligations.KeysAndAttestation : Prop :=
  ∀ (l : Lane) (slot : BitVec 10) (key snd rcv : BitVec 256) (id : Word) (ses : BitVec 7) (s : State), s.pwr.power = .run →
    (keyEntry s = true →
      (slotNamed slot.toNat = true → Gives (.keyload l slot key) s fun t =>
        Store.get (fun _ => none) (t.lane l).keyNv slot.toNat = some key ∧ (∀ k, k ≠ slot.toNat →
          Store.get (fun _ => none) (t.lane l).keyNv k = Store.get (fun _ => none) (s.lane l).keyNv k) ∧
        (t.lane l).keys = (s.lane l).keys ∧ OnlyLane l s { t with sec := s.sec } ∧ t.sec.tap = List.replicate 32 0) ∧
      (slotNamed slot.toNat = false → Gives (.keyload l slot key) s fun t => (t.lane l).slotInvalid = true ∧ (t.lane l).keyNv = (s.lane l).keyNv) ∧
      (Gives (.keyset l id) s fun t => t = s.setLane l { s.lane l with keysetId := id }) ∧
      (slotNamed slot.toNat = true → Gives (.kcv l slot) s fun t => t = { s with sec := { s.sec with
        tap := checkValue (Store.get (fun _ => none) (s.lane l).keyNv slot.toNat) } }) ∧
      (ses ≠ 0 → Gives (.hxkeyload ses snd rcv) s fun t =>
        Store.get (fun _ => none) t.sec.hxKeysNv (2 * ses.toNat) = some snd ∧ Store.get (fun _ => none) t.sec.hxKeysNv (2 * ses.toNat + 1) = some rcv ∧
        t.sec.hxKeys = s.sec.hxKeys ∧ t = { s with sec := { s.sec with hxKeysNv := t.sec.hxKeysNv } })) ∧
    (keyEntry s = false → exec (.keyload l slot key) s = .next s ∧ exec (.keyset l id) s = .next s ∧ exec (.kcv l slot) s = .next s ∧
      exec (.hxkeyload ses snd rcv) s = .next s) ∧
    (s.sec.attNext < attLimit → Gives .quote s fun t => t.fb SEC_ATTEST_STAT_BUSY = true ∧ RegsButSame [SEC_ATTEST_STAT] s t ∧ t = { s with regs := t.regs }) ∧
    (s.fb SEC_ATTEST_STAT_BUSY = true → s.sec.attNext < attLimit → Gives .quoteDone s fun t => t.sec.attNext = s.sec.attNext + 1 ∧
      t.fb SEC_ATTEST_STAT_BUSY = false ∧ (s.sec.attNext < s.sec.attReserved → t.sec.attReserved = s.sec.attReserved) ∧
      (s.sec.attNext = s.sec.attReserved → t.sec.attReserved = s.sec.attNext + 64)) ∧
    (Gives .secStartGo s fun t => t.fb SEC_STATUS_START_GIVEN = true ∧ RegsButSame [SEC_STATUS] s t ∧ t = { s with regs := t.regs }) ∧
    (Gives .commitReq s fun t => t = { s with sec := { s.sec with commitReq := true } }) ∧
    (s.mode = .service → lcState s = 4 →
      (Gives .endService s fun t => Boots s t .mgtRestart ∧ t.sec.exits = s.sec.exits + 1) ∧
      (s.fb SEC_STATUS_SERVICE_EN = false → Gives .serviceEnTimeout s fun t => Boots s t .mgtRestart ∧ t.sec.exits = s.sec.exits + 1)) ∧
    (s.mode ≠ .service → exec .endService s = .next s) ∧ (s.fb SEC_STATUS_SERVICE_EN = true → exec .serviceEnTimeout s = .next s)

/-! ### Assay, check values, recorder -/

/-- R369 to R373: a due slice starts at its tick, or waits where its item is deferred; while the unit's rotation does not run nothing starts. R375 to R378: a
slice that ends shows its four result words; a PASS takes the rotation to the next item and touches nothing else; a FAIL in a lane's SRAM or logic
withdraws the lane, one in FX takes a memory's spare into use or names the SerDes. R375, R379: a late rotation is told; a manual BIST runs outside ACTIVE
and STANDBY alone, stops every thread, and ends in a module reset with its result kept. Item numbers, stagger and deferral counts are choices of the model
(log entry 41), the stop of threads a reading (log entry 42). -/
def Obligations.Assay : Prop :=
  (∀ (u : AssayUnit) (s : State),
     (unitRuns s u = true → (s.asy u).running = none → (u = .fx → assayNext s u < 384 ∨ serdesIdle s (assayNext s u - 384) = true) →
       assayTick u (assayNext s u) s.time.tick = true → assayDue s u = true →
       (deferred s u = false → Gives (.assaySliceStart u) s fun t => (t.asy u).running = some (assayNext s u) ∧ (t.asy u).lastE = some (assayStamp s u) ∧
         (t.asy u).waits = false ∧ (∀ v, v ≠ u → t.asy v = s.asy v) ∧ t = { s with regs := t.regs, ast := t.ast }) ∧
       (deferred s u = true → Gives (.assaySliceStart u) s fun t => (t.asy u).running = none ∧ (t.asy u).waits = true ∧
         (∀ v, v ≠ u → t.asy v = s.asy v) ∧ t = { s with regs := t.regs, ast := t.ast })) ∧
     ((s.asy u).running ≠ none → unitRuns s u = false → exec (.assaySliceStart u) s = .next s)) ∧
  (∀ (u : AssayUnit) (i : Nat) (o : SliceOut) (s : State),
     ((s.asy u).running = none → exec (.assaySliceEnd u o) s = .next s) ∧
     ((s.asy u).running = some i → o.ecc = false →
       (slicePass u i o = true → Gives (.assaySliceEnd u o) s fun t => (t.asy u).running = none ∧ assayNext t u % 1024 = (itemAfter s u i).getD 0 % 1024 ∧
         (∀ n, n < 4 → t.rd (resultKey u n) = (resultWords s u i ⟨1, false, 0, o.signature, o.patterns, o.us⟩).getD n 0) ∧
         t.lanes = s.lanes ∧ t.ixGates = s.ixGates ∧ t.mode = s.mode ∧ t.mmem = s.mmem ∧ t.sec = s.sec ∧ ∀ v, v ≠ u → t.asy v = s.asy v) ∧
       (slicePass u i o = false → (u = .fx → Gives (.assaySliceEnd u o) s fun t =>
         (i < 384 → natBit t.fxSpare (fxMemory i) = true) ∧ (384 ≤ i → i < 404 → natBit (t.fv AST_SERDES_FAIL) (i - 384) = true) ∧
         (s.alive = true → t.fv (PIC_COUNT_COUNT .mgmt 99) = oneMore s .mgmt 99) ∧ t.lanes = s.lanes ∧ t.mode = s.mode)) ∧
       (slicePass u i o = false → ∀ l, (u = .sram l ∨ u = .logic l) → (s.lane l).st = .starting ∨ (s.lane l).st = .voting → Gives (.assaySliceEnd u o) s fun t =>
         Withdrawn t l .assayFail ∧ MemsSame s t ∧
         ∀ n, n < 4 → t.rd (resultKey u n) = (resultWords s u i ⟨2, false, 0, o.signature, o.patterns, o.us⟩).getD n 0) ∧
       (slicePass u i o = false → ∀ l, u = .ix l → Gives (.assaySliceEnd u o) s fun t => (t.asy u).running = none ∧ t.lanes = s.lanes ∧ t.mode = s.mode ∧
         (s.alive = true → t.fv (PIC_COUNT_COUNT .mgmt 100) = oneMore s .mgmt 100) ∧
         ∀ n, n < 4 → t.rd (resultKey u n) = (resultWords s u i ⟨2, false, 0, o.signature, o.patterns, o.us⟩).getD n 0)) ∧
     (∀ l, u = .sram l → (s.asy u).running = some i → o.ecc = true → (s.lane l).st = .starting ∨ (s.lane l).st = .voting →
       Gives (.assaySliceEnd u o) s fun t => Withdrawn t l .eccUncorr ∧ MemsSame s t)) ∧
  (∀ (u : AssayUnit) (ok : Bool) (die : BitVec 3) (s : State),
     (s.pwr.power = .run → Gives (.assayRotationLate u) s fun t => (match u with
         | .sram l => t.fb (AST_LANE_STATUS_SRAM_LATE l) = true
         | .logic l => t.fb (AST_LANE_STATUS_LOGIC_LATE l) = true
         | .ix l => t.fb (AST_LANE_STATUS_IX_LATE l) = true
         | .fx => t.fb AST_STATUS_FX_LATE = true) ∧
       t.fv (PIC_COUNT_COUNT .mgmt 102) = oneMore s .mgmt 102 ∧ t.lanes = s.lanes ∧ t.ast = s.ast ∧ t.mode = s.mode) ∧
     (manOk s = true → s.fb AST_MAN_STAT_BUSY = false → Gives .manualBistStart s fun t => t.fb AST_MAN_STAT_BUSY = true ∧
       (∀ th, (t.thread th).run = .stopped) ∧ (∀ v, (t.asy v).running = none) ∧ MemsSame s t ∧ t.mode = s.mode) ∧
     (manOk s = false → s.pwr.power = .run → s.fb AST_MAN_STAT_BUSY = false → Gives .manualBistStart s fun t =>
       t.fv AST_MAN_STAT_REFUSED = bumped s AST_MAN_STAT_REFUSED ∧ t.lanes = s.lanes ∧ t.ast = s.ast ∧ t.mode = s.mode) ∧
     (s.fb AST_MAN_STAT_BUSY = true → exec .manualBistStart s = .next s ∧ Gives (.manualBistEnd ok die) s fun t => Boots s t .mgtRestart ∧
       t.fv AST_MAN_STAT_RESULT = (if ok then 1 else 2) ∧ t.fv AST_MAN_STAT_FAIL_DIE = (if ok then 0 else die.toNat)) ∧
     (s.fb AST_MAN_STAT_BUSY = false → exec (.manualBistEnd ok die) s = .next s))

/-- R383 to R386: a unit feeds a word most significant byte first, or a byte, into its running value; INIT loads the algorithm's start value; a scan runs over
its range and leaves the value of the bytes it has taken; while it runs, writes are ignored with CTX_ERR. That a scan reads memory as it stands at its end
is a choice of the model (log entry 43). -/
def Obligations.CheckValueUnits : Prop :=
  ∀ (e : Engine) (u : BitVec 2) (w : Word) (b : BitVec 8) (n : Nat) (s : State),
    let ctl := CVU_CTRL e u.toNat
    let ran := fun (t : State) (bs : List Byte) => cvuRun t e u.toNat = cvuFeed (cvuPoly s e u.toNat) (cvuRun s e u.toNat) bs
    cvuOn s e = true →
    (s.fb (CVU_CTRL_RUN e u.toNat) = false →
      (Gives (.cvuDataW e u w) s fun t => ran t (beBytes 4 w.toNat) ∧ RegsButSame [CVU_RUN_LO e u.toNat, CVU_RUN_HI e u.toNat] s t ∧ t = { s with regs := t.regs }) ∧
      (Gives (.cvuDataB e u b) s fun t => ran t [b] ∧ RegsButSame [CVU_RUN_LO e u.toNat, CVU_RUN_HI e u.toNat] s t ∧ t = { s with regs := t.regs }) ∧
      (w.getLsbD 30 = false → w.getLsbD 31 = false → Gives (.cvuInit e u w) s fun t => cvuPoly t e u.toNat = getBits w 1 0 ∧
        cvuRun t e u.toNat = cvuInit (getBits w 1 0) ∧ t.fb (CVU_CTRL_RUN e u.toNat) = false ∧
        RegsButSame [ctl, CVU_RUN_LO e u.toNat, CVU_RUN_HI e u.toNat] s t ∧ t = { s with regs := t.regs }) ∧
      (w.getLsbD 30 = false → w.getLsbD 29 = false → s.fv (CVU_LEN_LENGTH e u.toNat) ≠ 0 →
        (scanRangeOk (ctrlSet s e u.toNat w) e u.toNat = true → Gives (.cvuScanStart e u w) s fun t => t.fb (CVU_CTRL_RUN e u.toNat) = true ∧
          cvuPoly t e u.toNat = getBits w 1 0 ∧ t.fv (CVU_CTRL_RGN e u.toNat) = getBits w 23 20 ∧ RegsButSame [ctl] s t ∧ t = { s with regs := t.regs }) ∧
        (scanRangeOk (ctrlSet s e u.toNat w) e u.toNat = false → Gives (.cvuScanStart e u w) s fun t => t.fb (CVU_CTRL_RUN e u.toNat) = false ∧
          t.fb (CVU_STAT_ERR e u.toNat) = true ∧ MemsSame s t))) ∧
    (s.fb (CVU_CTRL_RUN e u.toNat) = true →
      (Gives (.cvuDataW e u w) s fun t => t.fb (CVU_STAT_CTX_ERR e u.toNat) = true ∧ RegsButSame [CVU_STAT e u.toNat] s t ∧ t = { s with regs := t.regs }) ∧
      (Gives (.cvuScanEnd e u false) s fun t => ran t (scanBytes s e u.toNat (s.fv (CVU_LEN_LENGTH e u.toNat))) ∧ t.fb (CVU_CTRL_RUN e u.toNat) = false ∧
        t.fb (CVU_STAT_DONE e u.toNat) = true ∧ t.fv (CVU_LEN_LENGTH e u.toNat) = 0 ∧ t = { s with regs := t.regs }) ∧
      (n < s.fv (CVU_LEN_LENGTH e u.toNat) → Gives (.cvuAbort e u n) s fun t => ran t (scanBytes s e u.toNat n) ∧ t.fb (CVU_CTRL_RUN e u.toNat) = false ∧
        t.fb (CVU_STAT_ABORTED e u.toNat) = true ∧ t.fv (CVU_LEN_LENGTH e u.toNat) = s.fv (CVU_LEN_LENGTH e u.toNat) - n ∧ t = { s with regs := t.regs }) ∧
      (s.fv (CVU_LEN_LENGTH e u.toNat) ≤ n → Gives (.cvuAbort e u n) s fun t => t.fb (CVU_STAT_DONE e u.toNat) = true ∧ t.fb (CVU_CTRL_RUN e u.toNat) = false) ∧
      (∀ l, e = .lane l → (s.lane l).st = .starting ∨ (s.lane l).st = .voting → Gives (.cvuScanEnd e u true) s fun t => t.fb (CVU_STAT_ERR e u.toNat) = true ∧
        Withdrawn t l .eccUncorr ∧ MemsSame s t))

/-- R387 to R394: an event leaves the queue for the slot its number selects, byte for byte as a record stands there, and no other slot changes; a write that
fails is counted. A read answers the record, NOT_HELD, or TORN; after the erase every slot but slot 0 without a valid record has lost its touchmark. What
the erase leaves is a choice of the model (log entry 31). -/
def Obligations.EventRecorder : Prop :=
  ∀ (hi : BitVec 16) (s : State),
    (∀ e r, s.recorder.queue = e :: r → s.recorder.lost = none → s.recorder.nextSeq < 2 ^ 48 → lapDue s = false → Gives (.recordWrite true) s fun t =>
      recSlot t (slotOfSeq s s.recorder.nextSeq) = recordImage s.recorder.nextSeq e ∧ recNewest t = s.recorder.nextSeq ∧
      t.recorder.nextSeq = s.recorder.nextSeq + 1 ∧ t.recorder.queue = r ∧ (∀ n, n ≠ slotOfSeq s s.recorder.nextSeq → recSlot t n = recSlot s n) ∧
      t.lanes = s.lanes ∧ t.mode = s.mode) ∧
    (∀ e r, s.recorder.queue = e :: r → Gives (.recordWrite false) s fun t => t.recorder.store = s.recorder.store ∧ t.fb REC_STATUS_STORE_FAULT = true ∧
      t.fv REC_CNT_LOST = bumped s REC_CNT_LOST ∧ t.recorder.nextSeq = s.recorder.nextSeq ∧ t.lanes = s.lanes) ∧
    (s.recorder.queue = [] → ∀ ok, exec (.recordWrite ok) s = .next s) ∧
    (serviceAllows s = true → Gives (.recRead hi) s fun t => t.fv REC_RD_SEQ_HI_SEQ_HI = hi.toNat ∧ t.fb REC_RD_STAT_BUSY = true ∧
      t.recorder.readBusy = true ∧ RegsButSame [REC_RD_SEQ_HI, REC_RD_STAT] s t) ∧
    (s.recorder.readBusy = true → Gives .recReadDone s fun t => t.fb REC_RD_STAT_BUSY = false ∧ t.recorder.readBusy = false ∧ t.recorder.store = s.recorder.store ∧
      (seqHeld s (readSeq s) = false → t.fv REC_RD_STAT_RESULT = 1) ∧
      (seqHeld s (readSeq s) = true → slotValid s (slotOfSeq s (readSeq s)) = true → seqOf (recSlot s (slotOfSeq s (readSeq s))) = readSeq s →
        t.fv REC_RD_STAT_RESULT = 0 ∧ ∀ k, k < 16 → t.rd (REC_RD_DATA k) = BitVec.ofNat 32 (bytesAt (recSlot s (slotOfSeq s (readSeq s))) (4 * k) 4)) ∧
      (seqHeld s (readSeq s) = true → slotValid s (slotOfSeq s (readSeq s)) = false → t.fv REC_RD_STAT_RESULT = 2 ∧
        t.fv REC_CNT_TORN = bumped s REC_CNT_TORN)) ∧
    (s.recorder.erasing = true → Gives .recEraseDone s fun t => t.recorder.erasing = false ∧ t.fb REC_STATUS_ERASING = false ∧
      ∀ n, (slotValid s n = true → recSlot t n = recSlot s n) ∧ (n ≠ 0 → slotValid s n = false → recSlot t n = (recSlot s n).take 60))

/-- R386: a scan of length 0 completes at once with DONE set and the running value unchanged, and raises the completion source; whatever its range names. -/
def Obligations.EmptyScan : Prop :=
  ∀ (e : Engine) (u : BitVec 2) (w : Word) (s : State), cvuOn s e = true → s.fb (CVU_CTRL_RUN e u.toNat) = false →
    s.fv (CVU_LEN_LENGTH e u.toNat) = 0 → w.getLsbD 30 = false → w.getLsbD 29 = false →
    let src := match e with | .lane _ => 18 | .mgmt => 24 + u.toNat
    Gives (.cvuScanStart e u w) s fun t => t.fb (CVU_STAT_DONE e u.toNat) = true ∧ t.fb (CVU_CTRL_RUN e u.toNat) = false ∧
      t.rd (CVU_RUN_LO e u.toNat) = s.rd (CVU_RUN_LO e u.toNat) ∧ t.rd (CVU_RUN_HI e u.toNat) = s.rd (CVU_RUN_HI e u.toNat) ∧
      t.fv (PIC_COUNT_COUNT e src) = oneMore s e src ∧ RegsButSame [CVU_CTRL e u.toNat, CVU_STAT e u.toNat, CVU_START e u.toNat, PIC_COUNT e src] s t ∧
      t = { s with regs := t.regs }

/-- R390: a record due into slot 65,536 with k of 2,097,152 or more begins a lap: a WRAP record with the lap number and the SEQ of the oldest record it
overwrites goes there, the due record into slot 65,537, and source 89 is raised. -/
def Obligations.RecorderLap : Prop :=
  ∀ (e : Event) (r : List Event) (s : State), s.alive = true → s.recorder.queue = e :: r → s.recorder.lost = none →
    s.recorder.nextSeq + 1 < 2 ^ 48 → s.fv REC_LAP_LAP + 1 < 2 ^ 32 →
    slotOfSeq s s.recorder.nextSeq = 65536 → 2097152 ≤ s.recorder.nextSeq - recClr s →
    Gives (.recordWrite true) s fun t =>
      (∃ w : Event, w.src = 0x0D ∧ w.code = 0x02 ∧ recSlot t 65536 = recordImage s.recorder.nextSeq w ∧
        w.data.take 10 = beBytes 4 (s.fv REC_LAP_LAP + 1) ++ beBytes 6 (s.recorder.nextSeq - wrapLen)) ∧
      recSlot t 65537 = recordImage (s.recorder.nextSeq + 1) e ∧ t.fv REC_LAP_LAP = s.fv REC_LAP_LAP + 1 ∧
      t.recorder.nextSeq = s.recorder.nextSeq + 2 ∧ t.fv (PIC_COUNT_COUNT .mgmt 89) = oneMore s .mgmt 89

/-! ### Reset and the canonical form -/

/-- R19, R20: right after reset the module is in BOOT, every lane is OFF, no network conducts, nothing is in the memories, which are in canonical form. That
the memories list nothing is a choice of the model (log entry 3). -/
def Obligations.ResetState : Prop :=
  State.reset.mode = .boot ∧ (∀ l, (State.reset.lane l).st = .off ∧ (State.reset.lane l).mem = []) ∧ DeEnergised State.reset ∧
  State.reset.fb PAIR_STATUS_MREQ = false ∧ State.reset.mmem = [] ∧ State.reset.pending = [] ∧ MemsWf State.reset

/-- The memories of the lanes, MMEM and NOR keep their canonical form at every step. That the model holds a memory as a list of bytes in canonical form is the
model's choice (log entry 1 names what a step is). -/
def Obligations.StepKeepsMemsWf : Prop :=
  ∀ (s t : State), MemsWf s → step s = .next t → MemsWf t

/-- No command touches the queue: what waits behind the command in front still waits, in its order, after the step. The queue is the model's (log entry 1). -/
def Obligations.StepKeepsQueue : Prop :=
  ∀ (c : Instr) (q : List Instr) (s t : State), s.pending = c :: q → step s = .next t → t.pending = q
end

