-- ==== Sys2Proof/Laws/Bits.lean ====
section
/-!
SUPPORT. The laws of register fields: what a field reads after a field of the same register is set.
-/

namespace Sys2Proof.Machine

theorem getBits_lt (w : Word) (hi lo : Nat) : getBits w hi lo < 2 ^ (hi + 1 - lo) := Nat.mod_lt _ (Nat.two_pow_pos _)

theorem fieldMask_testBit {hi lo i : Nat} (hi' : i < 32) :
    (fieldMask hi lo).getLsbD i = (decide (lo ≤ i) && decide (i ≤ hi)) := by
  have h1 : (2 ^ (hi + 1 - lo) - 1) * 2 ^ lo = (2 ^ (hi + 1 - lo) - 1) <<< lo := by rw [Nat.shiftLeft_eq]
  simp only [fieldMask, BitVec.getLsbD_ofNat, h1, Nat.testBit_shiftLeft, Nat.testBit_two_pow_sub_one, hi', decide_true, Bool.true_and]
  by_cases ha : lo ≤ i <;> by_cases hb : i ≤ hi <;> simp [ha, hb] <;> omega

theorem getBits_testBit (w : Word) (hi lo i : Nat) :
    (getBits w hi lo).testBit i = (decide (i < hi + 1 - lo) && w.getLsbD (i + lo)) := by
  simp only [getBits, Nat.testBit_mod_two_pow, Nat.testBit_div_two_pow, BitVec.getLsbD]

/-- The field set reads what was written, mod its size. -/
theorem getBits_setBits (w : Word) {hi lo : Nat} (v : Nat) (hl : lo ≤ hi) (hh : hi < 32) :
    getBits (setBits w hi lo v) hi lo = v % 2 ^ (hi + 1 - lo) := by
  apply Nat.eq_of_testBit_eq
  intro i
  rw [getBits_testBit, Nat.testBit_mod_two_pow]
  by_cases h : i < hi + 1 - lo
  · have hi32 : i + lo < 32 := by omega
    have h2 : v % 2 ^ (hi + 1 - lo) * 2 ^ lo = (v % 2 ^ (hi + 1 - lo)) <<< lo := by rw [Nat.shiftLeft_eq]
    have h3 : lo ≤ i + lo ∧ i + lo ≤ hi := by omega
    simp only [setBits, BitVec.getLsbD_or, BitVec.getLsbD_and, BitVec.getLsbD_not, fieldMask_testBit hi32, BitVec.getLsbD_ofNat, h2,
      Nat.testBit_shiftLeft, Nat.testBit_mod_two_pow, h, hi32, h3, decide_true, Bool.true_and, Bool.and_true, Bool.not_true,
      Bool.and_false, Bool.false_or, Nat.add_sub_cancel]
  · simp [h]

/-- A field apart from the one set reads what it did. -/
theorem getBits_setBits_apart (w : Word) {hi lo h2 l2 : Nat} (v : Nat) (hk : h2 < 32)
    (ha : h2 < lo ∨ hi < l2) : getBits (setBits w hi lo v) h2 l2 = getBits w h2 l2 := by
  apply Nat.eq_of_testBit_eq
  intro i
  rw [getBits_testBit, getBits_testBit]
  by_cases h : i < h2 + 1 - l2
  · have hi32 : i + l2 < 32 := by omega
    have hv : v % 2 ^ (hi + 1 - lo) * 2 ^ lo = (v % 2 ^ (hi + 1 - lo)) <<< lo := by rw [Nat.shiftLeft_eq]
    simp only [setBits, BitVec.getLsbD_or, BitVec.getLsbD_and, BitVec.getLsbD_not, fieldMask_testBit hi32, BitVec.getLsbD_ofNat, hv,
      Nat.testBit_shiftLeft, Nat.testBit_mod_two_pow, h, hi32, decide_true, Bool.true_and]
    rcases ha with ha | ha
    · have : ¬ lo ≤ i + l2 := by omega
      simp [this]
    · have h4 : ¬ i + l2 ≤ hi := by omega
      have h5 : ¬ i + l2 - lo < hi + 1 - lo := by omega
      simp [h4, h5]
  · simp [h]

end Sys2Proof.Machine
end

