-- ==== Sys2Proof/Laws/Store.lean ====
section
/-!
SUPPORT. The laws of the sparse tables: a read after a write, and that every operation keeps the canonical form.
-/

namespace Sys2Proof.Machine

theorem Store.get_above {α : Type} (d : Nat → α) (m : Store α) (k j : Nat) :
    Store.get d (Store.above k m) j = if j ≤ k then d j else Store.get d m j := by
  induction m with
  | nil => simp [Store.above, Store.get]
  | cons p r ih =>
    obtain ⟨a, v⟩ := p
    simp only [Store.above]
    by_cases h : a ≤ k
    · simp only [h, if_true, ih]
      split
      · rfl
      · rw [Store.get, if_neg (by omega), if_neg (by omega)]
    · simp only [h, if_false, Store.get]
      split <;> split <;> (try split) <;> first | rfl | omega

/-- A read after a write: the value at the key written, what was there at every other key. -/
theorem Store.get_put {α : Type} [DecidableEq α] (d : Nat → α) (m : Store α) (k j : Nat) (v : α) :
    Store.get d (Store.put d m k v) j = if j = k then v else Store.get d m j := by
  induction m with
  | nil =>
    simp only [Store.put]
    by_cases hv : v = d k <;> by_cases hj : j = k <;> simp_all [Store.get]
  | cons p r ih =>
    obtain ⟨a, w⟩ := p
    simp only [Store.put]
    by_cases h1 : k < a
    · simp only [h1, if_true]
      by_cases hv : v = d k
      · subst hv; simp only [if_true]
        by_cases hj : j = k
        · subst hj; rw [if_pos rfl, Store.get, if_neg (by omega), if_pos h1]
        · rw [if_neg hj]
      · simp only [hv, if_false]
        rw [Store.get]
        by_cases hj : j = k
        · simp [hj]
        · simp only [hj, if_false]
          split
          · rw [Store.get, if_neg (by omega), if_pos (by omega)]
          · rfl
    · simp only [h1, if_false]
      by_cases h2 : k = a
      · subst h2
        simp only [if_true]
        by_cases hv : v = d k
        · simp only [hv, if_true, Store.get_above]
          by_cases hj : j = k
          · simp [hj]
          · rw [if_neg hj, Store.get, if_neg hj]
            split <;> split <;> first | rfl | omega
        · simp only [hv, if_false]
          rw [Store.get, Store.get, Store.get_above]
          by_cases hj : j = k
          · simp [hj]
          · simp only [hj, if_false]
            split
            · rfl
            · rw [if_neg (by omega)]
      · simp only [h2, if_false, Store.get]
        by_cases hj : j = a
        · subst hj; rw [if_pos rfl, if_neg (by omega), if_pos rfl]
        · simp only [hj, if_false, ih]
          by_cases hl : j < a
          · simp only [hl, if_true]; rw [if_neg (by omega)]
          · simp only [hl, if_false]

@[simp] theorem Store.get_put_self {α : Type} [DecidableEq α] (d : Nat → α) (m : Store α) (k : Nat) (v : α) :
    Store.get d (Store.put d m k v) k = v := by rw [Store.get_put, if_pos rfl]

theorem Store.get_put_ne {α : Type} [DecidableEq α] (d : Nat → α) (m : Store α) {k j : Nat} (v : α) (h : j ≠ k) :
    Store.get d (Store.put d m k v) j = Store.get d m j := by rw [Store.get_put, if_neg h]

theorem Store.wfFrom_mono {α : Type} [DecidableEq α] (d : Nat → α) {a b : Nat} (h : a ≤ b) (m : Store α)
    (hm : Store.wfFrom d b m = true) : Store.wfFrom d a m = true := by
  cases m with
  | nil => rfl
  | cons p r =>
    obtain ⟨k, v⟩ := p
    simp only [Store.wfFrom, Bool.and_eq_true, decide_eq_true_eq] at hm ⊢
    exact ⟨⟨by omega, hm.1.2⟩, hm.2⟩

theorem Store.above_wf {α : Type} [DecidableEq α] (d : Nat → α) (k : Nat) (m : Store α) (a : Nat)
    (hm : Store.wfFrom d a m = true) : Store.wfFrom d (k + 1) (Store.above k m) = true := by
  induction m generalizing a with
  | nil => rfl
  | cons p r ih =>
    obtain ⟨b, v⟩ := p
    simp only [Store.wfFrom, Bool.and_eq_true, decide_eq_true_eq] at hm
    simp only [Store.above]
    split
    · exact ih (b + 1) hm.2
    · simp only [Store.wfFrom, Bool.and_eq_true, decide_eq_true_eq]
      exact ⟨⟨by omega, hm.1.2⟩, hm.2⟩

theorem Store.put_wfFrom {α : Type} [DecidableEq α] (d : Nat → α) (m : Store α) (k : Nat) (v : α) (a : Nat) (ha : a ≤ k)
    (hm : Store.wfFrom d a m = true) : Store.wfFrom d a (Store.put d m k v) = true := by
  induction m generalizing a with
  | nil =>
    simp only [Store.put]
    split
    · rfl
    · next hv => simp [Store.wfFrom, ha, hv]
  | cons p r ih =>
    obtain ⟨b, w⟩ := p
    have hm' := hm
    simp only [Store.wfFrom, Bool.and_eq_true, decide_eq_true_eq] at hm
    simp only [Store.put]
    split
    · split
      · exact hm'
      · next hv => simp [Store.wfFrom, ha, hv, hm.1.2, hm.2]; omega
    · split
      · next hk =>
        subst hk
        split
        · exact Store.wfFrom_mono d (by omega) _ (Store.above_wf d k r (k + 1) hm.2)
        · next hv => simp [Store.wfFrom, ha, hv, Store.above_wf d k r (k + 1) hm.2]
      · simp only [Store.wfFrom, Bool.and_eq_true, decide_eq_true_eq]
        exact ⟨⟨hm.1.1, hm.1.2⟩, ih (b + 1) (by omega) hm.2⟩

/-- A write keeps the canonical form. -/
theorem Store.put_wf {α : Type} [DecidableEq α] (d : Nat → α) (m : Store α) (k : Nat) (v : α) (hm : Store.wf d m = true) :
    Store.wf d (Store.put d m k v) = true := Store.put_wfFrom d m k v 0 (Nat.zero_le k) hm

/-- So does a run of writes. -/
theorem Store.putList_wf {α : Type} [DecidableEq α] (d : Nat → α) (vs : List α) (m : Store α) (k : Nat) (hm : Store.wf d m = true) :
    Store.wf d (Store.putList d m k vs) = true := by
  induction vs generalizing m k with
  | nil => exact hm
  | cons v r ih => exact ih _ _ (Store.put_wf d m k v hm)

/-- A run of writes leaves every other key. -/
theorem Store.get_putList_apart {α : Type} [DecidableEq α] (d : Nat → α) (vs : List α) (m : Store α) (k j : Nat) (h : j < k ∨ k + vs.length ≤ j) :
    Store.get d (Store.putList d m k vs) j = Store.get d m j := by
  induction vs generalizing m k with
  | nil => rfl
  | cons v r ih =>
    rw [List.length_cons] at h
    rw [Store.putList, ih _ _ (by omega)]
    exact Store.get_put_ne d m v (by omega)

/-- It reads back. -/
theorem Store.get_putList {α : Type} [DecidableEq α] (d : Nat → α) (vs : List α) (m : Store α) (k i : Nat) (h : i < vs.length) :
    Store.get d (Store.putList d m k vs) (k + i) = vs[i] := by
  induction vs generalizing m k i with
  | nil => simp at h
  | cons v r ih =>
    rw [Store.putList]
    cases i with
    | zero => rw [Store.get_putList_apart d r _ _ _ (by omega)]; simp
    | succ i =>
      rw [show k + (i + 1) = k + 1 + i by omega, ih _ _ i (by simpa using h)]
      simp

@[simp] theorem Store.length_getList {α : Type} (d : Nat → α) (m : Store α) (k n : Nat) : (Store.getList d m k n).length = n := by
  induction n generalizing k with
  | zero => rfl
  | succ n ih => simp [Store.getList, ih]

theorem Store.getElem_getList {α : Type} (d : Nat → α) (m : Store α) (k n i : Nat) (h : i < (Store.getList d m k n).length) :
    (Store.getList d m k n)[i] = Store.get d m (k + i) := by
  induction n generalizing k i with
  | zero => simp at h
  | succ n ih =>
    cases i with
    | zero => rfl
    | succ i =>
      simp only [Store.getList, List.getElem_cons_succ]
      rw [ih _ _ (by simpa [Store.getList] using h), show k + 1 + i = k + (i + 1) by omega]

/-- A run of values reads back as a run. -/
theorem Store.getList_putList {α : Type} [DecidableEq α] (d : Nat → α) (vs : List α) (m : Store α) (k : Nat) :
    Store.getList d (Store.putList d m k vs) k vs.length = vs := by
  refine List.ext_getElem (by simp) fun i h1 h2 => ?_
  rw [Store.getElem_getList, Store.get_putList d vs m k i h2]

/-! ### Runs, blocks and replacements -/

theorem Store.run_cons {α : Type} [DecidableEq α] (d : Nat → α) (k : Nat) (v : α) (vs : List α) :
    Store.run d k (v :: vs) = (if v = d k then [] else [(k, v)]) ++ Store.run d (k + 1) vs := by
  simp only [Store.run, List.zipIdx_cons, List.filterMap_cons]
  split <;> simp_all

/-- A run is canonical and lies in its own span. -/
theorem Store.run_wfFrom {α : Type} [DecidableEq α] (d : Nat → α) (vs : List α) (k : Nat) :
    Store.wfFrom d k (Store.run d k vs) = true ∧ ∀ p ∈ Store.run d k vs, p.1 < k + vs.length := by
  induction vs generalizing k with
  | nil => simp [Store.run, Store.wfFrom]
  | cons v vs ih =>
    obtain ⟨h1, h2⟩ := ih (k + 1)
    rw [Store.run_cons]
    by_cases hv : v = d k
    · refine ⟨by simpa [hv] using Store.wfFrom_mono d (Nat.le_succ k) _ h1, fun p hp => ?_⟩
      have := h2 p (by simpa [hv] using hp)
      simp only [List.length_cons]
      omega
    · simp only [hv, if_false, List.cons_append, List.nil_append, Store.wfFrom, h1, List.length_cons]
      refine ⟨by simp [hv], fun p hp => ?_⟩
      rcases List.mem_cons.1 hp with rfl | hp
      · simp only
        omega
      · have := h2 p hp
        omega

/-- Two canonical tables, one below the other. -/
theorem Store.wfFrom_append {α : Type} [DecidableEq α] (d : Nat → α) (x y : Store α) (lo b : Nat) (hb : lo ≤ b)
    (hx : Store.wfFrom d lo x = true) (hk : ∀ p ∈ x, p.1 < b) (hy : Store.wfFrom d b y = true) : Store.wfFrom d lo (x ++ y) = true := by
  induction x generalizing lo with
  | nil => exact Store.wfFrom_mono d hb y hy
  | cons p r ih =>
    obtain ⟨k, v⟩ := p
    simp only [Store.wfFrom, Bool.and_eq_true, decide_eq_true_eq, List.cons_append] at hx ⊢
    exact ⟨hx.1, ih (k + 1) (hk _ (List.mem_cons_self ..)) hx.2 fun q hq => hk q (List.mem_cons_of_mem _ hq)⟩

/-- Blocks of `w` keys, one after another from `a` on. -/
theorem Store.blocks_wfFrom {α : Type} [DecidableEq α] (d : Nat → α) (f : Nat → Store α) (a w n : Nat)
    (h : ∀ i, Store.wfFrom d (a + w * i) (f i) = true ∧ ∀ p ∈ f i, p.1 < a + w * (i + 1)) :
    Store.wfFrom d a ((List.range n).flatMap f) = true ∧ ∀ p ∈ (List.range n).flatMap f, p.1 < a + w * n := by
  induction n with
  | zero => simp [Store.wfFrom]
  | succ n ih =>
    rw [List.range_succ, List.flatMap_append, List.flatMap_singleton]
    refine ⟨Store.wfFrom_append d _ _ a (a + w * n) (Nat.le_add_right ..) ih.1 ih.2 (h n).1, fun p hp => ?_⟩
    rcases List.mem_append.1 hp with hp | hp
    · exact Nat.lt_of_lt_of_le (ih.2 p hp) (by rw [Nat.mul_succ]; omega)
    · exact (h n).2 p hp

theorem Store.filter_lt_wfFrom {α : Type} [DecidableEq α] (d : Nat → α) (m : Store α) (a b : Nat) (hm : Store.wfFrom d a m = true) :
    Store.wfFrom d a (m.filter fun p => decide (p.1 < b)) = true := by
  induction m generalizing a with
  | nil => rfl
  | cons p r ih =>
    obtain ⟨k, v⟩ := p
    simp only [Store.wfFrom, Bool.and_eq_true, decide_eq_true_eq] at hm
    by_cases hk : k < b
    · simp only [List.filter_cons, hk, decide_true, if_true, Store.wfFrom, Bool.and_eq_true, decide_eq_true_eq]
      exact ⟨hm.1, ih _ hm.2⟩
    · simp only [List.filter_cons, hk, decide_false, Bool.false_eq_true, if_false]
      exact Store.wfFrom_mono d (by omega) _ (ih _ hm.2)

theorem Store.filter_ge_wfFrom {α : Type} [DecidableEq α] (d : Nat → α) (m : Store α) (a b : Nat) (hm : Store.wfFrom d a m = true) :
    Store.wfFrom d b (m.filter fun p => decide (b ≤ p.1)) = true := by
  suffices h : ∀ c, c ≤ max a b → Store.wfFrom d c (m.filter fun p => decide (b ≤ p.1)) = true from h b (Nat.le_max_right ..)
  induction m generalizing a with
  | nil => intros; rfl
  | cons p r ih =>
    obtain ⟨k, v⟩ := p
    simp only [Store.wfFrom, Bool.and_eq_true, decide_eq_true_eq] at hm
    intro c hc
    by_cases hk : b ≤ k
    · simp only [List.filter_cons, hk, decide_true, if_true, Store.wfFrom, Bool.and_eq_true, decide_eq_true_eq]
      exact ⟨⟨by omega, hm.1.2⟩, ih _ hm.2 _ (by omega)⟩
    · simp only [List.filter_cons, hk, decide_false, Bool.false_eq_true, if_false]
      exact ih _ hm.2 _ (by omega)

/-- A replacement within its own span keeps the canonical form. -/
theorem Store.replace_wf {α : Type} [DecidableEq α] (d : Nat → α) (m x : Store α) (lo hi : Nat) (hlh : lo ≤ hi) (hm : Store.wf d m = true)
    (hx : Store.wfFrom d lo x = true) (hk : ∀ p ∈ x, p.1 < hi) : Store.wf d (Store.replace m lo hi x) = true := by
  refine Store.wfFrom_append d _ _ 0 hi (Nat.zero_le _)
    (Store.wfFrom_append d _ _ 0 lo (Nat.zero_le _) (Store.filter_lt_wfFrom d m 0 lo hm) (fun p hp => ?_) hx) (fun p hp => ?_)
    (Store.filter_ge_wfFrom d m 0 hi hm)
  · exact of_decide_eq_true (List.mem_filter.1 hp).2
  · rcases List.mem_append.1 hp with hp | hp
    · exact Nat.lt_of_lt_of_le (of_decide_eq_true (List.mem_filter.1 hp).2) hlh
    · exact hk p hp

end Sys2Proof.Machine
end

