-- ==== Sys2Proof/Laws/State.lean ====
section
/-!
SUPPORT. What each update of State reads as, field by field, and the laws of registers, fields and lanes.
-/

namespace Sys2Proof.Machine

/-! ### Registers -/

theorem State.rd_wr (s : State) (k j : Nat) (w : Word) : (s.wr k w).rd j = if j = k then w else s.rd j := Store.get_put ..

@[simp] theorem State.rd_wr_self (s : State) (k : Nat) (w : Word) : (s.wr k w).rd k = w := by rw [State.rd_wr, if_pos rfl]

theorem State.rd_wr_ne (s : State) {k j : Nat} (w : Word) (h : j ≠ k) : (s.wr k w).rd j = s.rd j := by rw [State.rd_wr, if_neg h]

theorem State.rd_setF_ne (s : State) (f : Fld) (v : Nat) {j : Nat} (h : j ≠ f.key) : (s.setF f v).rd j = s.rd j := State.rd_wr_ne s _ h

theorem State.fv_wr_ne (s : State) {k : Nat} (w : Word) (f : Fld) (h : f.key ≠ k) : (s.wr k w).fv f = s.fv f := by
  simp only [State.fv, State.rd_wr_ne s w h]

/-- A field set reads what was written, mod its size. -/
theorem State.fv_setF_self (s : State) (f : Fld) (v : Nat) (hl : f.lo ≤ f.hi) (hh : f.hi < 32) :
    (s.setF f v).fv f = v % 2 ^ (f.hi + 1 - f.lo) := by
  simp only [State.fv, State.setF, State.rd_wr_self, getBits_setBits _ v hl hh]

/-- A field of another register is unchanged. -/
theorem State.fv_setF_ne (s : State) (f g : Fld) (v : Nat) (h : g.key ≠ f.key) : (s.setF f v).fv g = s.fv g := State.fv_wr_ne s _ g h

/-- A field of the same register beside the one set is unchanged. -/
theorem State.fv_setF_apart (s : State) (f g : Fld) (v : Nat) (hk : g.hi < 32) (h : g.hi < f.lo ∨ f.hi < g.lo) :
    (s.setF f v).fv g = s.fv g := by
  by_cases e : g.key = f.key
  · simp only [State.fv, State.setF, e, State.rd_wr_self, getBits_setBits_apart _ v hk h]
  · exact State.fv_setF_ne s f g v e

/-- A flag set reads so. -/
theorem State.fb_setB_self (s : State) (f : Fld) (b : Bool) (hl : f.lo ≤ f.hi) (hh : f.hi < 32) : (s.setB f b).fb f = b := by
  have : 1 < 2 ^ (f.hi + 1 - f.lo) := Nat.one_lt_two_pow (by omega)
  cases b <;> simp [State.fb, State.setB, State.fv_setF_self s f _ hl hh, b2n, Nat.mod_eq_of_lt this]

theorem State.fv_incF_self (s : State) (f : Fld) (k : Nat) (hl : f.lo ≤ f.hi) (hh : f.hi < 32) :
    (s.incF f k).fv f = min (2 ^ (f.hi + 1 - f.lo) - 1) (s.fv f + k) := by
  have : 0 < 2 ^ (f.hi + 1 - f.lo) := Nat.two_pow_pos _
  rw [State.incF, State.fv_setF_self s f _ hl hh, satAdd, Nat.mod_eq_of_lt (by omega)]

theorem State.fv_lt (s : State) (f : Fld) : s.fv f < 2 ^ (f.hi + 1 - f.lo) := getBits_lt ..

/-! ### Lanes -/

theorem PerLane.get_set {α : Type} (p : PerLane α) (l m : Lane) (v : α) : (p.set l v).get m = if m = l then v else p.get m := by
  cases l <;> cases m <;> rfl

@[simp] theorem PerLane.get_all {α : Type} (v : α) (l : Lane) : (PerLane.all v).get l = v := by cases l <;> rfl

theorem State.lane_updLane (s : State) (l m : Lane) (f : LaneSt → LaneSt) :
    (s.updLane l f).lane m = if m = l then f (s.lane l) else s.lane m := PerLane.get_set ..

@[simp] theorem State.lane_updLane_self (s : State) (l : Lane) (f : LaneSt → LaneSt) : (s.updLane l f).lane l = f (s.lane l) := by
  rw [State.lane_updLane, if_pos rfl]

theorem State.lane_updLane_ne (s : State) {l m : Lane} (f : LaneSt → LaneSt) (h : m ≠ l) : (s.updLane l f).lane m = s.lane m := by
  rw [State.lane_updLane, if_neg h]

@[simp] theorem State.lane_wr (s : State) (k : Nat) (w : Word) (l : Lane) : (s.wr k w).lane l = s.lane l := rfl
@[simp] theorem State.lane_setF (s : State) (f : Fld) (v : Nat) (l : Lane) : (s.setF f v).lane l = s.lane l := rfl
@[simp] theorem State.lane_setB (s : State) (f : Fld) (b : Bool) (l : Lane) : (s.setB f b).lane l = s.lane l := rfl
@[simp] theorem State.lane_incF (s : State) (f : Fld) (k : Nat) (l : Lane) : (s.incF f k).lane l = s.lane l := rfl
@[simp] theorem State.lane_drawn (s : State) (l : Lane) : s.drawn.lane l = s.lane l := rfl
@[simp] theorem State.rd_drawn (s : State) (k : Nat) : s.drawn.rd k = s.rd k := rfl
@[simp] theorem State.fv_drawn (s : State) (f : Fld) : s.drawn.fv f = s.fv f := rfl
@[simp] theorem State.rd_updLane (s : State) (l : Lane) (f : LaneSt → LaneSt) (k : Nat) : (s.updLane l f).rd k = s.rd k := rfl
@[simp] theorem State.fv_updLane (s : State) (l : Lane) (f : LaneSt → LaneSt) (g : Fld) : (s.updLane l f).fv g = s.fv g := rfl
@[simp] theorem State.fb_updLane (s : State) (l : Lane) (f : LaneSt → LaneSt) (g : Fld) : (s.updLane l f).fb g = s.fb g := rfl

/-! ### What each update leaves -/

@[simp] theorem State.wr_pending (s : State) (k : Nat) (w : Word) : (s.wr k w).pending = s.pending := rfl
@[simp] theorem State.wr_freeCnt (s : State) (k : Nat) (w : Word) : (s.wr k w).freeCnt = s.freeCnt := rfl
@[simp] theorem State.wr_mode (s : State) (k : Nat) (w : Word) : (s.wr k w).mode = s.mode := rfl
@[simp] theorem State.wr_shadow (s : State) (k : Nat) (w : Word) : (s.wr k w).shadow = s.shadow := rfl
@[simp] theorem State.wr_rdData (s : State) (k : Nat) (w : Word) : (s.wr k w).rdData = s.rdData := rfl
@[simp] theorem State.wr_latch (s : State) (k : Nat) (w : Word) : (s.wr k w).latch = s.latch := rfl
@[simp] theorem State.wr_lanes (s : State) (k : Nat) (w : Word) : (s.wr k w).lanes = s.lanes := rfl
@[simp] theorem State.wr_mgmt (s : State) (k : Nat) (w : Word) : (s.wr k w).mgmt = s.mgmt := rfl
@[simp] theorem State.wr_mmem (s : State) (k : Nat) (w : Word) : (s.wr k w).mmem = s.mmem := rfl
@[simp] theorem State.wr_holds (s : State) (k : Nat) (w : Word) : (s.wr k w).holds = s.holds := rfl
@[simp] theorem State.wr_mbx (s : State) (k : Nat) (w : Word) : (s.wr k w).mbx = s.mbx := rfl
@[simp] theorem State.wr_time (s : State) (k : Nat) (w : Word) : (s.wr k w).time = s.time := rfl
@[simp] theorem State.wr_recorder (s : State) (k : Nat) (w : Word) : (s.wr k w).recorder = s.recorder := rfl
@[simp] theorem State.wr_planDn (s : State) (k : Nat) (w : Word) : (s.wr k w).planDn = s.planDn := rfl
@[simp] theorem State.wr_fx (s : State) (k : Nat) (w : Word) : (s.wr k w).fx = s.fx := rfl
@[simp] theorem State.wr_ixGates (s : State) (k : Nat) (w : Word) : (s.wr k w).ixGates = s.ixGates := rfl
@[simp] theorem State.wr_ix (s : State) (k : Nat) (w : Word) : (s.wr k w).ix = s.ix := rfl
@[simp] theorem State.wr_brk (s : State) (k : Nat) (w : Word) : (s.wr k w).brk = s.brk := rfl
@[simp] theorem State.wr_crowns (s : State) (k : Nat) (w : Word) : (s.wr k w).crowns = s.crowns := rfl
@[simp] theorem State.wr_rings (s : State) (k : Nat) (w : Word) : (s.wr k w).rings = s.rings := rfl
@[simp] theorem State.wr_bridge (s : State) (k : Nat) (w : Word) : (s.wr k w).bridge = s.bridge := rfl
@[simp] theorem State.wr_planReq (s : State) (k : Nat) (w : Word) : (s.wr k w).planReq = s.planReq := rfl
@[simp] theorem State.wr_planIfv (s : State) (k : Nat) (w : Word) : (s.wr k w).planIfv = s.planIfv := rfl
@[simp] theorem State.wr_pair (s : State) (k : Nat) (w : Word) : (s.wr k w).pair = s.pair := rfl
@[simp] theorem State.wr_feed (s : State) (k : Nat) (w : Word) : (s.wr k w).feed = s.feed := rfl
@[simp] theorem State.wr_pwr (s : State) (k : Nat) (w : Word) : (s.wr k w).pwr = s.pwr := rfl
@[simp] theorem State.wr_sec (s : State) (k : Nat) (w : Word) : (s.wr k w).sec = s.sec := rfl
@[simp] theorem State.wr_hex (s : State) (k : Nat) (w : Word) : (s.wr k w).hex = s.hex := rfl
@[simp] theorem State.wr_net (s : State) (k : Nat) (w : Word) : (s.wr k w).net = s.net := rfl
@[simp] theorem State.wr_ast (s : State) (k : Nat) (w : Word) : (s.wr k w).ast = s.ast := rfl
@[simp] theorem State.wr_fxSpare (s : State) (k : Nat) (w : Word) : (s.wr k w).fxSpare = s.fxSpare := rfl
@[simp] theorem State.wr_imgRgn (s : State) (k : Nat) (w : Word) : (s.wr k w).imgRgn = s.imgRgn := rfl

@[simp] theorem State.shWr_pending (s : State) (k : Nat) (w : Word) : (s.shWr k w).pending = s.pending := rfl
@[simp] theorem State.shWr_freeCnt (s : State) (k : Nat) (w : Word) : (s.shWr k w).freeCnt = s.freeCnt := rfl
@[simp] theorem State.shWr_mode (s : State) (k : Nat) (w : Word) : (s.shWr k w).mode = s.mode := rfl
@[simp] theorem State.shWr_regs (s : State) (k : Nat) (w : Word) : (s.shWr k w).regs = s.regs := rfl
@[simp] theorem State.shWr_rdData (s : State) (k : Nat) (w : Word) : (s.shWr k w).rdData = s.rdData := rfl
@[simp] theorem State.shWr_latch (s : State) (k : Nat) (w : Word) : (s.shWr k w).latch = s.latch := rfl
@[simp] theorem State.shWr_lanes (s : State) (k : Nat) (w : Word) : (s.shWr k w).lanes = s.lanes := rfl
@[simp] theorem State.shWr_mgmt (s : State) (k : Nat) (w : Word) : (s.shWr k w).mgmt = s.mgmt := rfl
@[simp] theorem State.shWr_mmem (s : State) (k : Nat) (w : Word) : (s.shWr k w).mmem = s.mmem := rfl
@[simp] theorem State.shWr_holds (s : State) (k : Nat) (w : Word) : (s.shWr k w).holds = s.holds := rfl
@[simp] theorem State.shWr_mbx (s : State) (k : Nat) (w : Word) : (s.shWr k w).mbx = s.mbx := rfl
@[simp] theorem State.shWr_time (s : State) (k : Nat) (w : Word) : (s.shWr k w).time = s.time := rfl
@[simp] theorem State.shWr_recorder (s : State) (k : Nat) (w : Word) : (s.shWr k w).recorder = s.recorder := rfl
@[simp] theorem State.shWr_planDn (s : State) (k : Nat) (w : Word) : (s.shWr k w).planDn = s.planDn := rfl
@[simp] theorem State.shWr_fx (s : State) (k : Nat) (w : Word) : (s.shWr k w).fx = s.fx := rfl
@[simp] theorem State.shWr_ixGates (s : State) (k : Nat) (w : Word) : (s.shWr k w).ixGates = s.ixGates := rfl
@[simp] theorem State.shWr_ix (s : State) (k : Nat) (w : Word) : (s.shWr k w).ix = s.ix := rfl
@[simp] theorem State.shWr_brk (s : State) (k : Nat) (w : Word) : (s.shWr k w).brk = s.brk := rfl
@[simp] theorem State.shWr_crowns (s : State) (k : Nat) (w : Word) : (s.shWr k w).crowns = s.crowns := rfl
@[simp] theorem State.shWr_rings (s : State) (k : Nat) (w : Word) : (s.shWr k w).rings = s.rings := rfl
@[simp] theorem State.shWr_bridge (s : State) (k : Nat) (w : Word) : (s.shWr k w).bridge = s.bridge := rfl
@[simp] theorem State.shWr_planReq (s : State) (k : Nat) (w : Word) : (s.shWr k w).planReq = s.planReq := rfl
@[simp] theorem State.shWr_planIfv (s : State) (k : Nat) (w : Word) : (s.shWr k w).planIfv = s.planIfv := rfl
@[simp] theorem State.shWr_pair (s : State) (k : Nat) (w : Word) : (s.shWr k w).pair = s.pair := rfl
@[simp] theorem State.shWr_feed (s : State) (k : Nat) (w : Word) : (s.shWr k w).feed = s.feed := rfl
@[simp] theorem State.shWr_pwr (s : State) (k : Nat) (w : Word) : (s.shWr k w).pwr = s.pwr := rfl
@[simp] theorem State.shWr_sec (s : State) (k : Nat) (w : Word) : (s.shWr k w).sec = s.sec := rfl
@[simp] theorem State.shWr_hex (s : State) (k : Nat) (w : Word) : (s.shWr k w).hex = s.hex := rfl
@[simp] theorem State.shWr_net (s : State) (k : Nat) (w : Word) : (s.shWr k w).net = s.net := rfl
@[simp] theorem State.shWr_ast (s : State) (k : Nat) (w : Word) : (s.shWr k w).ast = s.ast := rfl
@[simp] theorem State.shWr_fxSpare (s : State) (k : Nat) (w : Word) : (s.shWr k w).fxSpare = s.fxSpare := rfl
@[simp] theorem State.shWr_imgRgn (s : State) (k : Nat) (w : Word) : (s.shWr k w).imgRgn = s.imgRgn := rfl

@[simp] theorem State.setF_pending (s : State) (f : Fld) (v : Nat) : (s.setF f v).pending = s.pending := rfl
@[simp] theorem State.setF_freeCnt (s : State) (f : Fld) (v : Nat) : (s.setF f v).freeCnt = s.freeCnt := rfl
@[simp] theorem State.setF_mode (s : State) (f : Fld) (v : Nat) : (s.setF f v).mode = s.mode := rfl
@[simp] theorem State.setF_shadow (s : State) (f : Fld) (v : Nat) : (s.setF f v).shadow = s.shadow := rfl
@[simp] theorem State.setF_rdData (s : State) (f : Fld) (v : Nat) : (s.setF f v).rdData = s.rdData := rfl
@[simp] theorem State.setF_latch (s : State) (f : Fld) (v : Nat) : (s.setF f v).latch = s.latch := rfl
@[simp] theorem State.setF_lanes (s : State) (f : Fld) (v : Nat) : (s.setF f v).lanes = s.lanes := rfl
@[simp] theorem State.setF_mgmt (s : State) (f : Fld) (v : Nat) : (s.setF f v).mgmt = s.mgmt := rfl
@[simp] theorem State.setF_mmem (s : State) (f : Fld) (v : Nat) : (s.setF f v).mmem = s.mmem := rfl
@[simp] theorem State.setF_holds (s : State) (f : Fld) (v : Nat) : (s.setF f v).holds = s.holds := rfl
@[simp] theorem State.setF_mbx (s : State) (f : Fld) (v : Nat) : (s.setF f v).mbx = s.mbx := rfl
@[simp] theorem State.setF_time (s : State) (f : Fld) (v : Nat) : (s.setF f v).time = s.time := rfl
@[simp] theorem State.setF_recorder (s : State) (f : Fld) (v : Nat) : (s.setF f v).recorder = s.recorder := rfl
@[simp] theorem State.setF_planDn (s : State) (f : Fld) (v : Nat) : (s.setF f v).planDn = s.planDn := rfl
@[simp] theorem State.setF_fx (s : State) (f : Fld) (v : Nat) : (s.setF f v).fx = s.fx := rfl
@[simp] theorem State.setF_ixGates (s : State) (f : Fld) (v : Nat) : (s.setF f v).ixGates = s.ixGates := rfl
@[simp] theorem State.setF_ix (s : State) (f : Fld) (v : Nat) : (s.setF f v).ix = s.ix := rfl
@[simp] theorem State.setF_brk (s : State) (f : Fld) (v : Nat) : (s.setF f v).brk = s.brk := rfl
@[simp] theorem State.setF_crowns (s : State) (f : Fld) (v : Nat) : (s.setF f v).crowns = s.crowns := rfl
@[simp] theorem State.setF_rings (s : State) (f : Fld) (v : Nat) : (s.setF f v).rings = s.rings := rfl
@[simp] theorem State.setF_bridge (s : State) (f : Fld) (v : Nat) : (s.setF f v).bridge = s.bridge := rfl
@[simp] theorem State.setF_planReq (s : State) (f : Fld) (v : Nat) : (s.setF f v).planReq = s.planReq := rfl
@[simp] theorem State.setF_planIfv (s : State) (f : Fld) (v : Nat) : (s.setF f v).planIfv = s.planIfv := rfl
@[simp] theorem State.setF_pair (s : State) (f : Fld) (v : Nat) : (s.setF f v).pair = s.pair := rfl
@[simp] theorem State.setF_feed (s : State) (f : Fld) (v : Nat) : (s.setF f v).feed = s.feed := rfl
@[simp] theorem State.setF_pwr (s : State) (f : Fld) (v : Nat) : (s.setF f v).pwr = s.pwr := rfl
@[simp] theorem State.setF_sec (s : State) (f : Fld) (v : Nat) : (s.setF f v).sec = s.sec := rfl
@[simp] theorem State.setF_hex (s : State) (f : Fld) (v : Nat) : (s.setF f v).hex = s.hex := rfl
@[simp] theorem State.setF_net (s : State) (f : Fld) (v : Nat) : (s.setF f v).net = s.net := rfl
@[simp] theorem State.setF_ast (s : State) (f : Fld) (v : Nat) : (s.setF f v).ast = s.ast := rfl
@[simp] theorem State.setF_fxSpare (s : State) (f : Fld) (v : Nat) : (s.setF f v).fxSpare = s.fxSpare := rfl
@[simp] theorem State.setF_imgRgn (s : State) (f : Fld) (v : Nat) : (s.setF f v).imgRgn = s.imgRgn := rfl

@[simp] theorem State.setB_pending (s : State) (f : Fld) (b : Bool) : (s.setB f b).pending = s.pending := rfl
@[simp] theorem State.setB_freeCnt (s : State) (f : Fld) (b : Bool) : (s.setB f b).freeCnt = s.freeCnt := rfl
@[simp] theorem State.setB_mode (s : State) (f : Fld) (b : Bool) : (s.setB f b).mode = s.mode := rfl
@[simp] theorem State.setB_shadow (s : State) (f : Fld) (b : Bool) : (s.setB f b).shadow = s.shadow := rfl
@[simp] theorem State.setB_rdData (s : State) (f : Fld) (b : Bool) : (s.setB f b).rdData = s.rdData := rfl
@[simp] theorem State.setB_latch (s : State) (f : Fld) (b : Bool) : (s.setB f b).latch = s.latch := rfl
@[simp] theorem State.setB_lanes (s : State) (f : Fld) (b : Bool) : (s.setB f b).lanes = s.lanes := rfl
@[simp] theorem State.setB_mgmt (s : State) (f : Fld) (b : Bool) : (s.setB f b).mgmt = s.mgmt := rfl
@[simp] theorem State.setB_mmem (s : State) (f : Fld) (b : Bool) : (s.setB f b).mmem = s.mmem := rfl
@[simp] theorem State.setB_holds (s : State) (f : Fld) (b : Bool) : (s.setB f b).holds = s.holds := rfl
@[simp] theorem State.setB_mbx (s : State) (f : Fld) (b : Bool) : (s.setB f b).mbx = s.mbx := rfl
@[simp] theorem State.setB_time (s : State) (f : Fld) (b : Bool) : (s.setB f b).time = s.time := rfl
@[simp] theorem State.setB_recorder (s : State) (f : Fld) (b : Bool) : (s.setB f b).recorder = s.recorder := rfl
@[simp] theorem State.setB_planDn (s : State) (f : Fld) (b : Bool) : (s.setB f b).planDn = s.planDn := rfl
@[simp] theorem State.setB_fx (s : State) (f : Fld) (b : Bool) : (s.setB f b).fx = s.fx := rfl
@[simp] theorem State.setB_ixGates (s : State) (f : Fld) (b : Bool) : (s.setB f b).ixGates = s.ixGates := rfl
@[simp] theorem State.setB_ix (s : State) (f : Fld) (b : Bool) : (s.setB f b).ix = s.ix := rfl
@[simp] theorem State.setB_brk (s : State) (f : Fld) (b : Bool) : (s.setB f b).brk = s.brk := rfl
@[simp] theorem State.setB_crowns (s : State) (f : Fld) (b : Bool) : (s.setB f b).crowns = s.crowns := rfl
@[simp] theorem State.setB_rings (s : State) (f : Fld) (b : Bool) : (s.setB f b).rings = s.rings := rfl
@[simp] theorem State.setB_bridge (s : State) (f : Fld) (b : Bool) : (s.setB f b).bridge = s.bridge := rfl
@[simp] theorem State.setB_planReq (s : State) (f : Fld) (b : Bool) : (s.setB f b).planReq = s.planReq := rfl
@[simp] theorem State.setB_planIfv (s : State) (f : Fld) (b : Bool) : (s.setB f b).planIfv = s.planIfv := rfl
@[simp] theorem State.setB_pair (s : State) (f : Fld) (b : Bool) : (s.setB f b).pair = s.pair := rfl
@[simp] theorem State.setB_feed (s : State) (f : Fld) (b : Bool) : (s.setB f b).feed = s.feed := rfl
@[simp] theorem State.setB_pwr (s : State) (f : Fld) (b : Bool) : (s.setB f b).pwr = s.pwr := rfl
@[simp] theorem State.setB_sec (s : State) (f : Fld) (b : Bool) : (s.setB f b).sec = s.sec := rfl
@[simp] theorem State.setB_hex (s : State) (f : Fld) (b : Bool) : (s.setB f b).hex = s.hex := rfl
@[simp] theorem State.setB_net (s : State) (f : Fld) (b : Bool) : (s.setB f b).net = s.net := rfl
@[simp] theorem State.setB_ast (s : State) (f : Fld) (b : Bool) : (s.setB f b).ast = s.ast := rfl
@[simp] theorem State.setB_fxSpare (s : State) (f : Fld) (b : Bool) : (s.setB f b).fxSpare = s.fxSpare := rfl
@[simp] theorem State.setB_imgRgn (s : State) (f : Fld) (b : Bool) : (s.setB f b).imgRgn = s.imgRgn := rfl

@[simp] theorem State.incF_pending (s : State) (f : Fld) (k : Nat) : (s.incF f k).pending = s.pending := rfl
@[simp] theorem State.incF_freeCnt (s : State) (f : Fld) (k : Nat) : (s.incF f k).freeCnt = s.freeCnt := rfl
@[simp] theorem State.incF_mode (s : State) (f : Fld) (k : Nat) : (s.incF f k).mode = s.mode := rfl
@[simp] theorem State.incF_shadow (s : State) (f : Fld) (k : Nat) : (s.incF f k).shadow = s.shadow := rfl
@[simp] theorem State.incF_rdData (s : State) (f : Fld) (k : Nat) : (s.incF f k).rdData = s.rdData := rfl
@[simp] theorem State.incF_latch (s : State) (f : Fld) (k : Nat) : (s.incF f k).latch = s.latch := rfl
@[simp] theorem State.incF_lanes (s : State) (f : Fld) (k : Nat) : (s.incF f k).lanes = s.lanes := rfl
@[simp] theorem State.incF_mgmt (s : State) (f : Fld) (k : Nat) : (s.incF f k).mgmt = s.mgmt := rfl
@[simp] theorem State.incF_mmem (s : State) (f : Fld) (k : Nat) : (s.incF f k).mmem = s.mmem := rfl
@[simp] theorem State.incF_holds (s : State) (f : Fld) (k : Nat) : (s.incF f k).holds = s.holds := rfl
@[simp] theorem State.incF_mbx (s : State) (f : Fld) (k : Nat) : (s.incF f k).mbx = s.mbx := rfl
@[simp] theorem State.incF_time (s : State) (f : Fld) (k : Nat) : (s.incF f k).time = s.time := rfl
@[simp] theorem State.incF_recorder (s : State) (f : Fld) (k : Nat) : (s.incF f k).recorder = s.recorder := rfl
@[simp] theorem State.incF_planDn (s : State) (f : Fld) (k : Nat) : (s.incF f k).planDn = s.planDn := rfl
@[simp] theorem State.incF_fx (s : State) (f : Fld) (k : Nat) : (s.incF f k).fx = s.fx := rfl
@[simp] theorem State.incF_ixGates (s : State) (f : Fld) (k : Nat) : (s.incF f k).ixGates = s.ixGates := rfl
@[simp] theorem State.incF_ix (s : State) (f : Fld) (k : Nat) : (s.incF f k).ix = s.ix := rfl
@[simp] theorem State.incF_brk (s : State) (f : Fld) (k : Nat) : (s.incF f k).brk = s.brk := rfl
@[simp] theorem State.incF_crowns (s : State) (f : Fld) (k : Nat) : (s.incF f k).crowns = s.crowns := rfl
@[simp] theorem State.incF_rings (s : State) (f : Fld) (k : Nat) : (s.incF f k).rings = s.rings := rfl
@[simp] theorem State.incF_bridge (s : State) (f : Fld) (k : Nat) : (s.incF f k).bridge = s.bridge := rfl
@[simp] theorem State.incF_planReq (s : State) (f : Fld) (k : Nat) : (s.incF f k).planReq = s.planReq := rfl
@[simp] theorem State.incF_planIfv (s : State) (f : Fld) (k : Nat) : (s.incF f k).planIfv = s.planIfv := rfl
@[simp] theorem State.incF_pair (s : State) (f : Fld) (k : Nat) : (s.incF f k).pair = s.pair := rfl
@[simp] theorem State.incF_feed (s : State) (f : Fld) (k : Nat) : (s.incF f k).feed = s.feed := rfl
@[simp] theorem State.incF_pwr (s : State) (f : Fld) (k : Nat) : (s.incF f k).pwr = s.pwr := rfl
@[simp] theorem State.incF_sec (s : State) (f : Fld) (k : Nat) : (s.incF f k).sec = s.sec := rfl
@[simp] theorem State.incF_hex (s : State) (f : Fld) (k : Nat) : (s.incF f k).hex = s.hex := rfl
@[simp] theorem State.incF_net (s : State) (f : Fld) (k : Nat) : (s.incF f k).net = s.net := rfl
@[simp] theorem State.incF_ast (s : State) (f : Fld) (k : Nat) : (s.incF f k).ast = s.ast := rfl
@[simp] theorem State.incF_fxSpare (s : State) (f : Fld) (k : Nat) : (s.incF f k).fxSpare = s.fxSpare := rfl
@[simp] theorem State.incF_imgRgn (s : State) (f : Fld) (k : Nat) : (s.incF f k).imgRgn = s.imgRgn := rfl

@[simp] theorem State.setFSh_pending (s : State) (f : Fld) (v : Nat) : (s.setFSh f v).pending = s.pending := rfl
@[simp] theorem State.setFSh_freeCnt (s : State) (f : Fld) (v : Nat) : (s.setFSh f v).freeCnt = s.freeCnt := rfl
@[simp] theorem State.setFSh_mode (s : State) (f : Fld) (v : Nat) : (s.setFSh f v).mode = s.mode := rfl
@[simp] theorem State.setFSh_regs (s : State) (f : Fld) (v : Nat) : (s.setFSh f v).regs = s.regs := rfl
@[simp] theorem State.setFSh_rdData (s : State) (f : Fld) (v : Nat) : (s.setFSh f v).rdData = s.rdData := rfl
@[simp] theorem State.setFSh_latch (s : State) (f : Fld) (v : Nat) : (s.setFSh f v).latch = s.latch := rfl
@[simp] theorem State.setFSh_lanes (s : State) (f : Fld) (v : Nat) : (s.setFSh f v).lanes = s.lanes := rfl
@[simp] theorem State.setFSh_mgmt (s : State) (f : Fld) (v : Nat) : (s.setFSh f v).mgmt = s.mgmt := rfl
@[simp] theorem State.setFSh_mmem (s : State) (f : Fld) (v : Nat) : (s.setFSh f v).mmem = s.mmem := rfl
@[simp] theorem State.setFSh_holds (s : State) (f : Fld) (v : Nat) : (s.setFSh f v).holds = s.holds := rfl
@[simp] theorem State.setFSh_mbx (s : State) (f : Fld) (v : Nat) : (s.setFSh f v).mbx = s.mbx := rfl
@[simp] theorem State.setFSh_time (s : State) (f : Fld) (v : Nat) : (s.setFSh f v).time = s.time := rfl
@[simp] theorem State.setFSh_recorder (s : State) (f : Fld) (v : Nat) : (s.setFSh f v).recorder = s.recorder := rfl
@[simp] theorem State.setFSh_planDn (s : State) (f : Fld) (v : Nat) : (s.setFSh f v).planDn = s.planDn := rfl
@[simp] theorem State.setFSh_fx (s : State) (f : Fld) (v : Nat) : (s.setFSh f v).fx = s.fx := rfl
@[simp] theorem State.setFSh_ixGates (s : State) (f : Fld) (v : Nat) : (s.setFSh f v).ixGates = s.ixGates := rfl
@[simp] theorem State.setFSh_ix (s : State) (f : Fld) (v : Nat) : (s.setFSh f v).ix = s.ix := rfl
@[simp] theorem State.setFSh_brk (s : State) (f : Fld) (v : Nat) : (s.setFSh f v).brk = s.brk := rfl
@[simp] theorem State.setFSh_crowns (s : State) (f : Fld) (v : Nat) : (s.setFSh f v).crowns = s.crowns := rfl
@[simp] theorem State.setFSh_rings (s : State) (f : Fld) (v : Nat) : (s.setFSh f v).rings = s.rings := rfl
@[simp] theorem State.setFSh_bridge (s : State) (f : Fld) (v : Nat) : (s.setFSh f v).bridge = s.bridge := rfl
@[simp] theorem State.setFSh_planReq (s : State) (f : Fld) (v : Nat) : (s.setFSh f v).planReq = s.planReq := rfl
@[simp] theorem State.setFSh_planIfv (s : State) (f : Fld) (v : Nat) : (s.setFSh f v).planIfv = s.planIfv := rfl
@[simp] theorem State.setFSh_pair (s : State) (f : Fld) (v : Nat) : (s.setFSh f v).pair = s.pair := rfl
@[simp] theorem State.setFSh_feed (s : State) (f : Fld) (v : Nat) : (s.setFSh f v).feed = s.feed := rfl
@[simp] theorem State.setFSh_pwr (s : State) (f : Fld) (v : Nat) : (s.setFSh f v).pwr = s.pwr := rfl
@[simp] theorem State.setFSh_sec (s : State) (f : Fld) (v : Nat) : (s.setFSh f v).sec = s.sec := rfl
@[simp] theorem State.setFSh_hex (s : State) (f : Fld) (v : Nat) : (s.setFSh f v).hex = s.hex := rfl
@[simp] theorem State.setFSh_net (s : State) (f : Fld) (v : Nat) : (s.setFSh f v).net = s.net := rfl
@[simp] theorem State.setFSh_ast (s : State) (f : Fld) (v : Nat) : (s.setFSh f v).ast = s.ast := rfl
@[simp] theorem State.setFSh_fxSpare (s : State) (f : Fld) (v : Nat) : (s.setFSh f v).fxSpare = s.fxSpare := rfl
@[simp] theorem State.setFSh_imgRgn (s : State) (f : Fld) (v : Nat) : (s.setFSh f v).imgRgn = s.imgRgn := rfl

@[simp] theorem State.drawn_pending (s : State) : (s.drawn).pending = s.pending := rfl
@[simp] theorem State.drawn_mode (s : State) : (s.drawn).mode = s.mode := rfl
@[simp] theorem State.drawn_regs (s : State) : (s.drawn).regs = s.regs := rfl
@[simp] theorem State.drawn_shadow (s : State) : (s.drawn).shadow = s.shadow := rfl
@[simp] theorem State.drawn_rdData (s : State) : (s.drawn).rdData = s.rdData := rfl
@[simp] theorem State.drawn_latch (s : State) : (s.drawn).latch = s.latch := rfl
@[simp] theorem State.drawn_lanes (s : State) : (s.drawn).lanes = s.lanes := rfl
@[simp] theorem State.drawn_mgmt (s : State) : (s.drawn).mgmt = s.mgmt := rfl
@[simp] theorem State.drawn_mmem (s : State) : (s.drawn).mmem = s.mmem := rfl
@[simp] theorem State.drawn_holds (s : State) : (s.drawn).holds = s.holds := rfl
@[simp] theorem State.drawn_mbx (s : State) : (s.drawn).mbx = s.mbx := rfl
@[simp] theorem State.drawn_time (s : State) : (s.drawn).time = s.time := rfl
@[simp] theorem State.drawn_recorder (s : State) : (s.drawn).recorder = s.recorder := rfl
@[simp] theorem State.drawn_planDn (s : State) : (s.drawn).planDn = s.planDn := rfl
@[simp] theorem State.drawn_fx (s : State) : (s.drawn).fx = s.fx := rfl
@[simp] theorem State.drawn_ixGates (s : State) : (s.drawn).ixGates = s.ixGates := rfl
@[simp] theorem State.drawn_ix (s : State) : (s.drawn).ix = s.ix := rfl
@[simp] theorem State.drawn_brk (s : State) : (s.drawn).brk = s.brk := rfl
@[simp] theorem State.drawn_crowns (s : State) : (s.drawn).crowns = s.crowns := rfl
@[simp] theorem State.drawn_rings (s : State) : (s.drawn).rings = s.rings := rfl
@[simp] theorem State.drawn_bridge (s : State) : (s.drawn).bridge = s.bridge := rfl
@[simp] theorem State.drawn_planReq (s : State) : (s.drawn).planReq = s.planReq := rfl
@[simp] theorem State.drawn_planIfv (s : State) : (s.drawn).planIfv = s.planIfv := rfl
@[simp] theorem State.drawn_pair (s : State) : (s.drawn).pair = s.pair := rfl
@[simp] theorem State.drawn_feed (s : State) : (s.drawn).feed = s.feed := rfl
@[simp] theorem State.drawn_pwr (s : State) : (s.drawn).pwr = s.pwr := rfl
@[simp] theorem State.drawn_sec (s : State) : (s.drawn).sec = s.sec := rfl
@[simp] theorem State.drawn_hex (s : State) : (s.drawn).hex = s.hex := rfl
@[simp] theorem State.drawn_net (s : State) : (s.drawn).net = s.net := rfl
@[simp] theorem State.drawn_ast (s : State) : (s.drawn).ast = s.ast := rfl
@[simp] theorem State.drawn_fxSpare (s : State) : (s.drawn).fxSpare = s.fxSpare := rfl
@[simp] theorem State.drawn_imgRgn (s : State) : (s.drawn).imgRgn = s.imgRgn := rfl

@[simp] theorem State.updLane_pending (s : State) (l : Lane) (f : LaneSt → LaneSt) : (s.updLane l f).pending = s.pending := rfl
@[simp] theorem State.updLane_freeCnt (s : State) (l : Lane) (f : LaneSt → LaneSt) : (s.updLane l f).freeCnt = s.freeCnt := rfl
@[simp] theorem State.updLane_mode (s : State) (l : Lane) (f : LaneSt → LaneSt) : (s.updLane l f).mode = s.mode := rfl
@[simp] theorem State.updLane_regs (s : State) (l : Lane) (f : LaneSt → LaneSt) : (s.updLane l f).regs = s.regs := rfl
@[simp] theorem State.updLane_shadow (s : State) (l : Lane) (f : LaneSt → LaneSt) : (s.updLane l f).shadow = s.shadow := rfl
@[simp] theorem State.updLane_rdData (s : State) (l : Lane) (f : LaneSt → LaneSt) : (s.updLane l f).rdData = s.rdData := rfl
@[simp] theorem State.updLane_latch (s : State) (l : Lane) (f : LaneSt → LaneSt) : (s.updLane l f).latch = s.latch := rfl
@[simp] theorem State.updLane_mgmt (s : State) (l : Lane) (f : LaneSt → LaneSt) : (s.updLane l f).mgmt = s.mgmt := rfl
@[simp] theorem State.updLane_mmem (s : State) (l : Lane) (f : LaneSt → LaneSt) : (s.updLane l f).mmem = s.mmem := rfl
@[simp] theorem State.updLane_holds (s : State) (l : Lane) (f : LaneSt → LaneSt) : (s.updLane l f).holds = s.holds := rfl
@[simp] theorem State.updLane_mbx (s : State) (l : Lane) (f : LaneSt → LaneSt) : (s.updLane l f).mbx = s.mbx := rfl
@[simp] theorem State.updLane_time (s : State) (l : Lane) (f : LaneSt → LaneSt) : (s.updLane l f).time = s.time := rfl
@[simp] theorem State.updLane_recorder (s : State) (l : Lane) (f : LaneSt → LaneSt) : (s.updLane l f).recorder = s.recorder := rfl
@[simp] theorem State.updLane_planDn (s : State) (l : Lane) (f : LaneSt → LaneSt) : (s.updLane l f).planDn = s.planDn := rfl
@[simp] theorem State.updLane_fx (s : State) (l : Lane) (f : LaneSt → LaneSt) : (s.updLane l f).fx = s.fx := rfl
@[simp] theorem State.updLane_ixGates (s : State) (l : Lane) (f : LaneSt → LaneSt) : (s.updLane l f).ixGates = s.ixGates := rfl
@[simp] theorem State.updLane_ix (s : State) (l : Lane) (f : LaneSt → LaneSt) : (s.updLane l f).ix = s.ix := rfl
@[simp] theorem State.updLane_brk (s : State) (l : Lane) (f : LaneSt → LaneSt) : (s.updLane l f).brk = s.brk := rfl
@[simp] theorem State.updLane_crowns (s : State) (l : Lane) (f : LaneSt → LaneSt) : (s.updLane l f).crowns = s.crowns := rfl
@[simp] theorem State.updLane_rings (s : State) (l : Lane) (f : LaneSt → LaneSt) : (s.updLane l f).rings = s.rings := rfl
@[simp] theorem State.updLane_bridge (s : State) (l : Lane) (f : LaneSt → LaneSt) : (s.updLane l f).bridge = s.bridge := rfl
@[simp] theorem State.updLane_planReq (s : State) (l : Lane) (f : LaneSt → LaneSt) : (s.updLane l f).planReq = s.planReq := rfl
@[simp] theorem State.updLane_planIfv (s : State) (l : Lane) (f : LaneSt → LaneSt) : (s.updLane l f).planIfv = s.planIfv := rfl
@[simp] theorem State.updLane_pair (s : State) (l : Lane) (f : LaneSt → LaneSt) : (s.updLane l f).pair = s.pair := rfl
@[simp] theorem State.updLane_feed (s : State) (l : Lane) (f : LaneSt → LaneSt) : (s.updLane l f).feed = s.feed := rfl
@[simp] theorem State.updLane_pwr (s : State) (l : Lane) (f : LaneSt → LaneSt) : (s.updLane l f).pwr = s.pwr := rfl
@[simp] theorem State.updLane_sec (s : State) (l : Lane) (f : LaneSt → LaneSt) : (s.updLane l f).sec = s.sec := rfl
@[simp] theorem State.updLane_hex (s : State) (l : Lane) (f : LaneSt → LaneSt) : (s.updLane l f).hex = s.hex := rfl
@[simp] theorem State.updLane_net (s : State) (l : Lane) (f : LaneSt → LaneSt) : (s.updLane l f).net = s.net := rfl
@[simp] theorem State.updLane_ast (s : State) (l : Lane) (f : LaneSt → LaneSt) : (s.updLane l f).ast = s.ast := rfl
@[simp] theorem State.updLane_fxSpare (s : State) (l : Lane) (f : LaneSt → LaneSt) : (s.updLane l f).fxSpare = s.fxSpare := rfl
@[simp] theorem State.updLane_imgRgn (s : State) (l : Lane) (f : LaneSt → LaneSt) : (s.updLane l f).imgRgn = s.imgRgn := rfl

@[simp] theorem State.setLane_pending (s : State) (l : Lane) (x : LaneSt) : (s.setLane l x).pending = s.pending := rfl
@[simp] theorem State.setLane_freeCnt (s : State) (l : Lane) (x : LaneSt) : (s.setLane l x).freeCnt = s.freeCnt := rfl
@[simp] theorem State.setLane_mode (s : State) (l : Lane) (x : LaneSt) : (s.setLane l x).mode = s.mode := rfl
@[simp] theorem State.setLane_regs (s : State) (l : Lane) (x : LaneSt) : (s.setLane l x).regs = s.regs := rfl
@[simp] theorem State.setLane_shadow (s : State) (l : Lane) (x : LaneSt) : (s.setLane l x).shadow = s.shadow := rfl
@[simp] theorem State.setLane_rdData (s : State) (l : Lane) (x : LaneSt) : (s.setLane l x).rdData = s.rdData := rfl
@[simp] theorem State.setLane_latch (s : State) (l : Lane) (x : LaneSt) : (s.setLane l x).latch = s.latch := rfl
@[simp] theorem State.setLane_mgmt (s : State) (l : Lane) (x : LaneSt) : (s.setLane l x).mgmt = s.mgmt := rfl
@[simp] theorem State.setLane_mmem (s : State) (l : Lane) (x : LaneSt) : (s.setLane l x).mmem = s.mmem := rfl
@[simp] theorem State.setLane_holds (s : State) (l : Lane) (x : LaneSt) : (s.setLane l x).holds = s.holds := rfl
@[simp] theorem State.setLane_mbx (s : State) (l : Lane) (x : LaneSt) : (s.setLane l x).mbx = s.mbx := rfl
@[simp] theorem State.setLane_time (s : State) (l : Lane) (x : LaneSt) : (s.setLane l x).time = s.time := rfl
@[simp] theorem State.setLane_recorder (s : State) (l : Lane) (x : LaneSt) : (s.setLane l x).recorder = s.recorder := rfl
@[simp] theorem State.setLane_planDn (s : State) (l : Lane) (x : LaneSt) : (s.setLane l x).planDn = s.planDn := rfl
@[simp] theorem State.setLane_fx (s : State) (l : Lane) (x : LaneSt) : (s.setLane l x).fx = s.fx := rfl
@[simp] theorem State.setLane_ixGates (s : State) (l : Lane) (x : LaneSt) : (s.setLane l x).ixGates = s.ixGates := rfl
@[simp] theorem State.setLane_ix (s : State) (l : Lane) (x : LaneSt) : (s.setLane l x).ix = s.ix := rfl
@[simp] theorem State.setLane_brk (s : State) (l : Lane) (x : LaneSt) : (s.setLane l x).brk = s.brk := rfl
@[simp] theorem State.setLane_crowns (s : State) (l : Lane) (x : LaneSt) : (s.setLane l x).crowns = s.crowns := rfl
@[simp] theorem State.setLane_rings (s : State) (l : Lane) (x : LaneSt) : (s.setLane l x).rings = s.rings := rfl
@[simp] theorem State.setLane_bridge (s : State) (l : Lane) (x : LaneSt) : (s.setLane l x).bridge = s.bridge := rfl
@[simp] theorem State.setLane_planReq (s : State) (l : Lane) (x : LaneSt) : (s.setLane l x).planReq = s.planReq := rfl
@[simp] theorem State.setLane_planIfv (s : State) (l : Lane) (x : LaneSt) : (s.setLane l x).planIfv = s.planIfv := rfl
@[simp] theorem State.setLane_pair (s : State) (l : Lane) (x : LaneSt) : (s.setLane l x).pair = s.pair := rfl
@[simp] theorem State.setLane_feed (s : State) (l : Lane) (x : LaneSt) : (s.setLane l x).feed = s.feed := rfl
@[simp] theorem State.setLane_pwr (s : State) (l : Lane) (x : LaneSt) : (s.setLane l x).pwr = s.pwr := rfl
@[simp] theorem State.setLane_sec (s : State) (l : Lane) (x : LaneSt) : (s.setLane l x).sec = s.sec := rfl
@[simp] theorem State.setLane_hex (s : State) (l : Lane) (x : LaneSt) : (s.setLane l x).hex = s.hex := rfl
@[simp] theorem State.setLane_net (s : State) (l : Lane) (x : LaneSt) : (s.setLane l x).net = s.net := rfl
@[simp] theorem State.setLane_ast (s : State) (l : Lane) (x : LaneSt) : (s.setLane l x).ast = s.ast := rfl
@[simp] theorem State.setLane_fxSpare (s : State) (l : Lane) (x : LaneSt) : (s.setLane l x).fxSpare = s.fxSpare := rfl
@[simp] theorem State.setLane_imgRgn (s : State) (l : Lane) (x : LaneSt) : (s.setLane l x).imgRgn = s.imgRgn := rfl

end Sys2Proof.Machine
end

