-- ==== Sys2Proof/Laws/Ops.lean ====
section
/-!
SUPPORT. What the shared operations can do: interrupt events, event records, memories, threads.
-/

namespace Sys2Proof.Machine

/-! ### Interrupt events (R98) -/

/-- An event changes registers alone. -/
theorem State.raise_shape (s : State) (e : Engine) (n : Nat) : ∃ r, s.raise e n = { s with regs := r } := by
  unfold State.raise
  split
  · split <;> exact ⟨_, rfl⟩
  · exact ⟨s.regs, rfl⟩

/-- Only the count of the source, in the controller named, changes. -/
theorem State.rd_raise_ne (s : State) (e : Engine) (n : Nat) {k : Nat} (h : k ≠ PIC_COUNT e n) : (s.raise e n).rd k = s.rd k := by
  unfold State.raise
  split
  · split <;> exact State.rd_setF_ne s _ _ h
  · rfl

theorem State.fv_raise_ne (s : State) (e : Engine) (n : Nat) (f : Fld) (h : f.key ≠ PIC_COUNT e n) : (s.raise e n).fv f = s.fv f := by
  simp only [State.fv, State.rd_raise_ne s e n h]

/-- The count of the source after an event: one more, up to 255. -/
theorem State.fv_raise_self (s : State) (e : Engine) (n : Nat) (h : s.engineOn e = true) :
    (s.raise e n).fv (PIC_COUNT_COUNT e n) = min 255 (s.fv (PIC_COUNT_COUNT e n) + 1) := by
  have hb : s.fv (PIC_COUNT_COUNT e n) < 256 := State.fv_lt s _
  unfold State.raise
  rw [if_pos h]
  split
  · next h2 =>
    have ha := State.fv_setF_apart s (PIC_COUNT_OVF e n) (PIC_COUNT_COUNT e n) 1 (Nat.lt_of_sub_eq_succ rfl)
      (Or.inl (Nat.lt_of_sub_eq_succ rfl))
    rw [ha, h2]; rfl
  · next h2 =>
    have hs := State.fv_setF_self s (PIC_COUNT_COUNT e n) (s.fv (PIC_COUNT_COUNT e n) + 1) (Nat.zero_le _) (Nat.lt_of_sub_eq_succ rfl)
    have hm : (s.fv (PIC_COUNT_COUNT e n) + 1) % 2 ^ (7 + 1 - 0) = s.fv (PIC_COUNT_COUNT e n) + 1 := Nat.mod_eq_of_lt (by omega)
    rw [hs, show (PIC_COUNT_COUNT e n).hi = 7 from rfl, show (PIC_COUNT_COUNT e n).lo = 0 from rfl, hm]
    omega

/-- A bit that no event on source n of engine e touches: its register is none of the count registers. -/
def NoCount (k n : Nat) : Prop := ∀ e, k ≠ PIC_COUNT e n

theorem State.rd_raiseLanes_ne (s : State) (n : Nat) {k : Nat} (h : NoCount k n) : (s.raiseLanes n).rd k = s.rd k := by
  simp only [State.raiseLanes, State.forLanes]
  rw [State.rd_raise_ne _ _ _ (h _), State.rd_raise_ne _ _ _ (h _), State.rd_raise_ne _ _ _ (h _)]

theorem State.rd_raiseAll_ne (s : State) (n : Nat) {k : Nat} (h : NoCount k n) : (s.raiseAll n).rd k = s.rd k := by
  rw [State.raiseAll, State.rd_raise_ne _ _ _ (h _), State.rd_raiseLanes_ne s n h]

theorem State.fv_raiseAll_ne (s : State) (n : Nat) (f : Fld) (h : NoCount f.key n) : (s.raiseAll n).fv f = s.fv f := by
  simp only [State.fv, State.rd_raiseAll_ne s n h]

theorem State.raiseLanes_shape (s : State) (n : Nat) : ∃ r, s.raiseLanes n = { s with regs := r } := by
  simp only [State.raiseLanes, State.forLanes]
  obtain ⟨r1, h1⟩ := State.raise_shape s (.lane .a) n
  obtain ⟨r2, h2⟩ := State.raise_shape (s.raise (.lane .a) n) (.lane .b) n
  obtain ⟨r3, h3⟩ := State.raise_shape ((s.raise (.lane .a) n).raise (.lane .b) n) (.lane .c) n
  rw [h3, h2, h1]
  exact ⟨r3, rfl⟩

theorem State.raiseAll_shape (s : State) (n : Nat) : ∃ r, s.raiseAll n = { s with regs := r } := by
  obtain ⟨r1, h1⟩ := State.raiseLanes_shape s n
  obtain ⟨r2, h2⟩ := State.raise_shape (s.raiseLanes n) .mgmt n
  rw [State.raiseAll, h2, h1]
  exact ⟨r2, rfl⟩

/-! ### Event records (R392) -/

/-- A record changes the recorder, its counters and the count of free values. -/
theorem State.record_shape (s : State) (src code aux : Nat) (data : List Byte) :
    ∃ g n r, s.record src code aux data = { s with regs := g, freeCnt := n, recorder := r } := by
  unfold State.record
  simp only []
  split
  · exact ⟨s.regs, s.freeCnt, s.recorder, rfl⟩
  · split
    · exact ⟨s.regs, _, _, rfl⟩
    · exact ⟨_, _, _, rfl⟩

theorem State.rd_record_ne (s : State) (src code aux : Nat) (data : List Byte) {k : Nat} (h : k ≠ REC_CNT_LOST.key) :
    (s.record src code aux data).rd k = s.rd k := by
  unfold State.record
  simp only []
  split
  · rfl
  · split
    · rfl
    · exact State.rd_setF_ne s _ _ h

theorem State.fv_record_ne (s : State) (src code aux : Nat) (data : List Byte) (f : Fld) (h : f.key ≠ REC_CNT_LOST.key) :
    (s.record src code aux data).fv f = s.fv f := by
  simp only [State.fv, State.rd_record_ne s src code aux data h]

/-- With room in the queue the event is its newest entry. -/
theorem State.record_queue (s : State) (src code aux : Nat) (data : List Byte) (ha : s.alive = true)
    (hq : s.recorder.queue.length < 1024) (hl : s.recorder.lost = none) :
    (s.record src code aux data).recorder.queue =
      s.recorder.queue ++ [⟨src, code, aux, data, s.time.t + s.subTick, !s.time.isSet⟩] := by
  unfold State.record
  simp [ha, hq, hl]

/-! ### Memories -/

theorem memWrite_wf (m : List Host.Cell) (a : Nat) (b : Byte) (h : Store.wf memDefault m = true) :
    Store.wf memDefault (memWrite m a b) = true := Store.put_wf _ m a b h

theorem memWriteBytes_wf (m : List Host.Cell) (a : Nat) (bs : List Byte) (h : Store.wf memDefault m = true) :
    Store.wf memDefault (memWriteBytes m a bs) = true := Store.putList_wf _ bs m a h

theorem memSetWord_wf (m : List Host.Cell) (a : Nat) (w : DWord) (h : Store.wf memDefault m = true) :
    Store.wf memDefault (memSetWord m a w) = true := memWriteBytes_wf m a _ h

theorem memRead_putList (vs : List Byte) (m : List Host.Cell) (a b : Nat) (h : b < a ∨ a + vs.length ≤ b) :
    memRead (memWriteBytes m a vs) b = memRead m b := by
  induction vs generalizing m a with
  | nil => rfl
  | cons v r ih =>
    simp only [memWriteBytes, Store.putList]
    rw [List.length_cons] at h
    have := ih (Store.put memDefault m a v) (a + 1) (by omega)
    simp only [memWriteBytes] at this
    rw [this]
    exact Store.get_put_ne memDefault m v (by omega)

/-- A word stored leaves every byte outside its eight. -/
theorem memRead_setWord_apart (m : List Host.Cell) (a b : Nat) (w : DWord) (h : b < a ∨ a + 8 ≤ b) :
    memRead (memSetWord m a w) b = memRead m b := by
  refine memRead_putList _ m a b ?_
  simpa [beBytes] using h

/-! ### What events and records leave -/

@[simp] theorem State.raise_pending (s : State) (e : Engine) (n : Nat) : (s.raise e n).pending = s.pending := by
  obtain ⟨r, h⟩ := State.raise_shape s e n; rw [h]
@[simp] theorem State.raise_mode (s : State) (e : Engine) (n : Nat) : (s.raise e n).mode = s.mode := by
  obtain ⟨r, h⟩ := State.raise_shape s e n; rw [h]
@[simp] theorem State.raise_shadow (s : State) (e : Engine) (n : Nat) : (s.raise e n).shadow = s.shadow := by
  obtain ⟨r, h⟩ := State.raise_shape s e n; rw [h]
@[simp] theorem State.raise_rdData (s : State) (e : Engine) (n : Nat) : (s.raise e n).rdData = s.rdData := by
  obtain ⟨r, h⟩ := State.raise_shape s e n; rw [h]
@[simp] theorem State.raise_latch (s : State) (e : Engine) (n : Nat) : (s.raise e n).latch = s.latch := by
  obtain ⟨r, h⟩ := State.raise_shape s e n; rw [h]
@[simp] theorem State.raise_lanes (s : State) (e : Engine) (n : Nat) : (s.raise e n).lanes = s.lanes := by
  obtain ⟨r, h⟩ := State.raise_shape s e n; rw [h]
@[simp] theorem State.raise_mgmt (s : State) (e : Engine) (n : Nat) : (s.raise e n).mgmt = s.mgmt := by
  obtain ⟨r, h⟩ := State.raise_shape s e n; rw [h]
@[simp] theorem State.raise_mmem (s : State) (e : Engine) (n : Nat) : (s.raise e n).mmem = s.mmem := by
  obtain ⟨r, h⟩ := State.raise_shape s e n; rw [h]
@[simp] theorem State.raise_holds (s : State) (e : Engine) (n : Nat) : (s.raise e n).holds = s.holds := by
  obtain ⟨r, h⟩ := State.raise_shape s e n; rw [h]
@[simp] theorem State.raise_mbx (s : State) (e : Engine) (n : Nat) : (s.raise e n).mbx = s.mbx := by
  obtain ⟨r, h⟩ := State.raise_shape s e n; rw [h]
@[simp] theorem State.raise_time (s : State) (e : Engine) (n : Nat) : (s.raise e n).time = s.time := by
  obtain ⟨r, h⟩ := State.raise_shape s e n; rw [h]
@[simp] theorem State.raise_planDn (s : State) (e : Engine) (n : Nat) : (s.raise e n).planDn = s.planDn := by
  obtain ⟨r, h⟩ := State.raise_shape s e n; rw [h]
@[simp] theorem State.raise_fx (s : State) (e : Engine) (n : Nat) : (s.raise e n).fx = s.fx := by
  obtain ⟨r, h⟩ := State.raise_shape s e n; rw [h]
@[simp] theorem State.raise_ixGates (s : State) (e : Engine) (n : Nat) : (s.raise e n).ixGates = s.ixGates := by
  obtain ⟨r, h⟩ := State.raise_shape s e n; rw [h]
@[simp] theorem State.raise_ix (s : State) (e : Engine) (n : Nat) : (s.raise e n).ix = s.ix := by
  obtain ⟨r, h⟩ := State.raise_shape s e n; rw [h]
@[simp] theorem State.raise_brk (s : State) (e : Engine) (n : Nat) : (s.raise e n).brk = s.brk := by
  obtain ⟨r, h⟩ := State.raise_shape s e n; rw [h]
@[simp] theorem State.raise_crowns (s : State) (e : Engine) (n : Nat) : (s.raise e n).crowns = s.crowns := by
  obtain ⟨r, h⟩ := State.raise_shape s e n; rw [h]
@[simp] theorem State.raise_rings (s : State) (e : Engine) (n : Nat) : (s.raise e n).rings = s.rings := by
  obtain ⟨r, h⟩ := State.raise_shape s e n; rw [h]
@[simp] theorem State.raise_bridge (s : State) (e : Engine) (n : Nat) : (s.raise e n).bridge = s.bridge := by
  obtain ⟨r, h⟩ := State.raise_shape s e n; rw [h]
@[simp] theorem State.raise_planReq (s : State) (e : Engine) (n : Nat) : (s.raise e n).planReq = s.planReq := by
  obtain ⟨r, h⟩ := State.raise_shape s e n; rw [h]
@[simp] theorem State.raise_planIfv (s : State) (e : Engine) (n : Nat) : (s.raise e n).planIfv = s.planIfv := by
  obtain ⟨r, h⟩ := State.raise_shape s e n; rw [h]
@[simp] theorem State.raise_pair (s : State) (e : Engine) (n : Nat) : (s.raise e n).pair = s.pair := by
  obtain ⟨r, h⟩ := State.raise_shape s e n; rw [h]
@[simp] theorem State.raise_feed (s : State) (e : Engine) (n : Nat) : (s.raise e n).feed = s.feed := by
  obtain ⟨r, h⟩ := State.raise_shape s e n; rw [h]
@[simp] theorem State.raise_pwr (s : State) (e : Engine) (n : Nat) : (s.raise e n).pwr = s.pwr := by
  obtain ⟨r, h⟩ := State.raise_shape s e n; rw [h]
@[simp] theorem State.raise_sec (s : State) (e : Engine) (n : Nat) : (s.raise e n).sec = s.sec := by
  obtain ⟨r, h⟩ := State.raise_shape s e n; rw [h]
@[simp] theorem State.raise_hex (s : State) (e : Engine) (n : Nat) : (s.raise e n).hex = s.hex := by
  obtain ⟨r, h⟩ := State.raise_shape s e n; rw [h]
@[simp] theorem State.raise_net (s : State) (e : Engine) (n : Nat) : (s.raise e n).net = s.net := by
  obtain ⟨r, h⟩ := State.raise_shape s e n; rw [h]
@[simp] theorem State.raise_ast (s : State) (e : Engine) (n : Nat) : (s.raise e n).ast = s.ast := by
  obtain ⟨r, h⟩ := State.raise_shape s e n; rw [h]
@[simp] theorem State.raise_fxSpare (s : State) (e : Engine) (n : Nat) : (s.raise e n).fxSpare = s.fxSpare := by
  obtain ⟨r, h⟩ := State.raise_shape s e n; rw [h]
@[simp] theorem State.raise_imgRgn (s : State) (e : Engine) (n : Nat) : (s.raise e n).imgRgn = s.imgRgn := by
  obtain ⟨r, h⟩ := State.raise_shape s e n; rw [h]
@[simp] theorem State.raise_freeCnt (s : State) (e : Engine) (n : Nat) : (s.raise e n).freeCnt = s.freeCnt := by
  obtain ⟨r, h⟩ := State.raise_shape s e n; rw [h]
@[simp] theorem State.raise_recorder (s : State) (e : Engine) (n : Nat) : (s.raise e n).recorder = s.recorder := by
  obtain ⟨r, h⟩ := State.raise_shape s e n; rw [h]
@[simp] theorem State.raiseAll_pending (s : State) (n : Nat) : (s.raiseAll n).pending = s.pending := by
  obtain ⟨r, h⟩ := State.raiseAll_shape s n; rw [h]
@[simp] theorem State.raiseAll_mode (s : State) (n : Nat) : (s.raiseAll n).mode = s.mode := by
  obtain ⟨r, h⟩ := State.raiseAll_shape s n; rw [h]
@[simp] theorem State.raiseAll_shadow (s : State) (n : Nat) : (s.raiseAll n).shadow = s.shadow := by
  obtain ⟨r, h⟩ := State.raiseAll_shape s n; rw [h]
@[simp] theorem State.raiseAll_rdData (s : State) (n : Nat) : (s.raiseAll n).rdData = s.rdData := by
  obtain ⟨r, h⟩ := State.raiseAll_shape s n; rw [h]
@[simp] theorem State.raiseAll_latch (s : State) (n : Nat) : (s.raiseAll n).latch = s.latch := by
  obtain ⟨r, h⟩ := State.raiseAll_shape s n; rw [h]
@[simp] theorem State.raiseAll_lanes (s : State) (n : Nat) : (s.raiseAll n).lanes = s.lanes := by
  obtain ⟨r, h⟩ := State.raiseAll_shape s n; rw [h]
@[simp] theorem State.raiseAll_mgmt (s : State) (n : Nat) : (s.raiseAll n).mgmt = s.mgmt := by
  obtain ⟨r, h⟩ := State.raiseAll_shape s n; rw [h]
@[simp] theorem State.raiseAll_mmem (s : State) (n : Nat) : (s.raiseAll n).mmem = s.mmem := by
  obtain ⟨r, h⟩ := State.raiseAll_shape s n; rw [h]
@[simp] theorem State.raiseAll_holds (s : State) (n : Nat) : (s.raiseAll n).holds = s.holds := by
  obtain ⟨r, h⟩ := State.raiseAll_shape s n; rw [h]
@[simp] theorem State.raiseAll_mbx (s : State) (n : Nat) : (s.raiseAll n).mbx = s.mbx := by
  obtain ⟨r, h⟩ := State.raiseAll_shape s n; rw [h]
@[simp] theorem State.raiseAll_time (s : State) (n : Nat) : (s.raiseAll n).time = s.time := by
  obtain ⟨r, h⟩ := State.raiseAll_shape s n; rw [h]
@[simp] theorem State.raiseAll_planDn (s : State) (n : Nat) : (s.raiseAll n).planDn = s.planDn := by
  obtain ⟨r, h⟩ := State.raiseAll_shape s n; rw [h]
@[simp] theorem State.raiseAll_fx (s : State) (n : Nat) : (s.raiseAll n).fx = s.fx := by
  obtain ⟨r, h⟩ := State.raiseAll_shape s n; rw [h]
@[simp] theorem State.raiseAll_ixGates (s : State) (n : Nat) : (s.raiseAll n).ixGates = s.ixGates := by
  obtain ⟨r, h⟩ := State.raiseAll_shape s n; rw [h]
@[simp] theorem State.raiseAll_ix (s : State) (n : Nat) : (s.raiseAll n).ix = s.ix := by
  obtain ⟨r, h⟩ := State.raiseAll_shape s n; rw [h]
@[simp] theorem State.raiseAll_brk (s : State) (n : Nat) : (s.raiseAll n).brk = s.brk := by
  obtain ⟨r, h⟩ := State.raiseAll_shape s n; rw [h]
@[simp] theorem State.raiseAll_crowns (s : State) (n : Nat) : (s.raiseAll n).crowns = s.crowns := by
  obtain ⟨r, h⟩ := State.raiseAll_shape s n; rw [h]
@[simp] theorem State.raiseAll_rings (s : State) (n : Nat) : (s.raiseAll n).rings = s.rings := by
  obtain ⟨r, h⟩ := State.raiseAll_shape s n; rw [h]
@[simp] theorem State.raiseAll_bridge (s : State) (n : Nat) : (s.raiseAll n).bridge = s.bridge := by
  obtain ⟨r, h⟩ := State.raiseAll_shape s n; rw [h]
@[simp] theorem State.raiseAll_planReq (s : State) (n : Nat) : (s.raiseAll n).planReq = s.planReq := by
  obtain ⟨r, h⟩ := State.raiseAll_shape s n; rw [h]
@[simp] theorem State.raiseAll_planIfv (s : State) (n : Nat) : (s.raiseAll n).planIfv = s.planIfv := by
  obtain ⟨r, h⟩ := State.raiseAll_shape s n; rw [h]
@[simp] theorem State.raiseAll_pair (s : State) (n : Nat) : (s.raiseAll n).pair = s.pair := by
  obtain ⟨r, h⟩ := State.raiseAll_shape s n; rw [h]
@[simp] theorem State.raiseAll_feed (s : State) (n : Nat) : (s.raiseAll n).feed = s.feed := by
  obtain ⟨r, h⟩ := State.raiseAll_shape s n; rw [h]
@[simp] theorem State.raiseAll_pwr (s : State) (n : Nat) : (s.raiseAll n).pwr = s.pwr := by
  obtain ⟨r, h⟩ := State.raiseAll_shape s n; rw [h]
@[simp] theorem State.raiseAll_sec (s : State) (n : Nat) : (s.raiseAll n).sec = s.sec := by
  obtain ⟨r, h⟩ := State.raiseAll_shape s n; rw [h]
@[simp] theorem State.raiseAll_hex (s : State) (n : Nat) : (s.raiseAll n).hex = s.hex := by
  obtain ⟨r, h⟩ := State.raiseAll_shape s n; rw [h]
@[simp] theorem State.raiseAll_net (s : State) (n : Nat) : (s.raiseAll n).net = s.net := by
  obtain ⟨r, h⟩ := State.raiseAll_shape s n; rw [h]
@[simp] theorem State.raiseAll_ast (s : State) (n : Nat) : (s.raiseAll n).ast = s.ast := by
  obtain ⟨r, h⟩ := State.raiseAll_shape s n; rw [h]
@[simp] theorem State.raiseAll_fxSpare (s : State) (n : Nat) : (s.raiseAll n).fxSpare = s.fxSpare := by
  obtain ⟨r, h⟩ := State.raiseAll_shape s n; rw [h]
@[simp] theorem State.raiseAll_imgRgn (s : State) (n : Nat) : (s.raiseAll n).imgRgn = s.imgRgn := by
  obtain ⟨r, h⟩ := State.raiseAll_shape s n; rw [h]
@[simp] theorem State.raiseAll_freeCnt (s : State) (n : Nat) : (s.raiseAll n).freeCnt = s.freeCnt := by
  obtain ⟨r, h⟩ := State.raiseAll_shape s n; rw [h]
@[simp] theorem State.raiseAll_recorder (s : State) (n : Nat) : (s.raiseAll n).recorder = s.recorder := by
  obtain ⟨r, h⟩ := State.raiseAll_shape s n; rw [h]
@[simp] theorem State.raiseLanes_pending (s : State) (n : Nat) : (s.raiseLanes n).pending = s.pending := by
  obtain ⟨r, h⟩ := State.raiseLanes_shape s n; rw [h]
@[simp] theorem State.raiseLanes_mode (s : State) (n : Nat) : (s.raiseLanes n).mode = s.mode := by
  obtain ⟨r, h⟩ := State.raiseLanes_shape s n; rw [h]
@[simp] theorem State.raiseLanes_shadow (s : State) (n : Nat) : (s.raiseLanes n).shadow = s.shadow := by
  obtain ⟨r, h⟩ := State.raiseLanes_shape s n; rw [h]
@[simp] theorem State.raiseLanes_rdData (s : State) (n : Nat) : (s.raiseLanes n).rdData = s.rdData := by
  obtain ⟨r, h⟩ := State.raiseLanes_shape s n; rw [h]
@[simp] theorem State.raiseLanes_latch (s : State) (n : Nat) : (s.raiseLanes n).latch = s.latch := by
  obtain ⟨r, h⟩ := State.raiseLanes_shape s n; rw [h]
@[simp] theorem State.raiseLanes_lanes (s : State) (n : Nat) : (s.raiseLanes n).lanes = s.lanes := by
  obtain ⟨r, h⟩ := State.raiseLanes_shape s n; rw [h]
@[simp] theorem State.raiseLanes_mgmt (s : State) (n : Nat) : (s.raiseLanes n).mgmt = s.mgmt := by
  obtain ⟨r, h⟩ := State.raiseLanes_shape s n; rw [h]
@[simp] theorem State.raiseLanes_mmem (s : State) (n : Nat) : (s.raiseLanes n).mmem = s.mmem := by
  obtain ⟨r, h⟩ := State.raiseLanes_shape s n; rw [h]
@[simp] theorem State.raiseLanes_holds (s : State) (n : Nat) : (s.raiseLanes n).holds = s.holds := by
  obtain ⟨r, h⟩ := State.raiseLanes_shape s n; rw [h]
@[simp] theorem State.raiseLanes_mbx (s : State) (n : Nat) : (s.raiseLanes n).mbx = s.mbx := by
  obtain ⟨r, h⟩ := State.raiseLanes_shape s n; rw [h]
@[simp] theorem State.raiseLanes_time (s : State) (n : Nat) : (s.raiseLanes n).time = s.time := by
  obtain ⟨r, h⟩ := State.raiseLanes_shape s n; rw [h]
@[simp] theorem State.raiseLanes_planDn (s : State) (n : Nat) : (s.raiseLanes n).planDn = s.planDn := by
  obtain ⟨r, h⟩ := State.raiseLanes_shape s n; rw [h]
@[simp] theorem State.raiseLanes_fx (s : State) (n : Nat) : (s.raiseLanes n).fx = s.fx := by
  obtain ⟨r, h⟩ := State.raiseLanes_shape s n; rw [h]
@[simp] theorem State.raiseLanes_ixGates (s : State) (n : Nat) : (s.raiseLanes n).ixGates = s.ixGates := by
  obtain ⟨r, h⟩ := State.raiseLanes_shape s n; rw [h]
@[simp] theorem State.raiseLanes_ix (s : State) (n : Nat) : (s.raiseLanes n).ix = s.ix := by
  obtain ⟨r, h⟩ := State.raiseLanes_shape s n; rw [h]
@[simp] theorem State.raiseLanes_brk (s : State) (n : Nat) : (s.raiseLanes n).brk = s.brk := by
  obtain ⟨r, h⟩ := State.raiseLanes_shape s n; rw [h]
@[simp] theorem State.raiseLanes_crowns (s : State) (n : Nat) : (s.raiseLanes n).crowns = s.crowns := by
  obtain ⟨r, h⟩ := State.raiseLanes_shape s n; rw [h]
@[simp] theorem State.raiseLanes_rings (s : State) (n : Nat) : (s.raiseLanes n).rings = s.rings := by
  obtain ⟨r, h⟩ := State.raiseLanes_shape s n; rw [h]
@[simp] theorem State.raiseLanes_bridge (s : State) (n : Nat) : (s.raiseLanes n).bridge = s.bridge := by
  obtain ⟨r, h⟩ := State.raiseLanes_shape s n; rw [h]
@[simp] theorem State.raiseLanes_planReq (s : State) (n : Nat) : (s.raiseLanes n).planReq = s.planReq := by
  obtain ⟨r, h⟩ := State.raiseLanes_shape s n; rw [h]
@[simp] theorem State.raiseLanes_planIfv (s : State) (n : Nat) : (s.raiseLanes n).planIfv = s.planIfv := by
  obtain ⟨r, h⟩ := State.raiseLanes_shape s n; rw [h]
@[simp] theorem State.raiseLanes_pair (s : State) (n : Nat) : (s.raiseLanes n).pair = s.pair := by
  obtain ⟨r, h⟩ := State.raiseLanes_shape s n; rw [h]
@[simp] theorem State.raiseLanes_feed (s : State) (n : Nat) : (s.raiseLanes n).feed = s.feed := by
  obtain ⟨r, h⟩ := State.raiseLanes_shape s n; rw [h]
@[simp] theorem State.raiseLanes_pwr (s : State) (n : Nat) : (s.raiseLanes n).pwr = s.pwr := by
  obtain ⟨r, h⟩ := State.raiseLanes_shape s n; rw [h]
@[simp] theorem State.raiseLanes_sec (s : State) (n : Nat) : (s.raiseLanes n).sec = s.sec := by
  obtain ⟨r, h⟩ := State.raiseLanes_shape s n; rw [h]
@[simp] theorem State.raiseLanes_hex (s : State) (n : Nat) : (s.raiseLanes n).hex = s.hex := by
  obtain ⟨r, h⟩ := State.raiseLanes_shape s n; rw [h]
@[simp] theorem State.raiseLanes_net (s : State) (n : Nat) : (s.raiseLanes n).net = s.net := by
  obtain ⟨r, h⟩ := State.raiseLanes_shape s n; rw [h]
@[simp] theorem State.raiseLanes_ast (s : State) (n : Nat) : (s.raiseLanes n).ast = s.ast := by
  obtain ⟨r, h⟩ := State.raiseLanes_shape s n; rw [h]
@[simp] theorem State.raiseLanes_fxSpare (s : State) (n : Nat) : (s.raiseLanes n).fxSpare = s.fxSpare := by
  obtain ⟨r, h⟩ := State.raiseLanes_shape s n; rw [h]
@[simp] theorem State.raiseLanes_imgRgn (s : State) (n : Nat) : (s.raiseLanes n).imgRgn = s.imgRgn := by
  obtain ⟨r, h⟩ := State.raiseLanes_shape s n; rw [h]
@[simp] theorem State.raiseLanes_freeCnt (s : State) (n : Nat) : (s.raiseLanes n).freeCnt = s.freeCnt := by
  obtain ⟨r, h⟩ := State.raiseLanes_shape s n; rw [h]
@[simp] theorem State.raiseLanes_recorder (s : State) (n : Nat) : (s.raiseLanes n).recorder = s.recorder := by
  obtain ⟨r, h⟩ := State.raiseLanes_shape s n; rw [h]
@[simp] theorem State.record_pending (s : State) (src code aux : Nat) (data : List Byte) : (s.record src code aux data).pending = s.pending := by
  obtain ⟨g, n, r, h⟩ := State.record_shape s src code aux data; rw [h]
@[simp] theorem State.record_mode (s : State) (src code aux : Nat) (data : List Byte) : (s.record src code aux data).mode = s.mode := by
  obtain ⟨g, n, r, h⟩ := State.record_shape s src code aux data; rw [h]
@[simp] theorem State.record_shadow (s : State) (src code aux : Nat) (data : List Byte) : (s.record src code aux data).shadow = s.shadow := by
  obtain ⟨g, n, r, h⟩ := State.record_shape s src code aux data; rw [h]
@[simp] theorem State.record_rdData (s : State) (src code aux : Nat) (data : List Byte) : (s.record src code aux data).rdData = s.rdData := by
  obtain ⟨g, n, r, h⟩ := State.record_shape s src code aux data; rw [h]
@[simp] theorem State.record_latch (s : State) (src code aux : Nat) (data : List Byte) : (s.record src code aux data).latch = s.latch := by
  obtain ⟨g, n, r, h⟩ := State.record_shape s src code aux data; rw [h]
@[simp] theorem State.record_lanes (s : State) (src code aux : Nat) (data : List Byte) : (s.record src code aux data).lanes = s.lanes := by
  obtain ⟨g, n, r, h⟩ := State.record_shape s src code aux data; rw [h]
@[simp] theorem State.record_mgmt (s : State) (src code aux : Nat) (data : List Byte) : (s.record src code aux data).mgmt = s.mgmt := by
  obtain ⟨g, n, r, h⟩ := State.record_shape s src code aux data; rw [h]
@[simp] theorem State.record_mmem (s : State) (src code aux : Nat) (data : List Byte) : (s.record src code aux data).mmem = s.mmem := by
  obtain ⟨g, n, r, h⟩ := State.record_shape s src code aux data; rw [h]
@[simp] theorem State.record_holds (s : State) (src code aux : Nat) (data : List Byte) : (s.record src code aux data).holds = s.holds := by
  obtain ⟨g, n, r, h⟩ := State.record_shape s src code aux data; rw [h]
@[simp] theorem State.record_mbx (s : State) (src code aux : Nat) (data : List Byte) : (s.record src code aux data).mbx = s.mbx := by
  obtain ⟨g, n, r, h⟩ := State.record_shape s src code aux data; rw [h]
@[simp] theorem State.record_time (s : State) (src code aux : Nat) (data : List Byte) : (s.record src code aux data).time = s.time := by
  obtain ⟨g, n, r, h⟩ := State.record_shape s src code aux data; rw [h]
@[simp] theorem State.record_planDn (s : State) (src code aux : Nat) (data : List Byte) : (s.record src code aux data).planDn = s.planDn := by
  obtain ⟨g, n, r, h⟩ := State.record_shape s src code aux data; rw [h]
@[simp] theorem State.record_fx (s : State) (src code aux : Nat) (data : List Byte) : (s.record src code aux data).fx = s.fx := by
  obtain ⟨g, n, r, h⟩ := State.record_shape s src code aux data; rw [h]
@[simp] theorem State.record_ixGates (s : State) (src code aux : Nat) (data : List Byte) : (s.record src code aux data).ixGates = s.ixGates := by
  obtain ⟨g, n, r, h⟩ := State.record_shape s src code aux data; rw [h]
@[simp] theorem State.record_ix (s : State) (src code aux : Nat) (data : List Byte) : (s.record src code aux data).ix = s.ix := by
  obtain ⟨g, n, r, h⟩ := State.record_shape s src code aux data; rw [h]
@[simp] theorem State.record_brk (s : State) (src code aux : Nat) (data : List Byte) : (s.record src code aux data).brk = s.brk := by
  obtain ⟨g, n, r, h⟩ := State.record_shape s src code aux data; rw [h]
@[simp] theorem State.record_crowns (s : State) (src code aux : Nat) (data : List Byte) : (s.record src code aux data).crowns = s.crowns := by
  obtain ⟨g, n, r, h⟩ := State.record_shape s src code aux data; rw [h]
@[simp] theorem State.record_rings (s : State) (src code aux : Nat) (data : List Byte) : (s.record src code aux data).rings = s.rings := by
  obtain ⟨g, n, r, h⟩ := State.record_shape s src code aux data; rw [h]
@[simp] theorem State.record_bridge (s : State) (src code aux : Nat) (data : List Byte) : (s.record src code aux data).bridge = s.bridge := by
  obtain ⟨g, n, r, h⟩ := State.record_shape s src code aux data; rw [h]
@[simp] theorem State.record_planReq (s : State) (src code aux : Nat) (data : List Byte) : (s.record src code aux data).planReq = s.planReq := by
  obtain ⟨g, n, r, h⟩ := State.record_shape s src code aux data; rw [h]
@[simp] theorem State.record_planIfv (s : State) (src code aux : Nat) (data : List Byte) : (s.record src code aux data).planIfv = s.planIfv := by
  obtain ⟨g, n, r, h⟩ := State.record_shape s src code aux data; rw [h]
@[simp] theorem State.record_pair (s : State) (src code aux : Nat) (data : List Byte) : (s.record src code aux data).pair = s.pair := by
  obtain ⟨g, n, r, h⟩ := State.record_shape s src code aux data; rw [h]
@[simp] theorem State.record_feed (s : State) (src code aux : Nat) (data : List Byte) : (s.record src code aux data).feed = s.feed := by
  obtain ⟨g, n, r, h⟩ := State.record_shape s src code aux data; rw [h]
@[simp] theorem State.record_pwr (s : State) (src code aux : Nat) (data : List Byte) : (s.record src code aux data).pwr = s.pwr := by
  obtain ⟨g, n, r, h⟩ := State.record_shape s src code aux data; rw [h]
@[simp] theorem State.record_sec (s : State) (src code aux : Nat) (data : List Byte) : (s.record src code aux data).sec = s.sec := by
  obtain ⟨g, n, r, h⟩ := State.record_shape s src code aux data; rw [h]
@[simp] theorem State.record_hex (s : State) (src code aux : Nat) (data : List Byte) : (s.record src code aux data).hex = s.hex := by
  obtain ⟨g, n, r, h⟩ := State.record_shape s src code aux data; rw [h]
@[simp] theorem State.record_net (s : State) (src code aux : Nat) (data : List Byte) : (s.record src code aux data).net = s.net := by
  obtain ⟨g, n, r, h⟩ := State.record_shape s src code aux data; rw [h]
@[simp] theorem State.record_ast (s : State) (src code aux : Nat) (data : List Byte) : (s.record src code aux data).ast = s.ast := by
  obtain ⟨g, n, r, h⟩ := State.record_shape s src code aux data; rw [h]
@[simp] theorem State.record_fxSpare (s : State) (src code aux : Nat) (data : List Byte) : (s.record src code aux data).fxSpare = s.fxSpare := by
  obtain ⟨g, n, r, h⟩ := State.record_shape s src code aux data; rw [h]
@[simp] theorem State.record_imgRgn (s : State) (src code aux : Nat) (data : List Byte) : (s.record src code aux data).imgRgn = s.imgRgn := by
  obtain ⟨g, n, r, h⟩ := State.record_shape s src code aux data; rw [h]

end Sys2Proof.Machine
end

