-- ==== Sys2Proof/Laws/Image.lean ====
section
/-!
SUPPORT. The memories of a lane are in canonical form as loaded (boot step 3) and as coded at the start.
-/

namespace Sys2Proof.Machine

theorem beBytes_length (n v : Nat) : (beBytes n v).length = n := by
  induction n with
  | zero => rfl
  | succ n ih => simp [beBytes, ih]

/-- The cells of a word are canonical and lie in its eight bytes. -/
theorem wordCells_block (a : Nat) (w : DWord) :
    Store.wfFrom memDefault a (wordCells a w) = true ∧ ∀ p ∈ wordCells a w, p.1 < a + 8 := by
  have h := Store.run_wfFrom memDefault (beBytes 8 w.toNat) a
  rwa [beBytes_length] at h

theorem codedRoutes_block (l : Lane) (rss : Nat) (b : List Byte) :
    Store.wfFrom memDefault 0x02800000 (codedRoutes l rss b) = true ∧ ∀ p ∈ codedRoutes l rss b, p.1 < 0x02800000 + 8 * 131072 :=
  Store.blocks_wfFrom memDefault _ 0x02800000 8 131072 fun i => by
    have h := wordCells_block (routeWordAddr i) (codeWord l (bytesAt b (4 * i) 4) (shortSig rss i) 0)
    exact ⟨h.1, fun p hp => by have := h.2 p hp; simp only [routeWordAddr] at this; omega⟩

/-- The words of section 0x08 kept by a load lie between its bounds. -/
theorem initialLmem_block (lo hi : Nat) (b : List Byte) (f : Nat → Nat → DWord) :
    Store.wfFrom memDefault 0x02900000 (initialLmem lo hi b f) = true ∧
      ∀ p ∈ initialLmem lo hi b f, p.1 < 0x02900000 + 8 * min 131072 (b.length / 8) :=
  Store.blocks_wfFrom memDefault _ 0x02900000 8 _ fun i => by
    by_cases h : lo ≤ 0x02900000 + 8 * i ∧ 0x02900000 + 8 * i < hi
    · simp only [h, and_self, if_true]
      have hw := wordCells_block (0x02900000 + 8 * i) (f (bytesAt b (8 * i) 4) (bytesAt b (8 * i + 4) 4))
      exact ⟨hw.1, fun p hp => by have := hw.2 p hp; omega⟩
    · simp only [h, if_false]
      exact ⟨rfl, fun p hp => by cases hp⟩

/-- The words kept lie below the upper bound, where that bound is a word's address. -/
theorem initialLmem_below (lo hi : Nat) (h8 : hi % 8 = 0) (b : List Byte) (f : Nat → Nat → DWord) :
    ∀ p ∈ initialLmem lo hi b f, p.1 < hi := by
  intro p hp
  obtain ⟨k, -, hk⟩ := List.mem_flatMap.1 hp
  by_cases h : lo ≤ 0x02900000 + 8 * k ∧ 0x02900000 + 8 * k < hi
  · simp only [h, and_self, if_true] at hk
    have := (wordCells_block _ _).2 p hk
    omega
  · simp only [h, if_false] at hk
    cases hk

/-- A lane's memories are canonical as loaded. -/
theorem loadMem_wf (s : State) (bank : Nat) (l : Lane) (split rss : Nat) : Store.wf memDefault (loadMem s bank l split rss) = true := by
  have h1 := Store.run_wfFrom memDefault ((secBytes s bank 1).take 0x400000) 0
  have h2 := Store.run_wfFrom memDefault ((secBytes s bank 7).take 0x200000) 0x02000000
  have h3 := codedRoutes_block l rss (secBytes s bank 6)
  have h4 := initialLmem_block split 0x02A00000 (secBytes s bank 8) mkWord
  have l1 : ((secBytes s bank 1).take 0x400000).length ≤ 0x400000 := List.length_take_le ..
  have l2 : ((secBytes s bank 7).take 0x200000).length ≤ 0x200000 := List.length_take_le ..
  have a1 := Store.wfFrom_append memDefault _ _ 0 0x02000000 (by omega) h1.1 (fun p hp => by have := h1.2 p hp; omega) h2.1
  have b1 : ∀ p ∈ Store.run memDefault 0 ((secBytes s bank 1).take 0x400000) ++ Store.run memDefault 0x02000000 ((secBytes s bank 7).take 0x200000),
      p.1 < 0x02800000 := fun p hp => by
    rcases List.mem_append.1 hp with hp | hp
    · have := h1.2 p hp
      omega
    · have := h2.2 p hp
      omega
  have a2 := Store.wfFrom_append memDefault _ _ 0 0x02800000 (by omega) a1 b1 h3.1
  refine Store.wfFrom_append memDefault _ _ 0 0x02900000 (by omega) a2 (fun p hp => ?_) h4.1
  rcases List.mem_append.1 hp with hp | hp
  · have := b1 p hp
    omega
  · have := h3.2 p hp
    omega

theorem codedObjects_block (s : State) (b : List Byte) (d : Nat) (l : Lane) :
    Store.wfFrom memDefault 0x01000000 (codedObjects s b d l) = true ∧ ∀ p ∈ codedObjects s b d l, p.1 < 0x01000000 + 64 * 131072 :=
  Store.blocks_wfFrom memDefault _ 0x01000000 64 131072 fun i => by
    have h := Store.blocks_wfFrom memDefault
      (fun f => wordCells (omemAddr i f) (codeWord l (if i < initObjects b then initV b i f else 0) (fieldSig s l i f) d))
      (0x01000000 + 64 * i) 8 8 fun f => by
        have hw := wordCells_block (omemAddr i f) (codeWord l (if i < initObjects b then initV b i f else 0) (fieldSig s l i f) d)
        exact ⟨hw.1, fun p hp => by have := hw.2 p hp; simp only [omemAddr] at this; omega⟩
    exact ⟨h.1, fun p hp => by have := h.2 p hp; omega⟩

/-- They stay canonical when the initial contents are coded at the start. -/
theorem codeInitial_wf (s : State) (bank d : Nat) (l : Lane) (h : Store.wf memDefault (s.lane l).mem = true) :
    Store.wf memDefault (((codeInitial s bank d l).lane l).mem) = true := by
  have ho := codedObjects_block s (secBytes s bank 5) d l
  have h1 := Store.replace_wf memDefault (s.lane l).mem _ 0x01000000 0x01800000 (by omega) h ho.1
    (fun p hp => by have := ho.2 p hp; omega)
  have h8 : max 0x02900000 (min (s.lmemSplit l) 0x02A00000) % 8 = 0 := by
    simp only [State.lmemSplit]
    omega
  have h2 := Store.replace_wf memDefault _ _ 0x02900000 (max 0x02900000 (min (s.lmemSplit l) 0x02A00000)) (Nat.le_max_left ..) h1
    (initialLmem_block 0x02900000 _ (secBytes s bank 8) fun v b => codeWord l v b d).1
    (initialLmem_below 0x02900000 _ h8 (secBytes s bank 8) fun v b => codeWord l v b d)
  simpa [codeInitial] using h2

end Sys2Proof.Machine
end

