-- ==== Sys2Proof/WellFormed.lean ====
section
/-!
DEFINITION. Which commands a line, a peer or an instruction word can spell: the ranges the spec gives the operands. The meanings are
total; an ill-formed command stands for nothing that can reach the module.
-/

namespace Sys2Proof

/-- Both below their bounds. -/
def below (n : Nat) (xs : List Nat) : Bool := xs.all fun x => decide (x < n)

/-- The X bits that name a row are the constructor's own and read 0 here (R107, R121, R124, R128). -/
def PervoOp.rowBits (op : PervoOp) (mask : Nat) : Bool := Nat.land op.x.toNat mask = 0

/-- Every row but NOP's stands for its own opcode; a word of another one stands on NOP's, and its OPC is not in the map (R117). -/
def PervoOp.known (op : PervoOp) : Bool := op.other.isNone

def PervoOp.nopWf (op : PervoOp) : Bool :=
  match op.other with
  | some o => !pervoOpcodes.contains o
  | none => true

/-- ns since the latest strobe: a tick has 500,000 (R29). -/
def inTick (n : Nat) : Bool := decide (n < 500000)

def StrobeIn.wf (i : StrobeIn) : Bool :=
  [i.numbers.a, i.numbers.b, i.numbers.c].all fun x =>
    match x with
    | some p => decide (p.1 < 2 ^ 48) && decide (p.2 < 20)
    | none => true

/-- A crown's fields fit their widths (R160). -/
def Crown.wf (c : Crown) : Bool :=
  below (2 ^ 32) [c.cycle, c.dirCrc, c.frameLen] && below (2 ^ 48) [c.headId, c.smId] && below (2 ^ 16) [c.topo, c.brimLen] &&
  below 256 [c.verMaj, c.verMin, c.smPos, c.lastPos] && below (2 ^ 64) [c.headT]

/-- A slice (R163): at most 1,024 payload bytes, codes of 4 bytes. -/
def Slice.wf (b : Slice) : Bool :=
  below 256 [b.pos, b.ifv] && below 4 [b.pair] && below (2 ^ 16) [b.topo] && below (2 ^ 48) [b.stamp] &&
  decide (b.alloc ≤ 1024) && decide (b.payload.length ≤ 1024) && decide (b.code1.length = 4) && decide (b.code2.length = 4)

/-- A brim message (R171). -/
def BrimMsg.wf (m : BrimMsg) : Bool := below 256 [m.mtype, m.src, m.dst] && below (2 ^ 16) [m.seq] && decide (m.body.length < 2 ^ 16)

def Window.wf (w : Window) : Bool := below 256 [w.pos] && w.msgs.all BrimMsg.wf

/-- A RUN frame has four join slots (R170). -/
def RunFrame.wf (f : RunFrame) : Bool :=
  f.crown.wf && f.slices.all Slice.wf && decide (f.joins.length = 4) && (f.joins.all fun j => match j with | some m => m.wf | none => true) &&
  f.windows.all Window.wf

def ClaimFrame.wf (f : ClaimFrame) : Bool := f.crown.wf && below 256 [f.prio, f.vmin, f.vmax, f.round] && below (2 ^ 48) [f.id]

def InaugHead.wf (h : InaugHead) : Bool :=
  h.crown.wf && below 256 [h.attempt, h.hPrio, h.hVmin, h.hVmax] && below (2 ^ 32) [h.layoutCrc, h.loop, h.tR]

def RollRec.wf (r : RollRec) : Bool :=
  below (2 ^ 48) [r.uid] && below 256 [r.vmin, r.vmax, r.prio, r.endpoints] && below (2 ^ 16) [r.allocDn, r.allocUp, r.credit, r.dly, r.lastTopo] &&
  below 2 [r.orient]

def InaugFrame.wf : InaugFrame → Bool
  | .roll h rs => h.wf && rs.all RollRec.wf
  | .layout h m => h.wf && m.wf
  | .measure h ds => h.wf && below 255 (ds.map fun d => d.1)
  | .ack h dly acks => h.wf && below 255 (dly.map fun d => d.1) && below 255 (acks.map fun a => a.1)
  | .echo h => h.wf

def RingFrame.wf : RingFrame → Bool
  | .run f => f.wf
  | .claim f => f.wf
  | .inaug f => f.wf

def PassIn.wf (i : PassIn) : Bool := inTick i.sinceStrobe

/-- A bridge message (R243): its length field counts its data, up to 1,024 bytes. -/
def BrgMsg.wf (m : BrgMsg) : Bool :=
  below 16 [m.op] && below (2 ^ 16) [m.tag, m.lseq, m.btopo] && below (2 ^ 32) [m.id, m.rid] && below 256 [m.cause] &&
  decide (m.dlen ≤ 1024) && decide (m.data.length ≤ 1024)

def Heartbeat.wf (h : Heartbeat) : Bool :=
  below 8 [h.mode] && below 4 [h.readiness] && below 2 [h.rank] && below 20 [h.tick] && below (2 ^ 48) [h.id, h.e, h.committed] &&
  below (2 ^ 64) [h.t, h.tEcho] && below (2 ^ 32) [h.echoAge]

/-- A tinning record has eight words (R302). -/
def TinRec.wf (r : TinRec) : Bool :=
  below 131072 [r.obj] && decide (r.v.length = 8) && below (2 ^ 32) (r.rseq :: r.v) && below (2 ^ 48) [r.e]

def Marker.wf (m : Marker) : Bool :=
  below 4 [m.pair] && below (2 ^ 16) [m.schema] && below (2 ^ 48) [m.e] && below (2 ^ 32) [m.rcount, m.scrc] &&
  decide (m.code1.length = 4) && decide (m.code2.length = 4)

def EthFrame.wf (f : EthFrame) : Bool := decide (f.len < 2 ^ 16) && decide (f.fill ≤ 32768)

/-- Well-formed commands. -/
def Instr.wf : Instr → Bool
  | .tickStrobe i => i.wf
  | .ptpSync p _ => p ≠ .mgt
  | .voteRound1Digest src dst => src ≠ dst
  | .voteRound2Agreement src dst => src ≠ dst
  | .old op => op.rowBits 0x80 && op.known
  | .oldCarry op => op.rowBits 0x80 && op.known
  | .flankReserve op => op.rowBits 1 && op.known
  | .flankRelease op => op.rowBits 1 && op.known
  | .elchkAvailable op => op.rowBits 3 && op.known
  | .elchkClear op => op.rowBits 3 && op.known
  | .elchkDetected op => op.rowBits 3 && op.known
  | .elchkOverlap op => op.rowBits 3 && op.known
  -- X[1:0] = 3, a kind that VPUB leaves unused, stands here (R128)
  | .vpubLocal op => (op.rowBits 3 || Nat.land op.x.toNat 3 = 3) && op.known
  | .vpubSlice op => op.rowBits 3 && op.known
  | .vpubHexlo op => op.rowBits 3 && op.known
  | .nop op => op.nopWf
  | .br op | .brp op | .call op | .ret op | .epochend op | .halt op | .fence op | .cadd op | .csub op | .cmul op | .cand op | .cor op
  | .cxor op | .cnot op | .csel op | .cmov op | .cldi op | .cshl op | .cshr op | .ccmp op | .aset op | .aadd op | .aidx op | .ost op
  | .obit op | .oscn op | .rtreq op | .rtlock op | .rtrel op | .tstart op | .tchk op | .slrd op | .slwr op | .hxsend op | .hxrecv op
  | .brsend op | .csrr op | .csrw op | .syscall op | .iret op | .waiti op => op.known
  | .runFramePassage _ f i => f.wf && i.wf
  | .frameReturn _ f _ => f.wf
  | .claimFrame _ _ t f => inTick t && f.wf
  | .rollPassage _ h rs i => (InaugFrame.roll h rs).wf && i.wf
  | .echoPassage _ h i => h.wf && i.wf
  | .layoutPassage _ h m i => (InaugFrame.layout h m).wf && i.wf
  | .measurePassage _ h ds i => (InaugFrame.measure h ds).wf && i.wf
  | .ackPassage _ h dly acks i => (InaugFrame.ack h dly acks).wf && i.wf
  | .foreignFrame _ _ c => c.wf
  | .ethFrameRx _ f => f.wf
  | .hexloDatagram _ _ bs => decide (bs.length < 2 ^ 16)
  -- the messages of a ring's windows come with their frame (R258)
  | .bridgeMessageIngress p src m => m.wf && decide (8 ≤ p.toNat) && decide (p.toNat < 12) && decide (src.udp < 2 ^ 16)
  | .bridgeAnswer p _ m => m.wf && decide (8 ≤ p.toNat) && decide (p.toNat < 12)
  | .pairHeartbeat _ h t => h.wf && inTick t
  | .tinningBlock _ _ rs => decide (1 ≤ rs.length) && decide (rs.length ≤ 16) && rs.all TinRec.wf
  | .tinMarker _ m t => m.wf && inTick t
  | .healthReport _ bs => decide (bs.length = 64)
  | .feedSample _ _ store _ => decide (store.toNat ≤ 100)
  | .testPulseStart ch => decide (ch.toNat < 24)
  | .overcurrent ch => decide (ch.toNat < 24)
  | .feedbackTimeout ch => decide (ch.toNat < 24)
  | .interruptEntry _ e => e ≠ .fetchUncorr
  | .ptpLockLost | .ppsInEdge _ | .laneLinkDown _ | .gateFrame _ | .gateLinkTimeout _ | .laneRetireRequest _ _ | .deepAssayEnd _ _
  | .deepAssayTimeout _ | .waitiWake _ | .holdoffExpiry _ _ | .picClr _ _ | .picSet _ _
  | .laneMbxUpPost _ _ | .laneMbxUpPop _ | .laneMbxDnPost _ _ | .laneMbxDnPop _ | .regWrite _ _ _ _ | .rcRead _ _ | .loReadLatch _ _
  | .linkChange _ _ _ | .remoteFault _ _ | .unwrap _ _ | .bandMissedCycle _ | .bandArmReq _ | .bandConfirm _ _ _ | .noCrownTimeout _
  | .claimTimeout _ | .inaugBackoffEnd _ | .overBudgetRetry _ | .releaseHead _ | .reinaug _ | .portIsolate _ _ | .portIsolateEnd _ _ _
  | .ethLinkChange _ _ _ | .arpRequest _ _ _ _ | .icmpEchoRequest _ _ _ | .arpRefresh _ | .igmpReport _ | .hexloWindowClose _ _
  | .hexloGapTimeout _ | .hexloSessionStale _ | .hexloAutoReopen _ | .hexloDegraded _ | .hxlCmdResync _ | .hxlCmdReopen _ | .hxlCmdClose _
  | .bridgeMessageSend _ | .bridgeTimeout _ | .domainResume _ | .domainFlush _ | .brgFqPop | .brgEpRead _ _ | .brgEpLock _ _
  | .brgEpUnlock _ _ | .brgEpRxPop _ | .brgEpAnPop _ | .lockExpiry _ | .prefetchExpiry | .ioSample _ | .testPulseEnd _
  | .vfUndervoltage _ _ _ | .vfOvervoltage _ _ | .ioFltClr _ _ | .ioConfirm _ _ | .brkTestReq _ _ | .brakeTestTimeout _
  | .brakeValidityWarning _ | .brakeValidityLapse _ | .pairSilence | .pairLinkChange _ _ | .tinMarkerSend | .pairSwitch _ _ | .pairResync
  | .powerFailSequence | .powerFailRestart | .pwrReqWrite _ _ _ | .handshakeAnswer | .handshakeTimeout | .powerStateReached
  | .dormAfterExpiry | .wakeInput _ _ | .wakeRingActivity _ _ | .wakeTimer | .pwrWakeCmd _ | .wakeReadySignal _ | .wakeStepTimeout _
  | .wakeRetry | .pwrPadRelease | .pwrRestart _ _ | .powerOn | .rstNQualified | .rstNStuck | .rstNIgnoreEnd | .moduleReset _
  | .hallmarkAgreement _ | .tokenCommission | .tokenOperate | .tokenService | .tokenRetire | .tokenRoot | .tokenRevoke | .tokenMaint
  | .tokenClear | .tokenFloor | .tokenCheckComplete | .endService | .serviceEnTimeout | .secStartGo | .commitReq | .bankVerify
  | .bankVerifyDone | .bankSwitch _ | .bankConfirm | .norErase _ | .norProgram _ | .norOpDone _ | .quote | .quoteDone | .keyload _ _ _
  | .keyset _ _ | .kcv _ _ | .hxkeyload _ _ _ | .assaySliceStart _ | .assaySliceEnd _ _ | .assayRotationLate _ | .manualBistStart
  | .manualBistEnd _ _ | .cvuScanStart _ _ _ | .cvuAbort _ _ _ | .cvuInit _ _ _ | .cvuDataW _ _ _ | .cvuDataB _ _ _ | .cvuScanEnd _ _ _
  | .recordWrite _ | .recRead _ | .recReadDone | .recEraseDone | .tickStrobeMissing _ | .laneLinkUp _ | .rstNRelease | .powerLoss => true

end Sys2Proof
end

