-- ==== Sys2Proof/Tests/Slice0.lean ====
section
/-!
SUPPORT. Tests on small states: ill-formed commands are refused, values the spec gives in its worked examples and tables, and for every
statement with hypotheses a state and operands that meet them.
-/

namespace Sys2Proof.Tests

open Sys2Proof.Machine Sys2Proof.Safety

set_option Elab.async false

/-! ### Small states -/

/-- A machine in RUN and ACTIVE in epoch 7, its lanes STARTING or VOTING as told. -/
def base : State :=
  let lane : LaneSt := { LaneSt.init with st := .voting, frozenE := 7, time := { LaneTime.init with epoch := 7 } }
  { State.reset with mode := .active, lanes := ⟨lane, lane, lane⟩, time := { TimeSt.init with epoch := 7, isSet := true, started := true, t := 70000000 } }

/-- A thread that runs at address 0. -/
def runs (t : Thr) (s : State) : State := s.setThread t { s.thread t with run := .running }

/-- Put v under signature b, coded for the lane's D, into C register n of lane l's SAFE thread. -/
def putC (l : Lane) (n v b : Nat) (s : State) : State :=
  s.updThread (.safe l) fun t => putReg t ⟨false, n⟩ (codeWord l v b (s.dNow l)) (some (BitVec.ofNat 32 b))

def putP (l : Lane) (n v b : Nat) (s : State) : State :=
  s.updThread (.safe l) fun t => putReg t ⟨true, n⟩ (codeWord l v b (s.dNow l)) (some (BitVec.ofNat 32 b))

def putA (t : Thr) (n : Nat) (w : Word) (s : State) : State :=
  s.updThread t fun x => { x with a := Store.put (fun _ => 0) x.a n w }

/-- An instruction with D, S1, S2, X, IMM. -/
def ins (t : Thr) (d s1 s2 : BitVec 5) (x : BitVec 9) (imm : Word) : PervoOp := ⟨t, d, s1, s2, x, imm, .good, none⟩

/-- A field of an object of lane l: v coded for the lane's D under the field signature. -/
def putField (l : Lane) (i f v : Nat) (s : State) : State :=
  s.updLane l fun x => { x with mem := memSetWord x.mem (omemAddr i f) (codeWord l v (fieldSig s l i f) (s.dNow l)) }

/-- Region descriptor n of a thread: readable and writable from b to the 8-byte cell of e. -/
def region (t : Thr) (n b e : Nat) (s : State) : State :=
  (s.wr (rgnKey t n) (BitVec.ofNat 32 (b + 3))).wr (rgnKey t n + 1) (BitVec.ofNat 32 e)

/-- IMM of an object reference. -/
def ref (i f : Nat) : Word := BitVec.ofNat 32 (i * 32768 + f * 4096)

theorem forall_lane {p : Lane → Prop} (ha : p .a) (hb : p .b) (hc : p .c) : ∀ l, p l := by
  intro l
  cases l
  · exact ha
  · exact hb
  · exact hc

/-- The state after a command. -/
def issued (s : State) (i : Instr) : State :=
  match exec i s with
  | .next t => t
  | _ => State.reset

/-! ### Sample operands -/

def crown0 : Crown := ⟨true, 1, 0, 9, 4, 5, 0, 255, false, 3, false, 0, 100, 77, 0, 0, 0⟩
def slice0 : Slice := ⟨true, 1, true, true, false, false, 0, 0, 0, 4, 4, 9, [], [0, 0, 0, 0], [0, 0, 0, 0]⟩
def msg0 : BrimMsg := ⟨true, 1, 1, 2, 0, []⟩
def run0 : RunFrame := ⟨crown0, [slice0], [none, none, none, none], [⟨true, false, 1, [msg0]⟩]⟩
def head0 : InaugHead := ⟨crown0, true, 1, 2, 1, 1, 0, 0, 0⟩
def rec0 : RollRec := ⟨true, 7, 1, 1, true, true, false, 2, 0, 0, 0, 0, 0, 0, 0, false, false⟩
def claim0 : ClaimFrame := ⟨crown0, true, 2, 1, 1, true, 7, 1⟩
def pass0 : PassIn := ⟨.east, 0, 0, 0, 0⟩
def ret0 : RetIn := ⟨true, 0, 0, 0⟩
def brg0 : BrgMsg := ⟨1, false, false, false, 3, 4, 5, 0, 0, 0, 0, []⟩
def beat0 : Heartbeat := ⟨true, 3, false, false, false, 2, 0, 3, 9, 7, 0, 0, 0, 7⟩
def tin0 : TinRec := ⟨true, 5, false, [0, 0, 0, 0, 0, 0, 0, 0], 0, 7⟩
def mark0 : Marker := ⟨true, false, true, false, 1, 3, 7, 0, 0, 0, 0, 0, [0, 0, 0, 0], [0, 0, 0, 0]⟩
def strobe0 : StrobeIn := ⟨.all 500000, .all (some 0), .all false, .all none, 0, 0, 0, false, 0⟩

def ptp0 : PtpMeas := ⟨0, 0, 0, false, false, 0, true⟩

/-! ### Ill-formed commands are refused, one for each check -/

/-- The well-formed ones pass. -/
theorem test_wf_good : ([.tickStrobe strobe0, .runFramePassage 0 run0 pass0, .frameReturn 0 (.run run0) ret0, .claimFrame 0 .east 0 claim0,
    .rollPassage 0 head0 [rec0] pass0, .bridgeMessageIngress 8 ⟨0, 54321⟩ brg0, .pairHeartbeat false beat0 0, .tinningBlock true true [tin0],
    .tinMarker true mark0 0, .old (ins .mgmt 0 0 0 0 0), .vpubLocal (ins .mgmt 0 0 0 3 0),
    .nop { ins .mgmt 0 0 0 0 0 with other := some 0xFF }] : List Instr).all Instr.wf = true := by decide +kernel

/-- X bits that name the row, and who measures, sends and reports. -/
theorem test_wf_rows : ([.old (ins .mgmt 0 0 0 0x80 0), .oldCarry (ins .mgmt 0 0 0 0x80 0), .flankReserve (ins .mgmt 0 0 0 1 0),
    .flankRelease (ins .mgmt 0 0 0 1 0), .elchkAvailable (ins .mgmt 0 0 0 1 0), .elchkClear (ins .mgmt 0 0 0 2 0),
    .elchkDetected (ins .mgmt 0 0 0 3 0), .elchkOverlap (ins .mgmt 0 0 0 1 0), .vpubLocal (ins .mgmt 0 0 0 1 0), .vpubSlice (ins .mgmt 0 0 0 2 0),
    .cadd { ins .mgmt 0 0 0 0 0 with other := some 0xFF }, .nop { ins .mgmt 0 0 0 0 0 with other := some 0x10 },
    .vpubHexlo (ins .mgmt 0 0 0 3 0), .ptpSync .mgt ptp0, .voteRound1Digest .a .a, .voteRound2Agreement .b .b,
    .interruptEntry .mgmt .fetchUncorr, .tickStrobe { strobe0 with numbers := .all (some (0, 20)) },
    .tickStrobe { strobe0 with numbers := .all (some (2 ^ 48, 0)) }, .testPulseStart 24, .overcurrent 24, .feedbackTimeout 24,
    .feedSample 0 0 101 true, .healthReport false [0]] : List Instr).all (fun i => !i.wf) = true := by decide +kernel

/-- Ring frames. -/
theorem test_wf_frames : ([.runFramePassage 0 { run0 with crown := { crown0 with cycle := 2 ^ 32 } } pass0,
    .runFramePassage 0 { run0 with crown := { crown0 with headId := 2 ^ 48 } } pass0,
    .runFramePassage 0 { run0 with crown := { crown0 with topo := 2 ^ 16 } } pass0,
    .runFramePassage 0 { run0 with crown := { crown0 with smPos := 256 } } pass0,
    .runFramePassage 0 { run0 with crown := { crown0 with verMin := 256 } } pass0, .foreignFrame 0 .east { crown0 with lastPos := 256 },
    .runFramePassage 0 { run0 with slices := [{ slice0 with pos := 256 }] } pass0, .runFramePassage 0 { run0 with slices := [{ slice0 with pair := 4 }] } pass0,
    .runFramePassage 0 { run0 with slices := [{ slice0 with topo := 2 ^ 16 }] } pass0, .runFramePassage 0 { run0 with slices := [{ slice0 with stamp := 2 ^ 48 }] } pass0,
    .runFramePassage 0 { run0 with slices := [{ slice0 with alloc := 1025 }] } pass0, .runFramePassage 0 { run0 with slices := [{ slice0 with code1 := [] }] } pass0,
    .runFramePassage 0 { run0 with slices := [{ slice0 with code2 := [0] }] } pass0, .runFramePassage 0 { run0 with joins := [] } pass0,
    .runFramePassage 0 { run0 with joins := [none, none, none, some { msg0 with seq := 2 ^ 16 }] } pass0,
    .runFramePassage 0 { run0 with windows := [⟨true, false, 256, []⟩] } pass0, .runFramePassage 0 { run0 with windows := [⟨true, false, 1, [{ msg0 with dst := 256 }]⟩] } pass0,
    .runFramePassage 0 run0 { pass0 with sinceStrobe := 500000 }] : List Instr).all (fun i => !i.wf) = true := by decide +kernel

/-- Claims, inaugurations. -/
theorem test_wf_inaug : ([.claimFrame 0 .east 500000 claim0, .claimFrame 0 .east 0 { claim0 with prio := 256 }, .claimFrame 0 .east 0 { claim0 with id := 2 ^ 48 },
    .rollPassage 0 { head0 with attempt := 256 } [] pass0, .rollPassage 0 { head0 with tR := 2 ^ 32 } [] pass0, .rollPassage 0 head0 [{ rec0 with uid := 2 ^ 48 }] pass0,
    .rollPassage 0 head0 [{ rec0 with prio := 256 }] pass0, .rollPassage 0 head0 [{ rec0 with dly := 2 ^ 16 }] pass0, .rollPassage 0 head0 [{ rec0 with orient := 2 }] pass0,
    .echoPassage 0 { head0 with hPrio := 256 } pass0, .layoutPassage 0 head0 { msg0 with mtype := 256 } pass0, .measurePassage 0 head0 [(255, 0, 0)] pass0,
    .ackPassage 0 head0 [(255, 0)] [] pass0, .ackPassage 0 head0 [] [(255, 0, true)] pass0, .frameReturn 0 (.claim { claim0 with round := 256 }) ret0,
    .frameReturn 0 (.inaug (.measure head0 [(255, 0, 0)])) ret0] : List Instr).all (fun i => !i.wf) = true := by decide +kernel

/-- Bridge, pair and Ethernet. -/
theorem test_wf_links : ([.bridgeMessageIngress 8 ⟨0, 0⟩ { brg0 with op := 16 }, .bridgeMessageIngress 8 ⟨0, 0⟩ { brg0 with tag := 2 ^ 16 },
    .bridgeMessageIngress 8 ⟨0, 0⟩ { brg0 with id := 2 ^ 32 }, .bridgeMessageIngress 7 ⟨0, 0⟩ brg0, .bridgeMessageIngress 12 ⟨0, 0⟩ brg0,
    .bridgeMessageIngress 8 ⟨0, 2 ^ 16⟩ brg0, .bridgeAnswer 7 0 brg0, .bridgeAnswer 12 0 brg0, .bridgeAnswer 8 0 { brg0 with cause := 256 }, .bridgeAnswer 8 0 { brg0 with dlen := 1025 },
    .bridgeAnswer 8 0 { brg0 with data := List.replicate 1025 0 }, .pairHeartbeat false { beat0 with mode := 8 } 0, .pairHeartbeat false { beat0 with readiness := 4 } 0,
    .pairHeartbeat false { beat0 with rank := 2 } 0, .pairHeartbeat false { beat0 with tick := 20 } 0, .pairHeartbeat false { beat0 with e := 2 ^ 48 } 0,
    .pairHeartbeat false { beat0 with t := 2 ^ 64 } 0, .pairHeartbeat false { beat0 with echoAge := 2 ^ 32 } 0, .pairHeartbeat false beat0 500000,
    .tinningBlock true true [], .tinningBlock true true (List.replicate 17 tin0), .tinningBlock true true [{ tin0 with obj := 131072 }],
    .tinningBlock true true [{ tin0 with v := [] }], .tinningBlock true true [{ tin0 with rseq := 2 ^ 32 }], .tinningBlock true true [{ tin0 with e := 2 ^ 48 }],
    .tinMarker true { mark0 with pair := 4 } 0, .tinMarker true { mark0 with schema := 2 ^ 16 } 0, .tinMarker true { mark0 with rcount := 2 ^ 32 } 0,
    .tinMarker true { mark0 with e := 2 ^ 48 } 0, .tinMarker true { mark0 with code1 := [] } 0, .tinMarker true { mark0 with code2 := [] } 0,
    .tinMarker true mark0 500000, .ethFrameRx .a ⟨true, 2 ^ 16, none, .ptp, 0⟩] : List Instr).all (fun i => !i.wf) = true := by decide +kernel

/-! ### Words of Pervo: OPC [63:56], D [55:51], S1 [50:46], S2 [45:41], X [40:32], IMM [31:0] (R107) -/

/-- One word of each family, in lane A's SAFE thread: D = 3, S1 = 1, S2 = 2, then X and IMM. -/
theorem test_words : decodePervo (.safe .a) 0x1018440000000005 .good = .cadd (ins (.safe .a) 3 1 2 0 5) ∧
    decodePervo (.safe .a) 0x207844050000002A .good = .ccmp (ins (.safe .a) 15 1 2 5 42) ∧
    decodePervo (.safe .a) 0x28F8000000000009 .good = .aset (ins (.safe .a) 31 0 0 0 9) ∧
    decodePervo (.safe .a) 0x09004001FFFFFFFF .good = .brp (ins (.safe .a) 0 1 0 1 0xFFFFFFFF) ∧
    decodePervo (.safe .a) 0x3818000000012000 .good = .old (ins (.safe .a) 3 0 0 0 0x12000) ∧
    decodePervo (.safe .a) 0x407840000000004D .good = .rtreq (ins (.safe .a) 15 1 0 0 77) ∧
    decodePervo (.safe .a) 0x4800000000007000 .good = .tstart (ins (.safe .a) 0 0 0 0 0x7000) ∧
    decodePervo (.safe .a) 0x50188009000000FF .good = .slrd (ins (.safe .a) 3 2 0 9 255) ∧
    decodePervo .mgmt 0x601800000000002F .good = .csrr (ins .mgmt 3 0 0 0 0x2F) := by
  simp [decodePervo, pervoFields, pervoX, ins]

/-- Forms that X selects within an opcode: carry, FLANK, ELCHK and VPUB. -/
theorem test_words_forms : decodePervo (.safe .a) 0x3818008000012000 .good = .oldCarry (ins (.safe .a) 3 0 0 0 0x12000) ∧
    decodePervo (.safe .a) 0x437840010000004D .good = .flankReserve (ins (.safe .a) 15 1 0 0 77) ∧
    decodePervo (.safe .a) 0x437840000000004D .good = .flankRelease (ins (.safe .a) 15 1 0 0 77) ∧
    decodePervo (.safe .a) 0x447840030000004D .good = .elchkOverlap (ins (.safe .a) 15 1 0 0 77) ∧
    decodePervo (.safe .a) 0x5800400000000000 .good = .vpubLocal (ins (.safe .a) 0 1 0 0 0) ∧
    decodePervo (.safe .a) 0x58000601EFC00000 .good = .vpubSlice (ins (.safe .a) 0 0 3 0 0xEFC00000) ∧
    decodePervo (.safe .a) 0x58008602FE000000 .good = .vpubHexlo (ins (.safe .a) 0 2 3 0 0xFE000000) := by
  simp [decodePervo, pervoElchk, pervoVpub, pervoFields, pervoX, ins]

/-- A word whose OPC the map lacks is undefined; the words of all zeros and all ones are such words (R115). -/
theorem test_words_undefined : decodePervo .mgmt 0 .good = .nop { ins .mgmt 0 0 0 0 0 with other := some 0 } ∧
    decodePervo .mgmt 0xFFFFFFFFFFFFFFFF .good = .nop { ins .mgmt 31 31 31 511 0xFFFFFFFF with other := some 0xFF } ∧
    (Instr.nop { ins .mgmt 0 0 0 0 0 with other := some 7 }).wf = true := by
  refine ⟨?_, ?_, by decide +kernel⟩ <;> simp [decodePervo, pervoFields, pervoX, ins]

/-- No word spells a command: the table gives no bits. -/
theorem test_no_word : decodeTableWord 8 0 = none ∧ State.reset.withFetchWord 8 0 = State.reset := by decide +kernel

/-! ### Coded and plain instructions -/

/-- The multiply of the worked example of R118: v1 = 100,000 under 3,000,017 and v2 = 50,000 under 3,000,029 in lane A. -/
def mulState : State :=
  let s := { base with lanes := ⟨{ base.lanes.a with frozenE := 628900864 }, base.lanes.b, base.lanes.c⟩ }
  putP .a 1 1 5 (putC .a 2 50000 3000029 (putC .a 1 100000 3000017 (runs (.safe .a) s)))

def alu : PervoOp := ins (.safe .a) 3 1 2 0 3000041

theorem test_cmul_worked_example : (issued mulState (.cmul alu)).reg (.safe .a) ⟨false, 3⟩ = 0x2A05F20020918C3C := by decide +kernel

theorem test_cadd : wordV ((issued mulState (.cadd alu)).reg (.safe .a) ⟨false, 3⟩) = 150000 := by decide +kernel

/-- A subtraction that borrows wraps. -/
theorem test_csub_wraps :
    wordV ((issued mulState (.csub { alu with s1 := 2, s2 := 1 })).reg (.safe .a) ⟨false, 3⟩) = 4294917296 := by decide +kernel

theorem test_shift_and_not : wordV ((issued mulState (.cshl { alu with s2 := 0, x := 31 })).reg (.safe .a) ⟨false, 3⟩) = 0 ∧
    wordV ((issued mulState (.cshr { alu with s2 := 0, x := 5 })).reg (.safe .a) ⟨false, 3⟩) = 3125 ∧
    wordV ((issued mulState (.cnot { alu with s2 := 0 })).reg (.safe .a) ⟨false, 3⟩) = 4294867295 := by decide +kernel

theorem test_unwritten_operand_withdraws : ((issued mulState (.cadd { alu with s2 := 9 })).lane .a).st = .withdrawn := by decide +kernel

theorem test_aidx_scales : (issued (runs .mgmt base) (.aidx (ins .mgmt 1 2 3 3 8))).areg .mgmt 1 = 8 := by decide +kernel

theorem wit_SafeArithmetic : alu.thr = .safe .a ∧ Issues alu mulState ∧ alu.imm.toNat < codeP ∧ xBits alu 5 0 = 0 ∧ (dst alu).legal = true ∧
    (src1 alu).legal = true ∧ (src2 alu).legal = true ∧ opndOk mulState alu.thr (src1 alu) = true ∧ opndOk mulState alu.thr (src2 alu) = true := by
  unfold Issues; decide +kernel

/-- The largest signature, and a predicate source and destination. -/
theorem wit_SafeShiftsMovesAndSelects_1 :
    let op := ins (.safe .a) 15 1 0 0x180 4294967290
    op.thr = .safe .a ∧ Issues op mulState ∧ op.imm.toNat < codeP ∧ op.s2 = 0 ∧ (dst op).legal = true ∧ (src1 op).legal = true ∧
    opndOk mulState op.thr (src1 op) = true ∧ xBits op 6 5 = 0 ∧ xBits op 6 0 = 0 := by
  unfold Issues; decide +kernel

theorem wit_SafeShiftsMovesAndSelects_2 :
    let op := ins (.safe .a) 3 1 2 1 3000041
    let cm := ins (.safe .a) 15 1 2 5 3000041
    let li := ins (.safe .a) 3 0 0 63 0xFFFFFFFF
    (Issues op mulState ∧ op.imm.toNat < codeP ∧ (src1 op).legal = true ∧ (src2 op).legal = true ∧ opndOk mulState op.thr (src1 op) = true ∧
      opndOk mulState op.thr (src2 op) = true ∧ (dst op).legal = true ∧ xBits op 5 4 = 0 ∧ opndOk mulState op.thr (selPred op) = true) ∧
    (Issues cm mulState ∧ opndOk mulState cm.thr (src1 cm) = true ∧ opndOk mulState cm.thr (src2 cm) = true ∧ cm.x.getLsbD 8 = false ∧ xBits cm 5 3 = 0 ∧
      xBits cm 2 0 < 6 ∧ cm.d.toNat < 16) ∧
    (Issues li mulState ∧ li.s1 = 0 ∧ xBits li 7 6 = 0 ∧ (dst li).legal = true) := by
  unfold Issues; decide +kernel

/-- Words whose OPC the map lacks, the lowest and the highest among them. -/
theorem wit_BadOperandsAndEncodings_words : ∀ p ∈ [((0 : DWord), 0), (0x0700000000000000, 7), (0xFFFFFFFFFFFFFFFF, 255)],
    p.1.toNat / 2 ^ 56 = p.2 ∧ p.2 ∉ pervoOpcodes.map BitVec.toNat := by decide +kernel

theorem wit_BadOperandsAndEncodings :
    let op := { alu with s2 := 9 }
    let nop := ins .mgmt 0 0 1 0 0
    let m := runs .mgmt base
    ((m.thread .mgmt).run = .running ∧ fetchOk .mgmt (m.thread .mgmt).pc = true ∧ (mulState.thread (.safe .a)).run = .running ∧
      fetchOk (.lane .a) (mulState.thread (.safe .a)).pc = true) ∧
    (op.thr = .safe .a ∧ Issues op mulState ∧ op.imm.toNat < codeP ∧ xBits op 5 0 = 0 ∧ (dst op).legal = true ∧ (src1 op).legal = true ∧
      (src2 op).legal = true ∧ (opndOk mulState op.thr (src1 op) = false ∨ opndOk mulState op.thr (src2 op) = false)) ∧
    (Issues nop (runs .mgmt base) ∧ nop.s2 ≠ 0) := by
  unfold Issues; decide +kernel

/-- One operand form of each clause, in the management thread. -/
theorem wit_PlainArithmetic :
    let op := ins .mgmt 3 1 2 0 0
    let op1 := ins .mgmt 3 1 0 31 0
    let cm := ins .mgmt 15 1 2 5 0
    op.thr.isSafe = false ∧ Issues op (runs .mgmt base) ∧ (dst op).legal = true ∧ (src1 op).legal = true ∧ (src2 op).legal = true ∧ xBits op 5 0 = 0 ∧
    xBits op 5 4 = 0 ∧ (op1.s2 = 0 ∧ xBits op1 6 5 = 0) ∧ (cm.x.getLsbD 8 = false ∧ xBits cm 5 3 = 0 ∧ xBits cm 2 0 < 6 ∧ cm.d.toNat < 16) ∧
    ((ins .mgmt 3 0 0 0 0).s1 = 0 ∧ xBits (ins .mgmt 3 0 0 0 0) 7 6 = 0 ∧ xBits (ins .mgmt 3 1 0 0 0) 6 0 = 0) := by
  unfold Issues; decide +kernel

theorem wit_AddressRegisters :
    let op := ins (.safe .a) 15 0 0 0 9
    let ix := ins (.safe .a) 15 15 1 3 9
    Issues op mulState ∧ op.d.toNat < 16 ∧ op.x = 0 ∧ op.s1 = 0 ∧ op.s2 = 0 ∧
    (Issues ix mulState ∧ xBits ix 8 2 = 0 ∧ ix.s1.toNat < 16 ∧ opndOk mulState ix.thr ⟨false, ix.s2.toNat⟩ = true) := by
  unfold Issues; decide +kernel

theorem wit_ControlFlow :
    let op := ins (.safe .a) 0 0 0 0 0
    let bp := ins (.safe .a) 0 1 0 1 4
    Issues op mulState ∧ op.d = 0 ∧ op.s2 = 0 ∧ op.s1 = 0 ∧ op.x = 0 ∧ op.imm = 0 ∧
    (Issues bp mulState ∧ xBits bp 8 1 = 0 ∧ bp.s1.toNat < 16 ∧ opndOk mulState bp.thr ⟨true, bp.s1.toNat⟩ = true) := by
  unfold Issues; decide +kernel

theorem test_call_pushes : ((issued (runs .mgmt base) (.call (ins .mgmt 0 0 0 0 4))).thread .mgmt).pc = 32 ∧
    ((issued (runs .mgmt base) (.call (ins .mgmt 0 0 0 0 4))).thread .mgmt).rstack = [8] := by decide +kernel

theorem wit_EndsOfIssue :
    let op := ins (.safe .a) 0 0 0 0 0
    let m := ins .mgmt 0 0 0 0 0
    (Issues op mulState ∧ op.d = 0 ∧ op.s1 = 0 ∧ op.s2 = 0 ∧ op.x = 0 ∧ op.thr = .safe .a ∧ op.imm = 0) ∧
    (Issues m (runs .mgmt base) ∧ m.thr.isSafe = false ∧ m.imm = 0 ∧ ((runs .mgmt base).thread m.thr).handler = false ∧
      (runs .mgmt base).engineOn m.thr.engine = true) := by
  unfold Issues; decide +kernel

/-! ### Memory, objects, routes -/

/-- Word w of lane l's route region, statically coded. -/
def putRoute (l : Lane) (w v : Nat) (s : State) : State :=
  s.updLane l fun x => { x with mem := memSetWord x.mem (routeWordAddr w) (codeWord l v w 0) }

/-- A word of lane l's memory coded for the present D. -/
def putCoded (l : Lane) (a v b : Nat) (s : State) : State :=
  s.updLane l fun x => { x with mem := memSetWord x.mem a (codeWord l v b (s.dNow l)) }

theorem forall_below_zero {p : Nat → Prop} : ∀ m, m < 0 → p m := fun _ h => absurd h (Nat.not_lt_zero _)

/-- Object 131,071, the last: its fields 0 to 7, and SAFE memory with two descriptors. -/
def objState : State :=
  let s := runs (.sys .b) (runs (.safe .b) base)
  let s := [0, 1, 2, 7].foldl (fun s f => putField .b 131071 f (5 * 2 ^ 26 + 2 ^ 20 + f) s) s
  let s := (s.setF (LANE_LMEM_SPLIT_SPLIT .b) 0x298)
  let s := putA (.sys .b) 2 0x0297FFF8 (putA (.safe .b) 2 0x0297FFF8 (putA (.safe .b) 3 0x02980000 s))
  let s := putCoded .b 0x0297FFF8 77 (shortSig 9 1) s
  putC .b 4 1 3 (putC .b 5 1000000 3 (region (.sys .b) 2 0x02900000 0x02990000 (region (.safe .b) 3 0x02980000 0x02980000 (region (.safe .b) 2 0x0297FFF0 0x0297FFF8 s))))

theorem test_field_address : omemAddr 131071 7 = 0x017FFFF8 := by decide +kernel

theorem test_short_signature : shortSig 2047 2097151 = 4294967295 % 4294967291 := by decide +kernel

theorem wit_Loads :
    let o := ins (.safe .b) 3 0 0 0 (ref 131071 2)
    let y := ins (.sys .b) 3 0 0 0 (ref 131071 2)
    let g := ins (.safe .b) 3 0 0 0x40 (ref 131071 2 + 31 * 64)
    let a := ins (.safe .b) 3 2 0 0x109 0
    let a3 := ins (.safe .b) 3 3 0 0x109 0
    let ap := ins (.sys .b) 3 2 0 0x100 0
    (o.thr = .safe .b ∧ y.thr = .sys .b ∧ Issues o objState ∧ Issues y objState ∧ (datum o).legal = true ∧ xBits o 8 7 = 0 ∧ o.s1 = 0 ∧ o.s2 = 0 ∧ xBits o 5 0 = 0 ∧
      objRefBad o = false ∧ fieldOk objState .b (objIdx o) (objFld o) (objState.dNow .b) = true) ∧
    (Issues g objState ∧ xBits g 8 7 = 0 ∧ g.x.getLsbD 6 = true ∧ g.s1 = 0 ∧ g.d.toNat < 16 ∧ immBits g 5 0 = 0 ∧ immBits g 11 6 < 32 ∧
      fieldOk objState .b (objIdx g) (objFld g) (objState.dNow .b) = true) ∧
    (Issues a objState ∧ (datum a).legal = true ∧ addrForm a = true ∧ a.x.getLsbD 7 = false ∧ a.s1.toNat < 16 ∧
      accessFault objState a.thr a.s1.toNat (effAddr objState a) true false = none ∧ target objState a.thr (effAddr objState a) = .lmemSafe ∧
      codeOk .b (loadWord objState a.thr (effAddr objState a)) (shortSig (shortSS a) (sigW objState a.thr a.s1.toNat (effAddr objState a) 8)) (objState.dNow .b) = true) ∧
    (accessFault objState a3.thr a3.s1.toNat (effAddr objState a3) true false = none ∧ target objState a3.thr (effAddr objState a3) = .lmemSys) ∧
    (Issues ap objState ∧ addrForm ap = true ∧ accessFault objState ap.thr ap.s1.toNat (effAddr objState ap) true false = none ∧
      inRegSpace (effAddr objState ap) = false) := by
  unfold Issues; decide +kernel

/-- Fields 2 and 7 of the last object; a changed and an unchanged v. -/
theorem wit_ObjectStore :
    let o := ins (.safe .b) 4 0 0 0 (ref 131071 2)
    let o7 := ins (.safe .b) 4 0 0 0 (ref 131071 7)
    let bad := ins (.safe .b) 4 0 0 0 (ref 0 2)
    Issues o objState ∧ (datum o).legal = true ∧ xBits o 8 7 = 0 ∧ xBits o 5 0 = 0 ∧ objRefBad o = false ∧ opndOk objState o.thr (datum o) = true ∧
    (fieldOk objState .b (objIdx bad) 7 (objState.dNow .b) = false ∧ objRefBad bad = false ∧
      objState.val bad.thr (datum bad) ≠ wordV (omemWord objState .b (objIdx bad) 2)) ∧
    fieldOk objState .b (objIdx o) 7 (objState.dNow .b) = true ∧ objRefBad o7 = false ∧
    objState.val o.thr (datum o) ≠ wordV (omemWord objState .b (objIdx o) 2) ∧
    opndOk (putC .b 6 (5 * 2 ^ 26 + 2 ^ 20 + 2) 3 objState) o.thr ⟨false, 6⟩ = true ∧
    (putC .b 6 (5 * 2 ^ 26 + 2 ^ 20 + 2) 3 objState).val o.thr ⟨false, 6⟩ = wordV (omemWord objState .b (objIdx o) 2) := by
  unfold Issues; decide +kernel

theorem wit_AddressStore :
    let o := ins (.safe .b) 4 2 0 0x109 0
    let y := ins (.sys .b) 4 2 0 0x100 8
    let m := ins .mgmt 4 2 0 0x100 0
    let sm := region .mgmt 2 0 0xFFFF8 (putA .mgmt 2 0xFFFF8 (runs .mgmt base))
    (Issues o objState ∧ (datum o).legal = true ∧ addrForm o = true ∧ o.x.getLsbD 7 = false ∧ o.s1.toNat < 16 ∧ opndOk objState o.thr (datum o) = true ∧
      accessFault objState o.thr o.s1.toNat (effAddr objState o) false true = none) ∧
    (Issues y objState ∧ accessFault objState y.thr y.s1.toNat (effAddr objState y) false true = none ∧
      target objState y.thr (effAddr objState y) = .lmemSys) ∧
    (Issues m sm ∧ accessFault sm m.thr m.s1.toNat (effAddr sm m) false true = none ∧ target sm m.thr (effAddr sm m) = .mmem) := by
  unfold Issues; decide +kernel

/-- Object 131,071 with every field at D_prev. -/
def oldState : State :=
  let s := { base with lanes := ⟨base.lanes.a, { base.lanes.b with frozenE := 6 }, base.lanes.c⟩ }
  let s := runs (.safe .b) ((List.range 8).foldl (fun s f => putField .b 131071 f 1 s) s)
  let s := s.updLane .b fun x => { x with frozenE := 7 }
  putC .b 5 1 3 (putC .b 6 0 3 s)

theorem wit_Carries :
    let o := ins (.safe .b) 3 0 0 0x80 (ref 131071 2)
    let p := ins (.safe .b) 3 0 0 0xC0 (ref 131071 2)
    let bad := ins (.safe .b) 3 0 0 0x80 (ref 0 2)
    let sc := ins (.safe .b) 3 5 0 0x1FF (ref 131071 0)
    let sc0 := ins (.safe .b) 3 6 0 0x1FF (ref 131071 0)
    (Issues o oldState ∧ (datum o).legal = true ∧ addrForm o = false ∧ xBits o 5 0 = 0 ∧ objRefBad o = false ∧
      fieldOk oldState .b (objIdx o) (objFld o) (dPrev 7) = true ∧ (datum p).isP = true ∧ (datum p).legal = true ∧
      wordV (omemWord oldState .b (objIdx p) 2) ≤ 1 ∧ fieldOk oldState .b (objIdx bad) 2 (dPrev 7) = false) ∧
    (Issues sc oldState ∧ sc.s2 = 0 ∧ immBits sc 14 0 = 0 ∧ sc.x.getLsbD 8 = true ∧ opndOk oldState sc.thr ⟨false, 5⟩ = true ∧
      opndOk oldState sc0.thr ⟨false, 6⟩ = true ∧ oldState.val sc0.thr ⟨false, 6⟩ = 0 ∧ oldState.val sc.thr ⟨false, 5⟩ = 1 ∧ xBits sc 7 0 ≠ 0 ∧
      objIdx sc + 1 ≤ 131072) := by
  unfold Issues; decide +kernel

theorem wit_Carries_run : ∀ i, 131071 ≤ i → i < 131071 + 1 →
    wordV (omemWord oldState .b i 0) / 2 ^ 26 = wordV (omemWord oldState .b 131071 0) / 2 ^ 26 ∧
      (natBit 255 0 = false → fieldOk oldState .b i 0 (oldState.dNow .b) = true) ∧
      ∀ f, f < 8 → natBit 255 f = true → fieldOk oldState .b i f (dPrev 7) = true := by
  intro i h1 h2
  obtain rfl : i = 131071 := by omega
  decide +kernel

/-- Route 4,095, the last: elements 0 and 1, overlap 2, flank 3 (which is its own protecting object) and 4. -/
def routeState : State :=
  let s := runs (.sys .a) (runs (.safe .a) (putC .a 1 4095 3 base))
  let s := putC .a 2 4095 3 s
  let s := { s with lanes := ⟨{ s.lanes.a with sys := { s.lanes.a.sys with c := Store.put (fun _ => 0) s.lanes.a.sys.c 1 (mkWord 4095 0) } }, s.lanes.b, s.lanes.c⟩ }
  let s := putRoute .a (16 * 4095) (2 ^ 31) (putRoute .a (16 * 4095 + 1) (100 * 65536 + 2) (putRoute .a (16 * 4095 + 2) (102 * 65536 + 1)
    (putRoute .a (16 * 4095 + 3) (103 * 65536 + 2) s)))
  let s := putRoute .a (65536 + 100) 0 (putRoute .a (65536 + 101) (32768 + 8192) (putRoute .a (65536 + 102) (2 * 32768)
    (putRoute .a (65536 + 103) (3 * 32768) (putRoute .a (65536 + 104) (4 * 32768) s))))
  [0, 1, 2, 3, 4].foldl (fun s i => [(0, 0x80), (1, 3 * 32768), (2, 1), (7, 0)].foldl (fun s (p : Nat × Nat) => putField .a i p.1 p.2 s) s) s

def routeOp (t : Thr) : PervoOp := ins t 15 1 0 0 77

theorem wit_route : RouteForm (routeOp (.safe .a)) ∧ Issues (routeOp (.safe .a)) routeState ∧ Issues (routeOp (.sys .a)) routeState ∧
    routeState.engineOn (.lane .a) = true := by
  unfold RouteForm Issues; decide +kernel

theorem wit_names_safe : NamesRoute routeState (routeOp (.safe .a)) .a 4095 := by
  refine ⟨by decide +kernel, by decide +kernel, by decide +kernel, 2 ^ 31, by decide +kernel, by decide +kernel⟩

theorem wit_names_sys : NamesRoute routeState (routeOp (.sys .a)) .a 4095 := by
  refine ⟨by decide +kernel, by decide +kernel, by decide +kernel, 2 ^ 31, by decide +kernel, by decide +kernel⟩

/-- With wit_route and wit_names_safe, wit_names_sys: the route tests pass and fail. -/
theorem wit_RouteLocking : routeFree routeState .a 4095 = true ∧
    routeFree (routeState.updLane .a fun x => { x with locked := 1 }) .a 4095 = false ∧ lockedAt (1 : BitVec 4096) 4095 = true := by decide +kernel

/-- Every clause of FLANK: room; a count at 255; a count above 0. -/
theorem wit_FlankSets : routeListOf routeState .a 4095 3 = some [(3, 0), (4, 0)] ∧
    (∀ e ∈ [(3, 0), (4, 0)], fieldOk routeState .a e.1 0 (routeState.dNow .a) = true ∧ fieldOk routeState .a e.1 2 (routeState.dNow .a) = true ∧
      fieldOk routeState .a e.1 7 (routeState.dNow .a) = true) ∧
    (∀ e ∈ [(3, 0), (4, 0)], wordV (omemWord routeState .a e.1 2) % 256 < 255 ∧ 1 ≤ wordV (omemWord routeState .a e.1 2) % 256 ∧
      hdrBlocked (wordV (omemWord routeState .a e.1 0)) = false ∧ hdrStale (wordV (omemWord routeState .a e.1 0)) = false) ∧
    wordV (omemWord (putField .a 4 2 255 routeState) .a 4 2) % 256 = 255 ∧ wordV (omemWord (putField .a 4 2 0 routeState) .a 4 2) % 256 = 0 ∧
    fieldOk (putField .a 4 2 0 routeState) .a 4 2 (routeState.dNow .a) = true ∧ fieldOk (putField .a 4 2 255 routeState) .a 4 2 (routeState.dNow .a) = true := by
  decide +kernel

/-- With wit_route, wit_names_safe and wit_names_sys. -/
theorem wit_ElementTests : routeListOf routeState .a 4095 1 = some [(0, 0), (1, 1)] ∧ routeListOf routeState .a 4095 2 = some [(2, 0)] ∧
    routeListOf routeState .a 4095 3 = some [(3, 0), (4, 0)] ∧
    (∀ i ∈ (([(0, 0), (1, 1)] ++ [(2, 0)] ++ [(3, 0), (4, 0)] : List (Nat × Nat)).map fun e => e.1) ++
      (([(3, 0), (4, 0)] : List (Nat × Nat)).map fun e => wordV (omemWord routeState .a e.1 1) / 2 ^ 15),
      ∀ f, f < 3 → fieldOk routeState .a i f (routeState.dNow .a) = true) := by
  decide +kernel

/-- v of field 7 of object 131,071 is 5 · 2^26 + 2^20 + 7: RUN, deadline epoch 7. -/
theorem wit_Timers :
    let o := ins (.safe .b) 0 5 0 0 (ref 131071 7)
    let c := ins (.safe .b) 3 0 0 0 (ref 131071 7)
    let z := putC .b 5 0 3 objState
    (Issues o objState ∧ o.s2 = 0 ∧ objRefBad o = false ∧ objFld o = 7 ∧ o.d = 0 ∧ o.x = 0 ∧ opndOk objState o.thr ⟨false, 5⟩ = true ∧
      fieldOk objState .b (objIdx o) 7 (objState.dNow .b) = true ∧ 0 < objState.val o.thr ⟨false, 5⟩) ∧
    (Issues o z ∧ opndOk z o.thr ⟨false, 5⟩ = true ∧ fieldOk z .b (objIdx o) 7 (z.dNow .b) = true ∧ z.val o.thr ⟨false, 5⟩ = 0) ∧
    (Issues c objState ∧ c.s1 = 0 ∧ xBits c 8 6 = 0 ∧ c.d.toNat < 16 ∧ wordV (omemWord objState .b (objIdx c) 7) % 2 ^ 20 = 7 % 2 ^ 20) := by
  unfold Issues; decide +kernel

/-- The deadline is the first epoch that begins at or after E × 10 ms + t (R125). -/
theorem test_tstart_deadline :
    wordV (omemWord (issued objState (.tstart (ins (.safe .b) 0 5 0 0 (ref 131071 7)))) .b 131071 7) % 2 ^ 20 = 107 := by decide +kernel

/-! ### Messages and publication -/

def snapState : State :=
  let s := runs (.sys .b) (runs (.safe .b) base)
  let f := fun (t : Thr) (s : State) => region t 3 0x06300000 0x063FFFF8 (region t 2 0x06000000 0x062FFFF8 (putA t 3 0x063FFFFC (putA t 2 0x062FFFFC s)))
  f (.sys .b) (f (.safe .b) s)

/-- The last word of each part of the snapshot window. -/
theorem wit_SnapshotReads : ∀ t ∈ [Thr.safe .b, Thr.sys .b],
    let r := ins t 3 2 0 9 0
    let h := ins t 3 3 0 9 0
    Issues r snapState ∧ xBits r 8 6 = 0 ∧ r.s1.toNat < 16 ∧ accessFault snapState t 2 (effAddr snapState r) true false = none ∧
      0x06000000 ≤ effAddr snapState r ∧ effAddr snapState r ≤ 0x062FFFFF ∧
      accessFault snapState t 3 (effAddr snapState h) true false = none ∧ 0x06300000 ≤ effAddr snapState h ∧ effAddr snapState h ≤ 0x063FFFFF := by
  unfold Issues; decide +kernel

/-- Ring 7, position 254 of the plan; session 127. -/
def sendState : State :=
  let s := { runs (.safe .c) base with planDn := Store.put (fun _ => false) [] (7 * 256 + 254) true }
  putC .c 1 255 3 (putC .c 2 1 3 (putC .c 3 1024 3 (putC .c 4 0 3 (putC .c 5 1025 3 (s.setB (HXL_SCFG0_EN 127) true)))))

theorem wit_BuildBuffers :
    let w := ins (.safe .c) 1 0 1 1 (BitVec.ofNat 32 (7 * 2 ^ 29 + 254 * 2 ^ 21))
    let h := ins (.safe .c) 1 0 1 1 (BitVec.ofNat 32 (127 * 2 ^ 25))
    let b := ins (.safe .c) 1 0 1 1 (BitVec.ofNat 32 (7 * 2 ^ 29 + 254 * 2 ^ 21 + 8192))
    (Issues w sendState ∧ w.s1 = 0 ∧ xBits w 8 1 = 0 ∧ opndOk sendState w.thr ⟨false, 1⟩ = true ∧ immBits w 12 0 = 0 ∧ immBits w 28 21 ≠ 255 ∧
      immBits w 20 13 + sendState.val w.thr ⟨false, 1⟩ = 255 ∧ sendState.hasDownSlice 7 254 = true ∧ slicePublished (sendState.lane .c) 7 254 = false) ∧
    (immBits b 20 13 + sendState.val b.thr ⟨false, 1⟩ = 256 ∧ immBits b 12 0 = 0) ∧
    (immBits h 16 0 = 0 ∧ immBits h 31 25 ≠ 0 ∧ immBits h 24 17 + sendState.val h.thr ⟨false, 1⟩ < 256 ∧
      sendState.fb (HXL_SCFG0_EN (immBits h 31 25)) = true ∧ hexloPublished (sendState.lane .c) (immBits h 31 25) = false) := by
  unfold Issues; decide +kernel

/-- The local word first and late; payloads of 0, 1,024 and 1,025 bytes; keys in and out of order. -/
theorem wit_LocalWordAndPublication :
    let v := ins (.safe .c) 0 1 0 0 0
    let w3 : DWord := 0x5800400300000000
    let sl := ins (.safe .c) 0 0 3 0 (BitVec.ofNat 32 (7 * 2 ^ 29 + 254 * 2 ^ 21))
    let hx := ins (.safe .c) 0 2 3 0 (BitVec.ofNat 32 (127 * 2 ^ 25))
    let late := sendState.updLane .c fun x => { x with lastKey := some (2, 1, 0) }
    (w3.toNat / 2 ^ 56 = 0x58 ∧ w3.toNat / 2 ^ 32 % 4 = 3 ∧ (sendState.thread (.safe .c)).run = .running ∧
      fetchOk (.lane .c) (sendState.thread (.safe .c)).pc = true) ∧
    (Issues v sendState ∧ v.d = 0 ∧ v.s2 = 0 ∧ v.x = 0 ∧ v.imm = 0 ∧ opndOk sendState v.thr ⟨false, 1⟩ = true ∧ (sendState.lane .c).lastKey = none) ∧
    (Issues v late ∧ opndOk late v.thr ⟨false, 1⟩ = true ∧ (late.lane .c).lastKey ≠ none ∧ keyOk (late.lane .c) (1, 7, 254) = false) ∧
    (Issues sl sendState ∧ sl.d = 0 ∧ xBits sl 8 2 = 0 ∧ sl.s1 = 0 ∧ immBits sl 20 0 = 0 ∧ immBits sl 28 21 = 254 ∧ immBits sl 31 29 = 7 ∧
      (∀ n ∈ [3, 4, 5], opndOk sendState sl.thr ⟨false, n⟩ = true) ∧ sendState.val sl.thr ⟨false, 3⟩ = 1024 ∧ sendState.val sl.thr ⟨false, 4⟩ = 0 ∧
      sendState.val sl.thr ⟨false, 5⟩ = 1025 ∧ sendState.hasDownSlice 7 254 = true ∧ keyOk (sendState.lane .c) (1, 7, 254) = true) ∧
    (opndOk sendState hx.thr ⟨false, 2⟩ = true ∧ immBits hx 24 0 = 0 ∧ immBits hx 31 25 = 127 ∧ sendState.fb (HXL_SCFG0_EN 127) = true ∧
      hexloPublished (sendState.lane .c) 127 = false ∧ keyOk (sendState.lane .c) (2, 127, 1) = true) := by
  unfold Issues; decide +kernel

/-- 1,024 bytes in memory that the management thread reads; 1,025 is a bounds fault; in STABLED the port is offline. -/
theorem wit_BridgeSend :
    let o := ins .mgmt 0 2 3 0 9
    let s := region .mgmt 2 0 0xFFFF8 (putA .mgmt 2 0xFF800 (runs .mgmt base))
    let z := fun (n : Nat) => s.updThread .mgmt fun t => putReg t ⟨false, 3⟩ (mkWord n 0) none
    (Issues o (z 1024) ∧ o.thr.isSafe = false ∧ o.d = 0 ∧ o.s1.toNat < 16 ∧ (z 1024).val .mgmt ⟨false, 3⟩ = 1024 ∧ (z 1025).val .mgmt ⟨false, 3⟩ = 1025) ∧
    (∀ a ∈ (List.range ((1024 + 3) / 4)).map (fun j => (((z 1024).areg .mgmt 2).toNat + 8 * j) % 2 ^ 32),
      accessFault (z 1024) .mgmt 2 a true false = none ∧ inRegSpace a = false) ∧ fabricOn (z 1024) (epAddr .mgmt) = true ∧
    (∀ a ∈ (List.range ((1025 + 3) / 4)).map (fun j => (((z 1025).areg .mgmt 2).toNat + 8 * j) % 2 ^ 32),
      accessFault (z 1025) .mgmt 2 a true false ≠ some .prot) ∧
    (let d := { z 4 with pwr := { (z 4).pwr with power := .stabled } }
     Issues o d ∧ d.val .mgmt ⟨false, 3⟩ = 4 ∧ accessFault d .mgmt 2 0xFF800 true false = none ∧ fabricOn d (epAddr .mgmt) = false) := by
  unfold Issues; decide +kernel

/-! ### Control registers, interrupts, mailboxes, register accesses -/

theorem wit_ControlRegisters :
    let r := ins .mgmt 3 0 0 0 0x2F
    let c := ins (.sys .a) 3 0 0 0 6
    let w := ins (.sys .a) 0 1 0 0 0x4F
    let s := runs .mgmt (runs (.sys .a) base)
    (Issues r s ∧ r.thr.isSafe = false ∧ r.s2 = 0 ∧ r.x = 0 ∧ immBits r 31 12 = 0 ∧ csDefined r.thr.engine (immBits r 11 0) = true ∧ r.s1 = 0 ∧
      immBits r 11 0 ∉ [6, 7]) ∧
    (Issues c s ∧ c.thr.isSafe = false ∧ csDefined c.thr.engine (immBits c 11 0) = true ∧ immBits c 11 0 ∈ [6, 7]) ∧
    (Issues w s ∧ csDefined w.thr.engine (immBits w 11 0) = true ∧ w.d = 0) := by
  unfold Issues; decide +kernel

/-- Source 127 of lane A's controller, the last, pending and enabled in hold-off group 15. -/
def irqState : State :=
  ((runs (.sys .a) base).setF (PIC_COUNT_COUNT (.lane .a) 127) 255).wr (PIC_ENABLE (.lane .a) 3) 0x80000000

theorem wit_Interrupts_1 : ∀ n ∈ [127],
    irqState.eligible (.lane .a) n = true ∧ (∀ m, m < n → irqState.eligible (.lane .a) m = false) ∧
    (irqState.thread (.sys .a)).handler = false ∧ vectorEntry irqState (.lane .a) n = some 0 ∧
    (irqState.thread (.sys .a)).run ∉ [.stopped, .dead, .ended, .restarting] ∧
    (let r := irqState.setThread (.sys .a) { irqState.thread (.sys .a) with run := .restarting }
     (r.thread (.sys .a)).run = .restarting ∧ vectorEntry r (.lane .a) 0 = some 0) ∧
    ((irqState.setThread (.sys .a) { irqState.thread (.sys .a) with run := .waiting }).thread (.sys .a)).run = .waiting ∧
    (irqState.setF (PIC_HOLDOFF_HOLDOFF (.lane .a) 15) 9).fv (PIC_HOLDOFF_HOLDOFF (.lane .a) (n / 8)) ≠ 0 := by
  decide +kernel

theorem wit_Interrupts_2 :
    let o := ins (.sys .a) 0 0 0 0 0
    let h := irqState.setThread (.sys .a) { irqState.thread (.sys .a) with handler := true }
    let q := (runs (.sys .a) base).setThread (.sys .a) { (runs (.sys .a) base).thread (.sys .a) with handler := true }
    (Issues o irqState ∧ o.thr.isSafe = false ∧ (irqState.thread o.thr).handler = false) ∧
    (Issues o q ∧ (q.thread o.thr).handler = true ∧ (∀ m, m < 128 → q.eligible (.lane .a) m = false) ∧ fetchOk (.lane .a) (q.rd (CS_EPC (.lane .a))) = true) ∧
    (Issues o h ∧ (h.thread o.thr).handler = true ∧ h.eligible (.lane .a) 127 = true ∧ (∀ m, m < 127 → h.eligible (.lane .a) m = false) ∧
      vectorEntry h (.lane .a) 127 = some 0) := by
  unfold Issues; decide +kernel

theorem wit_Interrupts_3 : base.engineOn .mgmt = true ∧ (104 : BitVec 7).toNat = 104 ∧ base.fv (PIC_COUNT_COUNT .mgmt 104) < 255 ∧
    (base.setF (PIC_COUNT_COUNT .mgmt 104) 255).fv (PIC_COUNT_COUNT .mgmt 104) = 255 ∧
    (base.setF (PIC_COUNT_COUNT .mgmt 104) 255).engineOn .mgmt = true ∧ (103 : BitVec 7).toNat < 104 ∧ 8 ≤ (8 : BitVec 7).toNat ∧ (7 : BitVec 7).toNat < 8 := by
  decide +kernel

theorem test_pic_enable_resets_held : (issued irqState (.interruptEntry (.lane .a) .good)).fv (CS_ESRC_SRC (.lane .a)) = 127 := by decide +kernel

def mbxState (k : Nat) : State := base.setMbox .c { Mbx.init with upQ := List.replicate k [1], dnQ := List.replicate k [2] }

/-- A queue of 7, one of 8, an empty one; lengths 0, 1, 16 and 17. -/
theorem wit_Mailboxes : (∀ k ∈ [0, 7, 8], ((mbxState k).lane .c).powered = true ∧ (mbxState k).alive = true ∧ ((mbxState k).mbox .c).upQ.length = k ∧
    ((mbxState k).mbox .c).dnQ.length = k) ∧ 0 < (1 : BitVec 5).toNat ∧ 16 < (17 : BitVec 5).toNat := by decide +kernel

theorem test_mailbox_full_pop : ((issued (mbxState 8) (.laneMbxUpPop .c)).fv (PIC_COUNT_COUNT (.lane .c) 15)) = 1 := by decide +kernel

/-- The first and the last register of the time unit's 64 KiB pages; the latch pair; each kind of refused access. -/
theorem wit_RegisterAccesses :
    let s := runs (.sys .a) (runs .mgmt base)
    (s.mgmt.run = .running ∧ s.alive = true ∧ s.stabled = false ∧ 0x80010000 ≤ (0x80010000 : Word).toNat ∧ (0x800FFFFC : Word).toNat < 0x80100000 ∧
      (0x800FFFFC : Word).toNat % 4 = 0) ∧
    ((BitVec.ofNat 32 TIME_NOW_LO).toNat = TIME_NOW_LO ∧ 0x80010000 ≤ TIME_NOW_LO ∧ TIME_NOW_LO < 0x80100000 ∧ TIME_NOW_LO % 4 = 0) ∧
    ((s.thread (.sys .b)).run ≠ .running ∧ (s.thread (.sys .a)).run = .running) ∧
    ((0x80010002 : Word).toNat % 4 ≠ 0 ∧ inRegSpace (0x80010002 : Word).toNat = true ∧ inRegSpace (0x03FFFFFC : Word).toNat = false) ∧
    (inRegSpace 0x80608400 = true ∧ rights s (.sys .a) 0x80608400 true = some .prot) ∧
    (rights s .mgmt 0x80608400 true = none ∧
      reachable (s.updLane .b fun x => { x with powered := false }) (.thr .mgmt) 0x80608400 = false ∧
      ((s.updLane .b fun x => { x with powered := false }).thread .mgmt).run = .running ∧
      rights (s.updLane .b fun x => { x with powered := false }) .mgmt 0x80608400 true = none) := by
  decide +kernel

/-! ### Strobes and the timebase -/

/-- Tick 0 and tick 14, with and without a timebase. -/
theorem wit_StrobeNumbers : (State.reset.time.isSet = false) ∧ (base.alive = true ∧ base.time.isSet = true ∧ base.time.started = true ∧ base.time.tick < 15) ∧
    (let s := { base with time := { base.time with tick := 14 } }; s.alive = true ∧ s.time.isSet = true ∧ s.time.started = true ∧ s.time.tick < 15) := by
  decide +kernel

theorem test_strobe_advances : (issued base (.tickStrobe strobe0)).time.tick = 1 ∧ (issued base (.tickStrobe strobe0)).time.t = 70500000 := by decide +kernel

theorem wit_TimeSourcesAndMissingStrobes :
    let s := base.setF TIME_CTRL_PTP_PORT 3
    let k := { s with time := { s.time with ptpLocked := true, badRun := 15, goodRun := 63 } }
    ptpSelected base 1 = false ∧ (ptpValid s 1 ptp0 = true ∧ ptpValid s 2 ptp0 = true ∧ ptpValid s 1 { ptp0 with best := false } = false ∧
      ptpValid s 1 { ptp0 with domain := 1 } = false ∧ ptpValid s 2 { ptp0 with l2 := true } = false ∧ ptpValid s 2 { ptp0 with peer := true } = false ∧
      ptpValid (base.setF TIME_CTRL_PTP_PORT 1) 1 { ptp0 with best := false } = true) ∧
    (steersBy k 1 = false ∧ steersBy ((k.setF TIME_STATUS_SRC 1).setB TIME_STATUS_LOCKED true) 1 = true) ∧
    (1000 : Int).natAbs ≤ 1000 ∧ 10000 < (-10001 : Int).natAbs ∧
    (ptpValid k 1 ptp0 = true ∧ ptpValid k 2 ptp0 = true ∧ k.time.ptpLocked = true ∧ 15 ≤ k.time.badRun) ∧ s.time.ptpLocked = false ∧
    ((k.setF TIME_STATUS_SRC 1).fv TIME_STATUS_SRC = 1 ∧ (k.setF TIME_STATUS_SRC 1).time.ptpLocked = true) ∧
    ((base.lane .a).powered = true ∧ (base.lane .a).time.skewLast = false) ∧
    (let t := base.updLane .a fun x => { x with time := { x.time with skewLast := true } };
      (t.lane .a).powered = true ∧ (t.lane .a).time.skewLast = true ∧ (t.lane .a).st.counted = true) := by
  decide +kernel

theorem test_second_skew_withdraws : ((issued (issued base (.tickStrobeMissing .b)) (.tickStrobeMissing .b)).lane .b).st = .withdrawn := by decide +kernel

/-! ### Lanes, vote, gates -/

theorem wit_Withdrawal :
    let o := ins (.safe .a) 0 0 0 0 0
    let s := runs (.safe .a) base
    let two := s.updLane .c fun x => { x with st := .withdrawn }
    let thrice := s.updLane .a fun x => { x with wdrHist := [7, 7, 7] }
    (Issues o s ∧ s.alive = true ∧ ∀ m ∈ allLanes, (s.lane m).st.counted = true ∧ (s.lane m).powered = true) ∧
    (Issues o thrice ∧ 3 ≤ (lastHour thrice.E (thrice.lane .a).wdrHist).length) ∧
    (Issues o two ∧ (two.lane .a).st.counted = true ∧ (two.lane .b).st.counted = true ∧ (two.lane .c).st.counted = false ∧ two.mode = .active) := by
  unfold Issues; decide +kernel

def voteState : State :=
  let s := (List.foldl (fun s l => (s.setB (LANE_LINK_STAT_UP_NEXT l) true).setB (LANE_LINK_STAT_UP_PREV l.succ) true) base allLanes)
  let s := s.forLanes fun s l => s.updLane l fun x => { x with vote := { VoteSt.init with digest := some 5, voter := true } }
  { s with time := { s.time with tick := 16 } }

theorem wit_VoteMessagesAndLaneLinks : exchangeOpen voteState .a .b = true ∧ round1Open voteState = true ∧ voteState.alive = true ∧
    (∀ m ∈ allLanes, (voteState.lane m).powered = true ∧ (voteState.lane m).anneal.step = 0 ∧ (voteState.lane m).st ≠ .shadow) ∧
    linkUp voteState .a (Lane.a).succ = true ∧ linkUp base .a (Lane.a).succ = false := by decide +kernel

/-- Every message delivered; the lanes' digests as told. -/
def votedState (a b c : BitVec 256) : State :=
  let d := fun (l : Lane) => match l with | .a => a | .b => b | .c => c
  let s := base.forLanes fun s l => s.updLane l fun x => { x with vote := { VoteSt.init with digest := some (d l), voter := true } }
  let s := s.forLanes fun s l => (otherLanes l).foldl (fun s m => s.updLane l fun x => { x with vote := { x.vote with rx := x.vote.rx.set m (some (d m)) } }) s
  s.forLanes fun u l => (otherLanes l).foldl (fun u m => u.updLane l fun x => { x with vote := { x.vote with report := x.vote.report.set m (some (agreement s m)) } }) u

theorem wit_VoteOutcome : ∀ s ∈ [votedState 5 5 5, votedState 6 5 5, votedState 4 5 6],
    (∀ l ∈ allLanes, (s.lane l).vote.voter = true ∧ (s.lane l).vote.digest ≠ none) ∧
    (∀ l ∈ allLanes, ∀ m ∈ allLanes, l ≠ m → (s.lane l).vote.rx.get m = (s.lane m).vote.digest ∧ (s.lane l).vote.rxShadow.get m = false ∧
      (s.lane l).vote.report.get m = some (agreement s m)) := by decide +kernel

theorem test_vote : voteCause (votedState 5 5 5) .a = none ∧ voteCause (votedState 6 5 5) .a = some .minority ∧ voteCause (votedState 6 5 5) .b = none ∧
    voteCause (votedState 4 5 6) .c = some .noMajority := by decide +kernel

/-- Channel 23, the last, in output mode and channel 0 in input mode, in lane B, A and C driving the same. -/
theorem wit_TwoOutOfThree :
    let s := base.setF (IO_CH_CFG_MODE 23) 1
    (s.lane .b).powered = true ∧ s.alive = true ∧ (s.lane .b).st.counted = true ∧ s.mode = .active ∧ chMode s 23 = 1 ∧ chMode s 0 = 0 ∧
    ((s.updLane .b fun x => { x with st := .shadow }).lane .b).st.counted = false ∧ (Lane.b ≠ .a ∧ Lane.b ≠ .c ∧ Lane.a ≠ .c) ∧
    natBit (s.ixGates.get .a) 25 = natBit (s.ixGates.get .c) 25 ∧ s.ix.pulse = none := by decide +kernel

theorem wit_Retirement :
    let s := base.updLane .b fun x => { x with st := .retired, deep := some 7, wdrHist := [7, 7, 7] }
    (s.lane .b).powered = true ∧ (s.lane .b).st = .retired ∧ (s.lane .b).deep ≠ none ∧ (lastHour s.E (s.lane .b).wdrHist).length < 4 := by
  decide +kernel

/-! ### Rings -/

/-- Ring 7 in a state, at a position, head or not, both ports with a link. -/
def ring7 (st pos : Nat) (head : Bool) : State :=
  let s := ((base.setF (RING_STATUS_STATE 7) st).setF (RING_STATUS_POS 7) pos).setB (RING_STATUS_HEAD 7) head
  (s.setB (fLink 7 .east) true).setB (fLink 7 .west) true

/-- Some other module's ID. -/
def otherId : Nat := if ownId = 5 then 6 else 5

theorem otherId_ne : otherId ≠ ownId ∧ otherId < 2 ^ 48 := by
  unfold otherId
  split <;> omega

/-- Three nodes; the own one at position 1. -/
def layout3 : Layout := layoutOf 1 41 [⟨5, 0, false, true, true, false, 8, 16, 64⟩, ⟨ownId, 1, false, true, true, false, 8, 16, 64⟩, ⟨9, 2, false, true, false, false, 0, 16, 0⟩]

theorem test_nextTopo : nextTopo 41 [rec0, rec0] = 42 := by decide +kernel

theorem wit_RingPortsAndTests :
    let s := ring7 4 1 false
    let w := (ring7 5 1 false).setB (fWrap 7 .east) true
    let w := w.updRing 7 fun r => { r with usableRun := (4, 4), quietRun := (2, 2), goodOn := (true, true) }
    let d := s.setB (fLink 7 .west) false
    let i := fun (p : Port) => s.updRing 7 fun r => { r with iso := some p }
    s.alive = true ∧ (∀ m ∈ allLanes, (s.lane m).powered = true) ∧ s.fb (fLink 7 .east) = true ∧ linkLines 0 = false ∧ linkLines 16 = true ∧
    ringState s 7 ≠ 0 ∧ mayUnwrap s 7 .east = false ∧ mayUnwrap w 7 .east = true ∧ ringState w 7 = 5 ∧
    (isoRefusal d 7 .east ≠ 0 ∧ (d.ring 7).iso ≠ some .east ∧ portGood d 7 (Port.east).other = false) ∧
    (portGood (i .west) 7 (Port.east).other = true ∧ ((i .west).ring 7).iso = some (Port.east).other) ∧
    (portGood (ring7 2 255 false) 7 (Port.east).other = true ∧ ((ring7 2 255 false).ring 7).iso = none ∧ ringState (ring7 2 255 false) 7 = 2) ∧
    ((s.ring 7).iso = none ∧ isoRefusal s 7 .east = 0 ∧ s.prepared 5 = false) ∧ ((i .east).ring 7).iso = some .east := by
  decide +kernel

def openRing : State :=
  (((ring7 4 1 false).updRing 7 fun r => { r with layout := some layout3 }).setB (BAND_STATUS_PREDICTED 7) true).setB (BAND_STATUS_ARMED 7) true

def run3 : RunFrame :=
  { run0 with crown := { crown0 with topo := layout3.topo, dirCrc := layout3.dirCrc, frameLen := layout3.frameLen, headId := otherId } }

theorem wit_RunPassage_frame : (openRing.ring 7).layout = some layout3 ∧ run3.crown.headId ≠ ownId ∧ run3.crown.topo = layout3.topo ∧
    run3.crown.dirCrc = layout3.dirCrc ∧ run3.crown.frameLen = layout3.frameLen := by
  simp [openRing, State.ring, State.updRing, State.setRing, run3, otherId_ne.1]

/-- Arrivals 2,000 ns early and late are within the band; a usable port to send on; a crown that follows in order, and one that does not. -/
theorem wit_RunPassage :
    (usable openRing 7 (outPort openRing 7 .east) = true ∧ outPort openRing 7 .east = .west ∧ cycleOk (openRing.ring 7) run3.crown = true ∧
      cycleOk ((openRing.updRing 7 fun r => { r with lastCycle := some 9 }).ring 7) run3.crown = false ∧
      cycleOk ((openRing.updRing 7 fun r => { r with lastCycle := some 8 }).ring 7) run3.crown = true) ∧
    ringState (ring7 0 255 false) 7 = 0 ∧ ringState (ring7 2 255 false) 7 = 2 ∧ run3.crown.crcOk = true ∧ ringState openRing 7 = 4 ∧
    isHead openRing 7 = false ∧ ownPos openRing 7 ≠ 255 ∧ isForward openRing 7 .east = true ∧ isForward openRing 7 .west = false ∧
    openRing.fb (BAND_STATUS_PREDICTED 7) = true ∧ openRing.fb (BAND_STATUS_ARMED 7) = true ∧ openRing.fb (BAND_STATUS_MUTED 7) = false ∧
    grdClosed openRing = false ∧ (2000 : Int).natAbs ≤ 2000 ∧ (-2000 : Int).natAbs ≤ 2000 := by
  decide +kernel

/-- A window of the whole frame, one that reaches the up-slice's last byte, and one that stops a word before. -/
theorem wit_RunPassage_windows :
    let u := (placeOf layout3 1).2.1
    let w := (placeOf layout3 1).2.2
    (u = 164 ∧ w = 652 ∨ u = 244 ∧ w = 652) ∧ (layout3.entryAt 1).map (fun e => (e.allocUp, e.credit)) = some (16, 64) ∧ sliceLen 16 = 44 ∧
    gateEnd (some [(0, 61440)]) u 44 = u + 44 ∧ gateEnd (some [(0, (u + 44) / 4)]) u 44 = u + 44 ∧ gateEnd (some [(0, u / 4 + 10)]) u 44 ≠ u + 44 ∧
    gateEnd (some [(0, 61440)]) w 64 = w + 64 ∧
    bandTable (((openRing.setF (BAND_CTRL_ENTRIES 7) 1).setF (BAND_WIN_START 7 0) 0).setF (BAND_WIN_LEN 7 0) 61440) 7 = [(0, 61440)] := by
  decide +kernel

/-- A frame with a join of a module the layout does not list and one of a module it lists. -/
theorem wit_FrameReturnAndBandArming :
    let x : Layout := layoutOf 1 41 [⟨5, 0, false, true, true, false, 8, 16, 64⟩]
    let s := (ring7 5 0 true).updRing 7 fun r => { r with layout := some x, head := { r.head with cycle := 9, smId := 6, smPos := 1, notFresh := 7 } }
    let f := { run0 with joins := [some { joinMsg 1 9 3 255 0 with body := beBytes 6 9 ++ (joinMsg 1 9 3 255 0).body.drop 6 }, none, none, none] }
    let g := { f with joins := [some { joinMsg 1 9 3 255 0 with body := beBytes 6 5 ++ (joinMsg 1 9 3 255 0).body.drop 6 }, none, none, none] }
    let b := (ring7 4 1 false).updRing 7 fun r => { r with staged := true }
    let b := b.wr (BAND_TAB_CRC 7) 9
    let c := b.wr (fConfirm 7 .a) 9
    (isHead s 7 = true ∧ ringState s 7 = 5 ∧ f.crown.crcOk = true ∧ 9 ∈ joinsOf f ∧ (x.entries.all fun e => e.uid ≠ 9) = true ∧
      f.crown.cycle = (s.ring 7).head.cycle ∧ ({ f.crown with cycle := 8 }).cycle ≠ (s.ring 7).head.cycle ∧ ({ f.crown with crcOk := false }).crcOk = false ∧
      (∃ e ∈ x.entries, e.uid ∈ joinsOf g) ∧ (s.ring 7).head.overBudget = false ∧ (s.ring 7).head.smId ≠ 0 ∧ (s.ring 7).head.smPos ≠ 0 ∧
      7 ≤ (s.ring 7).head.notFresh ∧ 1 ∈ presentPositions (layoutOf 1 41 [⟨5, 0, false, true, true, false, 8, 16, 64⟩, ⟨6, 1, false, true, true, false, 8, 16, 64⟩])) ∧ (s.ring 7).layout = some x ∧
    ((b.lane .b).powered = true ∧ (b.ring 7).staged = true ∧ b.fb (BAND_STATUS_ARMED 7) = false ∧
      ∀ k ∈ allLanes, k ≠ .b → b.rd (fConfirm 7 k) ≠ b.rd (BAND_TAB_CRC 7)) ∧
    (Lane.b ≠ .a ∧ (c.ring 7).staged = true ∧ c.fb (BAND_STATUS_ARMED 7) = false ∧ c.rd (fConfirm 7 .a) = c.rd (BAND_TAB_CRC 7) ∧ c.rd (BAND_TAB_CRC 7) = 9) ∧
    ((b.updLane .b fun x => { x with powered := false }).lane .b).powered = false ∧
    (b.setB (BAND_STATUS_PREDICTED 7) true).fb (BAND_STATUS_PREDICTED 7) = true := by
  refine ⟨by decide +kernel, rfl, by decide +kernel⟩

/-- Node states for the claims: a count of strobes without a crown, a claimant's priority, the own claim back on the west port. -/
def noCrown (k : Nat) (s : State) : State := s.updRing 7 fun r => { r with noCrown := k }

def claimer : State := (ring7 2 255 false).setF (RING_CTRL_PRIO 7) 5

def ownClaim : ClaimFrame := { claim0 with id := ownId, crown := { crown0 with headId := ownId } }

def claimBacks : State := claimer.updRing 7 fun r => { r with claimSent := some ownClaim, claimBack := (false, true) }

theorem wit_ClaimsAndHeads :
    let l := noCrown 4 ((ring7 1 255 false).setB (RING_CTRL_HEAD_ELIG 7) true)
    let c := claimer
    let f := claim0
    (claim0.crown.crcOk = true ∧ claim0.bodyOk = true) ∧
    (4 ≤ (((ring7 3 1 false).updRing 7 fun r => { r with noRun := 4 }).ring 7).noRun ∧ ringState (ring7 3 1 false) 7 = 3 ∧ isHead (ring7 3 1 false) 7 = false) ∧
    (∀ k ∈ [4, 5, 6], 4 ≤ ((noCrown 4 (ring7 k 1 false)).ring 7).noCrown ∧ ringState (noCrown 4 (ring7 k 1 false)) 7 = k) ∧
    (4 ≤ (l.ring 7).noCrown ∧ ringState l 7 = 1 ∧ l.fb (RING_CTRL_HEAD_ELIG 7) = true ∧ l.mode = .active ∧ (l.ring 7).mergeHold = false ∧
      ringState { l with mode := .withdrawn } 7 = 1) ∧
    ((noCrown 3 (ring7 4 1 false)).ring 7).noCrown < 4 ∧
    (ringState c 7 = 2 ∧ ({ f with prio := 4 }).prio < c.fv (RING_CTRL_PRIO 7) ∧ c.fv (RING_CTRL_PRIO 7) < ({ f with prio := 6 }).prio ∧
      (c.setF (RING_CTRL_PRIO 7) 4).fv (RING_CTRL_PRIO 7) = 4) ∧
    (usable c 7 .east = true ∧ usable (c.setB (fLink 7 .west) false) 7 .east = true ∧ usable (c.setB (fLink 7 .west) false) 7 .west = false ∧
      ringState claimBacks 7 = 2 ∧ at2 (claimBacks.ring 7).claimBack .west = true ∧ at2 (claimBacks.ring 7).claimBack .east = false ∧
      usable claimBacks 7 .west = true ∧ usable claimBacks 7 .east = true) ∧
    (ringState (ring7 1 255 false) 7 ≠ 0 ∧ ringState (ring7 1 255 false) 7 ≠ 2 ∧
      usable (ring7 1 255 false) 7 (outPort (ring7 1 255 false) 7 .east) = true) ∧
    ((c.updRing 7 fun r => { r with claimRound := 8 }).ring 7).claimRound = 8 := by
  decide +kernel

/-- The own claim with another EB is unaltered, with another priority it is not; another module's id. -/
theorem wit_ClaimsAndHeads_own : ownClaim.id = ownId ∧ ownClaim.crown.headId = ownId ∧ otherId ≠ ownId ∧
    unaltered (claimBacks.ring 7) { ownClaim with crown := { ownClaim.crown with eb := 255 } } = true ∧
    unaltered (claimBacks.ring 7) { ownClaim with prio := 9 } = false := by
  refine ⟨rfl, rfl, otherId_ne.1, ?_, ?_⟩ <;> simp [unaltered, claimBacks, State.ring, State.updRing, State.setRing, ownClaim, claim0]

/-- A node and a head on a wrapped port, before the first and before the second cycle of a foreign head there. -/
def foreignState (st pos : Nat) (head : Bool) (k : Nat) : State :=
  ((ring7 st pos head).setB (fWrap 7 .east) true).updRing 7 fun r => { r with foreign := ((k, false), (1, false)), headSeen := ownId }

theorem wit_ClaimsAndHeads_foreign :
    (∀ p ∈ [(4, 1, false), (5, 0, true)], let s := foreignState p.1 p.2.1 p.2.2 1
      ringState s 7 ≠ 0 ∧ wrapped s 7 .east = true ∧ at2 (s.ring 7).foreign .east = (1, false) ∧ (s.ring 7).merge = none) ∧
    oriented (foreignState 4 1 false 1) 7 = true ∧ isHead (foreignState 5 0 true 1) 7 = true ∧
    at2 ((foreignState 4 1 false 0).ring 7).foreign .east = (0, false) := by decide +kernel

theorem wit_ClaimsAndHeads_foreign_id : ({ crown0 with headId := otherId }).headId ≠ ownId ∧
    ({ crown0 with headId := otherId }).headId ≠ ((foreignState 4 1 false 1).ring 7).headSeen ∧ crown0.crcOk = true := ⟨otherId_ne.1, otherId_ne.1, rfl⟩

theorem wit_ClaimsAndHeads_2 :
    let u := fun (f : HeadSt → HeadSt) => (ring7 4 0 true).updHead 7 f
    isHead (ring7 4 1 false) 7 = false ∧ isHead (ring7 4 0 true) 7 = true ∧ ((ring7 4 0 true).ring 7).head.cause = 0 ∧
    ((u fun h => { h with backoff := some 8 }).ring 7).head.backoff = some 8 ∧ isHead (u fun h => { h with backoff := some 8 }) 7 = true ∧
    ((u fun h => { h with backoff := some 7 }).ring 7).head.backoff = some 7 ∧
    (let t := (u fun h => { h with overBudget := true, obRun := 2000 }).setF (RING_INAUG_CAUSE 7) 3
     isHead t 7 = true ∧ (t.ring 7).head.overBudget = true ∧ (t.ring 7).head.cause = 0 ∧ t.fv (RING_INAUG_CAUSE 7) ≠ 0 ∧ 2000 ≤ (t.ring 7).head.obRun) := by
  decide +kernel

theorem ofBytes_six (u : Nat) (h : u < 2 ^ 48) : ofBytes (beBytes 6 u) = u := by
  simp [ofBytes, beBytes]
  omega

theorem ownId_lt : ownId < 2 ^ 48 := Config.uniqueId.isLt

/-- A layout of one node as a LAYOUT message carries it. -/
def soloBody (u : Nat) : List Byte :=
  [1, 1, 0, 0, 0, 42, 1, 64, 0, 0, 2, 0, 0, 0, 0, 0] ++ beBytes 6 u ++ [0, 4, 0, 0, 0, 16, 0, 64, 0, 0]

theorem soloBody_entry (u : Nat) : bytesAt (soloBody u) 16 6 = ofBytes (beBytes 6 u) := rfl

theorem soloBody_parts (u : Nat) : bytesAt (soloBody u) 0 1 = 1 ∧ bytesAt (soloBody u) 2 1 = 0 ∧ bytesAt (soloBody u) 22 1 = 0 := ⟨rfl, rfl, rfl⟩

theorem wit_InaugPassages_layout :
    ∃ x, parseLayout (soloBody ownId) = some x ∧ x.offs = none ∧ ∃ e, x.entryAt 0 = some e ∧ e.uid = ownId := by
  obtain ⟨h0, h2, h22⟩ := soloBody_parts ownId
  refine ⟨_, by simp only [parseLayout, h0, h2]; rfl, rfl, parseEntry (soloBody ownId) 16, ?_, ?_⟩
  · simp [Layout.entryAt, parseEntry, h22]
  · simp [parseEntry, soloBody_entry, ofBytes_six ownId ownId_lt]

/-- A roll of 254 records has room; the node awaits a layout of one other node. -/
theorem wit_InaugPassages :
    let l := ring7 1 255 false
    let s := ring7 3 0 false
    (head0.crown.crcOk = true ∧ head0.bodyOk = true ∧ pass0.suppressed = 0) ∧
    (usable l 7 (outPort l 7 .east) = true ∧ usable s 7 (outPort s 7 .east) = true ∧ pass0.sinceStrobe ≤ 451000 ∧
      s.fb (BAND_STATUS_MUTED 7) = false ∧ (s.setB (BAND_STATUS_MUTED 7) true).fb (BAND_STATUS_MUTED 7) = true ∧
      usable (s.setB (BAND_STATUS_MUTED 7) true) 7 .west = true ∧ (s.ring 7).next = none ∧ ownPos s 7 ≠ 255) ∧
    (isHead l 7 = false ∧ grdClosed l = false ∧ ringState l 7 = 1 ∧ (List.replicate 254 rec0).length < 255 ∧ (l.ring 7).rollAt = none) ∧
    (isHead s 7 = false ∧ grdClosed s = false ∧ ringState s 7 = 3 ∧ isForward s 7 pass0.port = true ∧ ownPos s 7 = 0) ∧
    (ownPos (ring7 3 3 false) 7 = 3 ∧ ringState (ring7 3 3 false) 7 = 3 ∧ isForward (ring7 3 3 false) 7 pass0.port = true) ∧
    (parseLayout (soloBody 7)).isSome = true ∧ ((parseLayout (soloBody 7)).bind fun x => x.entryAt 3) = none := by
  decide +kernel

theorem wit_InaugPassages_ack :
    let x : Layout := layoutOf 1 41 [⟨5, 0, false, true, true, false, 8, 16, 64⟩]
    let a := (ring7 3 0 false).updRing 7 fun r => { r with next := some x }
    ((a.ring 7).next = some x ∧ (a.setB (BAND_STATUS_ARMED 7) true).fb (BAND_STATUS_ARMED 7) = true ∧ a.fb (BAND_STATUS_ARMED 7) = false) ∧
    ([(0, 500)] : List (Nat × Nat)).find? (fun e => decide (e.1 = ownPos a 7)) = some (0, 500) := by
  decide +kernel

/-! ### Ethernet ports and Hexlo -/

/-- Every port has a link and an address; session 127 receives and sends in a group; ETH-B untagged, ETH-A tagged. -/
def hexState : State :=
  let s := [0, 1, 2].foldl (fun s p => (((s.setB (ETH_CTRL_EN p) true).setB (ETH_STATUS_LINK p) true).setF (ETH_IP_IP p) 0x0A000001).setF (ETH_PREFIX_PREFIX p) 24) base
  let s := ((s.setB (ETH_VLAN_EN 0) true).setF (ETH_VLAN_VID 0) 4094)
  let s := ((((s.setB HXL_CTRL_EN true).setB (HXL_SCFG0_EN 127) true).setB (HXL_SCFG0_RX_EN 127) true).setB (HXL_SCFG0_MCAST_EN 127) true).wr (HXL_SMCAST 127) 0xE0000001
  let s := ((s.wr (HXL_SPEER_ID 127) 7).wr (HXL_SLOCAL_ID 127) 8).setF (HXL_SCFG1_IFV_LO 127) 3
  let s := ((s.setF (HXL_SCFG1_IFV_HI 127) 3).setF (HXL_SSTAT_STATE 127) 2).setF (HXL_SNEXP_NEXP 127) 9
  let s := { s with sec := { s.sec with hxKeys := Store.put (fun _ => none) s.sec.hxKeys 255 (some 99) } }
  s.updSes 127 fun x => { x with lastStamp := 100 }

/-- A UDP datagram to the address of hexState's ports. -/
def udp0 (port : BitVec 16) : IpPacket := ⟨true, 17, 0x0A000002, 0x0A000001, 4000, port, []⟩

def ethState : State :=
  ((hexState.setB BRG_CTRL_EN true).wr (BRG_ROUTE 7 0) (BitVec.ofNat 32 (2 ^ 31 + 8 * 2 ^ 27 + 15 * 2 ^ 23))).wr (BRG_ROUTE 7 1) 0xE0111000

/-- Every class of frame, good and dropped: the largest, tagged and not, a full FIFO; UDP to the bridge, to Hexlo, with a route to MGMT and without. -/
theorem wit_EthernetPorts :
    let q := { hexState with net := { hexState.net with echo := Store.put (fun _ => (0, 0)) [] 1 (hexState.time.t / 1000000000, 10) } }
    let q9 := { hexState with net := { hexState.net with echo := Store.put (fun _ => (0, 0)) [] 1 (hexState.time.t / 1000000000, 9) } }
    let hx := udp0 (BitVec.ofNat 16 (hexState.fv HXL_CTRL_UDP_PORT))
    (hexState.alive = true ∧ ethUp hexState 0 = true ∧ ethUp hexState 2 = true ∧ ethUp base 0 = false ∧ hexState.fb (ETH_STATUS_LINK 0) = true) ∧
    (tagOk hexState 0 ⟨true, 1522, some 4094, .ip hx, 31246⟩ = true ∧ fifoTakes hexState ⟨true, 1522, some 4094, .ip hx, 31246⟩ = true ∧
      fifoTakes hexState ⟨true, 1522, some 4094, .ip hx, 31247⟩ = false ∧ tagOk hexState 0 ⟨true, 64, none, .otherType, 0⟩ = false ∧
      isHexlo hexState ⟨true, 1518, none, .ip hx, 0⟩ = true ∧ isHexlo hexState ⟨true, 1518, none, .ip (udp0 4096), 0⟩ = false ∧
      tagOk hexState 1 ⟨true, 64, none, .arpReply 5 6, 24576⟩ = true ∧ fifoTakes hexState ⟨true, 64, none, .arpReply 5 6, 24576⟩ = true ∧
      fifoTakes hexState ⟨true, 64, none, .arpReply 5 6, 24577⟩ = false) ∧
    ((udp0 4096).plain = true ∧ (udp0 4096).dst.toNat = hexState.fv (ETH_IP_IP 0) ∧ (udp0 (BitVec.ofNat 16 (hexState.fv BRG_CTRL_UDP_PORT))).dstPort.toNat =
      hexState.fv BRG_CTRL_UDP_PORT ∧ ethState.fb BRG_CTRL_EN = true ∧ ethState.pwr.power = .run ∧
      ethState.findRoute 8 (0xE0000000 + 17 * 0x10000 + 4096) = some 7 ∧ (ethState.route 7).outPort = 15 ∧
      ethState.findRoute 8 (0xE0000000 + 17 * 0x10000 + 4097) = none) ∧
    ((0x0A000001 : Word).toNat = hexState.fv (ETH_IP_IP 1) ∧ (0x0A000002 : Word).toNat ≠ hexState.fv (ETH_IP_IP 1)) ∧
    (ethUp q 1 = true ∧ Store.get (fun _ => (0, 0)) q.net.echo 1 = (q.time.t / 1000000000, 10) ∧
      (Store.get (fun _ => (0, 0)) q9.net.echo 1).2 < 10 ∧ ethUp q9 1 = true) ∧
    (netQuiet hexState = false ∧ EthPort.a ≠ .mgt ∧ hexState.fb (HXL_SCFG0_MCAST_EN 127) = true ∧ sesEn hexState 127 = true) := by
  decide +kernel

/-- Header of message 9 of session 127, STAMP 101, with 8 payload bytes; the tag follows. -/
def hexHead : List Byte :=
  [0x48, 0x58, 1, 3, 127, 0, 0, 0, 0, 0, 0, 9, 0, 0, 0, 0, 0, 101, 0, 8, 0, 0, 0, 7, 0, 0, 0, 8, 0, 0, 0, 0, 0, 0, 0, 0]

def hexBody (fill : Byte) : List Byte := hexHead ++ [1, 2, 3, 4, 5, 6, 7, fill]

def hexMsg (fill : Byte) : List Byte := hexBody fill ++ hxTag 99 (hexBody fill)

theorem sha256_length (m : List Byte) : (sha256 m).length = 32 := rfl

theorem hexMsg_length (fill : Byte) : (hexMsg fill).length = 60 := by
  simp [hexMsg, hexBody, hexHead, hxTag, hmacSha256, sha256_length]

theorem bytesAt_append (a t : List Byte) (o n : Nat) (h : o + n ≤ a.length) : bytesAt (a ++ t) o n = bytesAt a o n := by
  unfold bytesAt
  congr 1
  refine List.map_congr_left fun k hk => ?_
  have := List.mem_range.1 hk
  simp only [List.getD_eq_getElem?_getD]
  rw [List.getElem?_append_left (by omega)]

theorem hexHead_fields : bytesAt hexHead 0 2 = 0x4858 ∧ bytesAt hexHead 2 1 = 1 ∧ bytesAt hexHead 18 2 = 8 ∧
    bytesAt hexHead 4 1 = 127 ∧ bytesAt hexHead 3 1 = 3 ∧ bytesAt hexHead 20 4 = 7 ∧ bytesAt hexHead 24 4 = 8 ∧
    bytesAt hexHead 8 4 = 9 ∧ bytesAt hexHead 12 6 = 101 := by decide +kernel

theorem hexMsg_fields (fill : Byte) : bytesAt (hexMsg fill) 0 2 = 0x4858 ∧ bytesAt (hexMsg fill) 2 1 = 1 ∧ hxLen (hexMsg fill) = 8 ∧
    bytesAt (hexMsg fill) 4 1 = 127 ∧ bytesAt (hexMsg fill) 3 1 = 3 ∧ bytesAt (hexMsg fill) 20 4 = 7 ∧ bytesAt (hexMsg fill) 24 4 = 8 ∧
    hxSeq (hexMsg fill) = 9 ∧ hxStamp (hexMsg fill) = 101 := by
  have hl : hexHead.length = 36 := rfl
  have h (o n : Nat) (ho : o + n ≤ 36) : bytesAt (hexMsg fill) o n = bytesAt hexHead o n := by
    rw [hexMsg, hexBody, List.append_assoc, bytesAt_append _ _ _ _ (by omega)]
  simp only [hxLen, hxSeq, hxStamp]
  rw [h 0 2, h 2 1, h 18 2, h 4 1, h 3 1, h 20 4, h 24 4, h 8 4, h 12 6]
  · exact hexHead_fields
  all_goals decide

theorem hexState_key : Store.get (fun _ => none) hexState.sec.hxKeys (2 * 127 + 1) = some 99 := by decide +kernel

/-- The UDP port of Hexlo. -/
def hexUdp : BitVec 16 := 0xCACD

theorem hexState_fields : (hexState.fb HXL_CTRL_EN = true ∧ ethUp hexState 1 = true ∧ hexUdp.toNat = hexState.fv HXL_CTRL_UDP_PORT) ∧ hexState.fb (HXL_SCFG0_MCAST_EN 127) = true ∧
    hexState.rd (HXL_SMCAST 127) = 0xE0000001 ∧ hexState.fb (HXL_SCFG0_RX_EN 127) = true ∧ sesState hexState 127 = 2 ∧
    (hexState.rd (HXL_SPEER_ID 127)).toNat = 7 ∧ (hexState.rd (HXL_SLOCAL_ID 127)).toNat = 8 ∧ hexState.fv (HXL_SCFG1_IFV_LO 127) = 3 ∧
    hexState.fv (HXL_SCFG1_IFV_HI 127) = 3 := by decide +kernel

theorem hexMsg_valid (s : State) (fill : Byte) (hr : s.regs = hexState.regs) (hp : s.pwr = hexState.pwr) (hk : s.sec = hexState.sec) :
    ValidCopy s 127 true hexUdp 0xE0000001 (hexMsg fill) := by
  obtain ⟨h0, h1, h2, h3, h4, h5, h6, h7, h8⟩ := hexMsg_fields fill
  have hf := hexState_fields
  simp only [State.fb, State.fv, State.rd, ethUp, sesState, State.stabled, ← hr, ← hp] at hf
  obtain ⟨g1, g3, g4, g5, g6, g7, g8, g9, g10⟩ := hf
  refine ⟨g1, ⟨h0, h1, by omega, by rw [hexMsg_length, h2]⟩, ⟨h3, by decide, by decide⟩, .inr ⟨g3, g4.symm⟩, ⟨g5, .inr g6⟩, ⟨by rw [h5]; exact g7.symm, by rw [h6]; exact g8.symm⟩,
    ⟨by rw [h4]; exact Nat.le_of_eq g9, by rw [h4]; exact Nat.le_of_eq g10.symm⟩, ?_⟩
  simp only [tagVerifies, hk, hexState_key, h2]
  rw [show 36 + 8 = (hexBody fill).length from rfl, hexMsg, List.take_left, List.drop_left]
  simp

theorem wit_HexloMessagesAndSessions_first :
    ValidCopy hexState 127 true hexUdp 0xE0000001 (hexMsg 8) ∧ (hexState.ses 127).copies = [] ∧ heldMessage hexState 127 9 = none ∧
    copyLate hexState 127 9 = false ∧ poolUsed hexState < 448 ∧ sesBufs (hexState.ses 127) < 16 ∧ hxSeq (hexMsg 8) = 9 :=
  ⟨hexMsg_valid hexState 8 rfl rfl rfl, by decide +kernel, by decide +kernel, by decide +kernel, by decide +kernel, by decide +kernel, rfl⟩

/-- A message that is not one, and another UDP port. -/
theorem wit_HexloMessagesAndSessions_malformed : bytesAt [] 0 2 ≠ 0x4858 ∧ hexState.fb HXL_CTRL_EN = true ∧ ethUp hexState (b2n true) = true ∧
    hexUdp.toNat = hexState.fv HXL_CTRL_UDP_PORT ∧ (0xCACE : BitVec 16).toNat ≠ hexState.fv HXL_CTRL_UDP_PORT := by
  decide +kernel

theorem updSes_regs (s : State) (n : Nat) (f : HexSes → HexSes) : (s.updSes n f).regs = s.regs := rfl
theorem updSes_pwr (s : State) (n : Nat) (f : HexSes → HexSes) : (s.updSes n f).pwr = s.pwr := rfl
theorem updSes_sec (s : State) (n : Nat) (f : HexSes → HexSes) : (s.updSes n f).sec = s.sec := rfl

/-- A full pool, and a session whose share of 16 is full while the pool has room; the configuration is hexState's. -/
def fullState (n k : Nat) : State := hexState.updSes n fun x => { x with wait := List.replicate k ⟨[], 0, false, false⟩ }

theorem wit_HexloMessagesAndSessions_full : 448 ≤ poolUsed (fullState 1 448) ∧ ((fullState 1 448).ses 127).copies = [] ∧
    poolUsed (fullState 127 16) < 448 ∧ 16 ≤ sesBufs ((fullState 127 16).ses 127) ∧ ((fullState 127 16).ses 127).copies = [] ∧
    (fullState 1 448).alive = true := by decide +kernel

theorem wit_HexloMessagesAndSessions_full_valid (n k : Nat) : ValidCopy (fullState n k) 127 true hexUdp 0xE0000001 (hexMsg 8) :=
  hexMsg_valid (fullState n k) 8 (updSes_regs ..) (updSes_pwr ..) (updSes_sec ..)

/-- The session with one copy of message 9 waiting; in OPEN or RESYNC. -/
def waitingState (b : List Byte) (onB : Bool) (age st stamp : Nat) (res : HexRes) : State :=
  (hexState.setF (HXL_SSTAT_STATE 127) st).updSes 127 fun x => { x with copies := [⟨9, b, onB, age, res⟩], lastStamp := stamp }

theorem waitingState_ses (b : List Byte) (onB : Bool) (age st stamp : Nat) (res : HexRes) :
    (waitingState b onB age st stamp res).ses 127 = { hexState.ses 127 with copies := [⟨9, b, onB, age, res⟩], lastStamp := stamp } := by
  simp [waitingState, State.updSes, State.ses, State.setF, State.wr, Store.modify]

theorem waitingState_regs (b : List Byte) (onB : Bool) (age st stamp : Nat) (res : HexRes) :
    (waitingState b onB age st stamp res).regs = (hexState.setF (HXL_SSTAT_STATE 127) st).regs := rfl

/-- The second copy, identical or not, inside the window. -/
theorem wit_HexloMessagesAndSessions_second (b c : List Byte) (hb : hxSeq b = 9) :
    ((waitingState c false 0 2 100 .waiting).ses 127).copies = [⟨hxSeq b, c, !true, 0, .waiting⟩] ∧
    0 < sesW (waitingState c false 0 2 100 .waiting) 127 ∧ (waitingState c false 0 2 100 .waiting).fv (HXL_SNEXP_NEXP 127) = hxSeq b ∧
    sesState (waitingState c false 0 2 100 .waiting) 127 = 2 ∧ ((waitingState c false 0 2 100 .waiting).ses 127).carryGap = 0 ∧
    ((waitingState c false 0 2 100 .waiting).ses 127).staleGap = 0 := by
  have h : (hexState.setF (HXL_SSTAT_STATE 127) 2).fv (HXL_SNEXP_NEXP 127) = 9 ∧ sesState (hexState.setF (HXL_SSTAT_STATE 127) 2) 127 = 2 ∧
    (hexState.ses 127).carryGap = 0 ∧ (hexState.ses 127).staleGap = 0 := by decide +kernel
  simp only [waitingState_ses, sesState, State.fv, State.rd, waitingState_regs, hb] at h ⊢
  exact ⟨rfl, Nat.succ_pos _, h⟩

theorem wit_HexloMessagesAndSessions_room : ∀ fill ∈ [8, 9], let s := waitingState (hexMsg fill) false 0 2 100 .waiting
    poolUsed s < 448 ∧ sesBufs (s.ses 127) < 16 := by decide +kernel

theorem hexState_open : (hexState.setF (HXL_SSTAT_STATE 127) 2).regs = hexState.regs := by decide +kernel

theorem wit_HexloMessagesAndSessions_copies (fill : Byte) :
    ValidCopy (waitingState (hexMsg fill) false 0 2 100 .waiting) 127 true hexUdp 0xE0000001 (hexMsg 8) ∧ hxSeq (hexMsg fill) = hxSeq (hexMsg 8) :=
  ⟨hexMsg_valid _ 8 ((waitingState_regs ..).trans hexState_open) (by rw [waitingState, updSes_pwr, State.setF_pwr])
    (by rw [waitingState, updSes_sec, State.setF_sec]), by simp [hexMsg_fields]⟩

theorem test_hexMsg_differs : hexBody 8 ≠ hexBody 9 := by decide

/-- At the end of the window (whatever the copy's bytes; hexMsg_fields gives a message 9 with STAMP 101), in OPEN, and in RESYNC with a later and an earlier STAMP; a gap of one. -/
theorem wit_HexloMessagesAndSessions_close : ∀ p ∈ [((2 : Nat), (100 : Nat)), (1, 100), (1, 101)],
    let s := waitingState [] true 1 p.1 p.2 .waiting
    sesW s 127 ≤ 1 ∧ sesState s 127 = p.1 ∧ (s.ses 127).staleGap = 0 ∧ (s.ses 127).carryGap = 0 ∧ s.fv (HXL_SNEXP_NEXP 127) = 9 ∧ (s.ses 127).lastStamp = p.2 := by
  decide +kernel

theorem wit_HexloMessagesAndSessions_gap :
    let s := (waitingState [] true 1 2 100 .single).setF (HXL_SNEXP_NEXP 127) 8
    sesState s 127 = 2 ∧ sesW s 127 = 1 ∧ 9 = (s.fv (HXL_SNEXP_NEXP 127) + 1) % 2 ^ 32 ∧ (s.ses 127).carryGap = 0 ∧ (s.ses 127).staleGap = 0 := by
  decide +kernel

theorem wit_HexloMessagesAndSessions_2 :
    let stale := hexState.setF (HXL_SSTAT_SILENT 127) 1
    let closed := (hexState.setF (HXL_SSTAT_STATE 127) 3).setB (HXL_SCFG0_AUTO_REOPEN 127) true
    let closed := { closed with time := { closed.time with epoch := 107 } }
    let closed := closed.updSes 127 fun x => { x with closedE := 7 }
    let lone := hexState.updSes 127 fun x => { x with noPair := 1000, delivered := true }
    (sesState stale 127 = 2 ∧ sesFreshT stale 127 ≤ stale.fv (HXL_SSTAT_SILENT 127) ∧ (stale.ses 127).copies = []) ∧
    hexState.fv (HXL_SSTAT_SILENT 127) < sesFreshT hexState 127 ∧
    (sesState closed 127 = 3 ∧ closed.fb (HXL_SCFG0_AUTO_REOPEN 127) = true ∧
      (closed.ses 127).closedE + (closed.fv (HXL_SCFG0_REOPEN_M1 127) + 1) * 100 ≤ closed.E) ∧
    (1000 ≤ (lone.ses 127).noPair ∧ (lone.ses 127).delivered = true ∧ lone.fb (HXL_SSTAT_DEGRADED 127) = false ∧ lone.alive = true) := by
  decide +kernel

/-! ### The bridge -/

/-- Route 0: from the management engine's port (15) to ring 3, lockable; route 1: posted, from ETH-A (8) to ETH-B (9); both in domain 63; route 2: from the
pair (11) to the management engine. -/
def brgState : State :=
  let s := (base.setB BRG_CTRL_EN true).setF BRG_DOM_LIMIT_LIMIT 4
  let s := (s.wr (BRG_ROUTE 0 0) (BitVec.ofNat 32 (2 ^ 31 + 15 * 2 ^ 27 + 3 * 2 ^ 23 + 63 * 2 ^ 17 + 2 ^ 13))).wr (BRG_ROUTE 0 1) 4
  let s := (s.wr (BRG_ROUTE 1 0) (BitVec.ofNat 32 (2 ^ 31 + 8 * 2 ^ 27 + 9 * 2 ^ 23 + 63 * 2 ^ 17 + 2 ^ 16))).wr (BRG_ROUTE 1 1) 4
  let s := (s.wr (BRG_ROUTE 1 2) (BitVec.ofNat 32 (5 * 2 ^ 26))).wr (BRG_ROUTE 1 3) 0
  let s := (s.wr (BRG_ROUTE 2 0) (BitVec.ofNat 32 (2 ^ 31 + 11 * 2 ^ 27 + 15 * 2 ^ 23))).wr (BRG_ROUTE 2 1) 9
  (s.setF (BRG_EP_ID_ID Engine.mgmt.num) 4).wr (BRG_PEER_IP 5) 0x0A000005

theorem wit_BridgeIngress :
    let full := brgState.setF BRG_DOM_LIMIT_LIMIT 0
    (base.fb BRG_CTRL_EN = false ∧ brgState.pwr.power = .run ∧ brgState.findRoute 11 9 = some 2 ∧ (brgState.route 2).outPort = enginePort .mgmt ∧
      (brgState.eport Engine.mgmt.num).an.length < 8) ∧
    (brgState.fb BRG_CTRL_EN = true ∧ ({ brg0 with id := 4, dlen := 1024 } : BrgMsg).op = 1 ∧ brgState.findRoute 8 4 = some 1 ∧
      (brgState.route 1).posted = true ∧ brgState.bridge.blocks = [] ∧ brgState.prepared 4 = false ∧
      hasRoom brgState (brgState.route 1).domain (msgSize { brg0 with id := 4, dlen := 1024 }) = true) ∧
    (full.findRoute 8 4 = some 1 ∧ hasRoom full (full.route 1).domain (msgSize { brg0 with id := 4 }) = false ∧ full.fb BRG_CTRL_EN = true) ∧
    (brgState.findRoute (enginePort .mgmt) (brgState.fv (BRG_EP_ID_ID Engine.mgmt.num)) = some 0 ∧ (brgState.route 0).prefetch = false ∧
      hasRoom brgState (brgState.route 0).domain 64 = true ∧ (brgState.route 0).lockable = true ∧ (brgState.route 0).outPort < 8) ∧
    (brgState.eport 0).an.length < 8 := by decide +kernel

/-- No route: at an Ethernet port, and at an engine's. -/
theorem wit_BridgeIngress_none : brgState.findRoute 8 5 = none ∧ (brgState.setF (BRG_EP_ID_ID Engine.mgmt.num) 5).findRoute 15 5 = none ∧
    (brgState.eport Engine.mgmt.num).an.length < 8 := by decide +kernel

/-- A held posted WRITE on route 1, sent or not. -/
def heldWrite (dseq : Nat) (age : Option Nat) : BrgHeld := ⟨dseq, 1, ⟨8, 0, 0, 54321⟩, { brg0 with id := 4 }, age, age.isSome, none, false, none⟩

/-- Outstanding on route 0, which leads to ring 3: a READ of the management engine, and a LOCK under LTAG 9. -/
def heldRead (op : Nat) (lock : Option Nat) : BrgHeld :=
  ⟨20, 0, ⟨15, 0, 6, 0⟩, { brg0 with op := op, tag := 5, id := 4 }, some 0, true, lock, false, none⟩

theorem wit_BridgeOrderAndExpiries :
    let s := brgState.setDom 63 ⟨11, [heldWrite 10 none]⟩
    let o := brgState.setDom 63 ⟨11, [heldWrite 10 (some 0)]⟩
    let late := brgState.setDom 63 ⟨11, [heldWrite 10 (some 2)]⟩
    let r := s.route 1
    (heldWrite 10 none ∈ (s.dom 63).msgs ∧ (heldWrite 10 none).msg.op = 1 ∧ r.posted = true ∧ r.ret = false ∧ r.outPort = 9 ∧
      egressTarget 9 (r.egress 4) = 5) ∧
    (s.stalled 63 = false ∧ nextHeld (s.dom 63) = some (heldWrite 10 none) ∧ mayGo s 63 (heldWrite 10 none) = true ∧ s.bridge.locks = []) ∧
    (s.setStall 63 true).stalled 63 = true ∧ heldWrite 10 none ∈ ((s.setStall 63 true).dom 63).msgs ∧
    (heldWrite 10 (some 0) ∈ (o.dom 63).msgs ∧ answered o 9 0x0A000005 { brg0 with op := 4, tag := (heldWrite 10 (some 0)).msg.tag } = some (63, heldWrite 10 (some 0)) ∧
      (heldWrite 10 (some 0)).lock = none ∧ o.bridge.fq.length < 256 ∧
      answered o 9 0x0A000005 { brg0 with op := 5, cause := 1, tag := (heldWrite 10 (some 0)).msg.tag } = some (63, heldWrite 10 (some 0))) ∧
    (∀ x ∈ (late.dom 63).msgs, ∀ n, x.age = some n → (late.route x.route).timeout + 1 ≤ n) ∧ (late.dom 63).msgs.Nodup ∧ (heldWrite 10 (some 2)).age = some 2 ∧
    heldWrite 10 (some 2) ∈ (late.dom 63).msgs ∧ (late.dom 63).msgs.length = 1 ∧ late.pwr.power = .run ∧ late.bridge.fq.length < 256 ∧
    (heldWrite 10 none).out = false := by
  refine ⟨by decide +kernel, by decide +kernel, by decide +kernel, by decide +kernel, by decide +kernel, ?_, by decide +kernel⟩
  intro x hx n hn
  obtain rfl : x = heldWrite 10 (some 2) := by simpa [State.dom, State.setDom] using hx
  obtain rfl : n = 2 := by simpa [heldWrite] using hn.symm
  decide +kernel

theorem wit_BridgeOrderAndExpiries_answers :
    let s := fun (h : BrgHeld) => brgState.setDom 63 ⟨21, [h]⟩
    answered (s (heldRead 2 none)) 3 (egressTarget 3 ((brgState.route 0).egress 4)) { brg0 with op := 3, tag := 5 } = some (63, heldRead 2 none) ∧
    (heldRead 2 none).msg.op = 2 ∧ (heldRead 2 none).msg.prefetched = false ∧ (heldRead 2 none).sender.port = enginePort .mgmt ∧
    ((s (heldRead 2 none)).eport Engine.mgmt.num).an.length < 8 ∧
    answered (s (heldRead 8 (some 9))) 3 (egressTarget 3 ((brgState.route 0).egress 4)) { brg0 with op := 4, tag := 9 } = some (63, heldRead 8 (some 9)) := by
  decide +kernel

theorem wit_BridgeOrderAndExpiries_2 :
    let k : BrgLock := ⟨65535, 0, 7, 254, ⟨8, 0, 0, 0⟩, 3, true, 0, false⟩
    let s := { base with bridge := { base.bridge with locks := [k], blocks := [⟨0, 63, 0, 0, [], 8⟩, ⟨0, 63, 0, 0, [], 7⟩] } }
    (s.bridge.locks.map fun x => x.ltag).Nodup ∧ s.bridge.blocks.Nodup ∧ k ∈ s.bridge.locks ∧ k.ltag = (65535 : BitVec 16).toNat ∧ k.granted = true ∧ k.left = 0 := by
  decide +kernel

/-! ### Field channels and brake -/

/-- CH0 an output (mode 1) on with CH1 off, CH23 a brake channel, CH47 an input; every group switch closed. -/
def ioState : State :=
  let s := (((base.setF (IO_CH_CFG_MODE 0) 1).setF (IO_CH_CFG_MODE 1) 1).setF (IO_CH_CFG_MODE 23) 2).setF (IO_CH_CFG_FLT 47) 5
  { s with ixGates := .all (2 ^ 25 + 2 ^ 24 + 1) }

/-- CH0 and CH1 read the wrong way for the 40th time; CH47 has one odd comparator for the 2,000th. -/
theorem wit_FieldSamplesAndTestPulses :
    let s := { (ioState.forLanes fun s l => s.updPart l fun p => { p with miss := [(0, 39), (1, 39)] }) with
      ix := { (ioState.forLanes fun s l => s.updPart l fun p => { p with miss := [(0, 39), (1, 39)] }).ix with discRun := [(3 * 47 + 2, 1999)] } }
    let inp : IoIn := ⟨⟨2, 2, 2 + 2 ^ 47⟩, 2400, 2400, 3⟩
    s.alive = true ∧ (∀ k ∈ allLanes, testedCh s k = none) ∧ (s.time.tick ≠ 18 ∧ s.time.tick ≠ 19) ∧
    (∀ ch ∈ [0, 1], isOutput s ch = true ∧ natBit (s.ixGates.get .a) (grpBit (groupOf ch)) = true ∧ Store.get (fun _ => 0) (s.part .a).settle ch = 0 ∧
      Store.get (fun _ => 0) (s.part .a).miss ch = 39) ∧ s.ix.pulse = none ∧
    (majority3 inp.raw 1 = true ∧ natBit (s.ixGates.get .a) 1 = false) ∧
    (majority3 inp.raw 0 = false ∧ natBit (s.ixGates.get .a) 0 = true ∧ natBit (s.part .a).uv (groupOf 0) = false) ∧
    (isOutput s 47 = false ∧ oddOne inp.raw 47 = some .c ∧ Store.get (fun _ => 0) s.ix.discRun (3 * 47 + 2) = 1999) := by decide +kernel

theorem wit_FieldSamplesAndTestPulses_2 :
    let told := fun (m : Nat) (ls : List Lane) (s : State) => ls.foldl (fun s l => s.updPart l fun p => { p with frame := 2 ^ 25 + 2 ^ 24 + 1, test := m }) s
    let s := { told 1 [.a, .b] (ioState.setB (IO_CH_TEST_DARK_EN 0) true) with time := { ioState.time with epoch := 12, tick := 18 } }
    let one := { told 1 [.a] (ioState.setB (IO_CH_TEST_DARK_EN 0) true) with time := { ioState.time with epoch := 12, tick := 18 } }
    let b := { told 2 [.a, .b, .c] (ioState.setB (IO_CH_TEST_BRIGHT_EN 1) true) with time := { ioState.time with epoch := 12, tick := 19 } }
    s.ix.pulse = none ∧ pulseDue s 0 = true ∧ darkDue s 0 = true ∧ pulseDue one 0 = false ∧ pulseDue b 1 = true ∧ darkDue b 1 = false ∧
    (∀ k ∈ allLanes, natBit (b.part k).chFault 1 = false ∧ natBit (b.part k).frame (grpBit (groupOf 1)) = true) ∧ pulseDue base 0 = false := by
  decide +kernel

def pulseState (dark spoilt : Bool) : State := { ioState with ix := { ioState.ix with pulse := some ⟨0, dark, 1, spoilt, 3⟩ } }

/-- No other output ends the pulse otherwise than it began it: all read 0, or CH0 alone reads 1, by two comparators or by three. -/
theorem wit_FieldSamplesAndTestPulses_3 (dark : Bool) : (pulseState dark false).ix.pulse = some ⟨0, dark, 1, false, 3⟩ ∧
    (∀ k ∈ allLanes, testedCh (pulseState dark false) k = none) ∧
    ∀ w ∈ [(⟨0, 0, 0⟩ : PerLane (BitVec 24)), ⟨1, 1, 1⟩, ⟨1, 0, 1⟩, ⟨0, 2, 0⟩], ∀ j, j < 24 → j ≠ 0 →
      natBit 1 j = false ∧ decide (2 ≤ (allLanes.filter fun k => (w.get k).getLsbD j).length) = false := by
  cases dark <;> decide +kernel

theorem wit_FieldSamplesAndTestPulses_spoilt : (pulseState true true).ix.pulse = some ⟨0, true, 1, true, 3⟩ := rfl

theorem wit_FieldFaults :
    let s := ((ioState.setB (IO_CH_CFG_FB_EN 23) true).setF (IO_CH_CFG_FB_CH 23) 47)
    s.alive = true ∧ (∀ m ∈ allLanes, (s.lane m).powered = true) ∧ isOutput s 23 = true ∧ s.fb (IO_CH_CFG_FB_EN 23) = true ∧ feedbackBad s .c 23 = true ∧
    feedbackBad (s.updPart .b fun p => { p with st := 2 ^ 47 }) .b 23 = false ∧ (4 : BitVec 3).getLsbD Lane.c.num = true ∧ (4 : BitVec 3).getLsbD Lane.a.num = false := by
  decide +kernel

/-- Each phase at its end; validity standing with an hour left, and lapsed. -/
theorem wit_BrakeTests :
    let t := fun (ph tk go : Nat) => ioState.updBrk .c fun b => { b with tests := [(3, some ⟨ph, tk, go⟩)] }
    let v := fun (e : Nat) => ({ ioState with time := { ioState.time with epoch := 1000000 } } : State).updBrk .c fun b => { b with pass := [(3, some e)] }
    let r := (ioState.updLane .c fun x => { x with pub := 2 ^ 23 + 2 ^ 27 }).updBrk .c fun b => { b with pass := [(3, some 7)] }
    ioState.alive = true ∧ (∀ m ∈ allLanes, (ioState.lane m).powered = true) ∧ brkRelease r .c 3 = true ∧ psTicks ioState = 200 ∧
    (∀ p ∈ [(1, 200, 0), (2, 2000, 0), (3, 0, 200), (3, 200, 0)], brkTest (t p.1 p.2.1 p.2.2) .c 3 = some ⟨p.1, p.2.1, p.2.2⟩) ∧
    (Store.get (fun _ => none) ((v 1000000).brk.get .c).pass 3 = some 1000000 ∧ brkValid (v 1000000) .c 3 = true ∧
      1000000 + validEpochs (v 1000000) ≤ (v 1000000).E + 360000) ∧
    (Store.get (fun _ => none) ((v 640000).brk.get .c).pass 3 = some 640000 ∧ 640000 + validEpochs (v 640000) ≤ (v 640000).E) := by
  decide +kernel

/-! ### Module pairs -/

def pairState : State :=
  let s := ((base.setB PAIR_CFG_EN true).setF PAIR_PEER_ID_LO_ID_LO 9).setF PAIR_CFG_RINGS 1
  { s with time := { s.time with tick := 19 } }

/-- A heartbeat in each of its parts; a silent partner whose slices are fresh, or stale; readiness on both sides. -/
theorem wit_PairLinks :
    let sb := ({ pairState with mode := .standby } : State).setF PAIR_STATUS_READINESS 2
    let w := { beat0 with withdraw := true, readiness := 1 }
    let quiet := fun (s : State) (k : Nat) => ({ s with pair := { s.pair with hbAge := 4 } } : State).updRing 0 fun r => { r with peerStale := k }
    let ok := { sb with sec := { sb.sec with startOk := true } }
    let lastIs := { pairState with pair := { pairState.pair with last := some { beat0 with readiness := 2 }, echo := some 0 } }
    paired pairState = true ∧ ({ beat0 with crcOk := false }).crcOk = false ∧
    (hbOfPeer pairState { beat0 with id := 8 } = false ∧ hbOfPeer pairState { beat0 with e := 9 } = true ∧ hbValid pairState { beat0 with e := 9 } = false ∧
      hbCopy pairState { beat0 with e := 9 } = false ∧ hbCopy lastIs { beat0 with readiness := 2 } = true) ∧
    (hbValid pairState beat0 = true ∧ hbCopy pairState beat0 = false) ∧
    (hbValid ok w = true ∧ hbCopy ok w = false ∧ ok.mode = .standby ∧ w.withdraw = true ∧ w.readiness ≠ 0 ∧ ok.fv PAIR_STATUS_READINESS = 2 ∧
      ok.fb PAIR_STATUS_TAKE_COND = false ∧ ok.sec.startOk = true ∧ paired ok = true) ∧
    (pairState.mode = .active ∧ hbValid pairState { beat0 with mode := Mode.standby.code, readiness := 0 } = true ∧ pairState.pair.resync = 0) ∧
    pairState.pair.hbAge < 4 ∧
    (4 ≤ (quiet sb 1).pair.hbAge ∧ (quiet sb 1).fb PAIR_STATUS_SILENT = false ∧ peerFreshMaj (quiet sb 1) 2 = true ∧ (quiet sb 1).mode = .standby ∧
      (quiet sb 1).fv PAIR_STATUS_READINESS = 2) ∧
    (4 ≤ (quiet sb 8).pair.hbAge ∧ (quiet sb 8).fb PAIR_STATUS_SILENT = false ∧ peerStaleMaj (quiet sb 8) 8 = true ∧ peerFreshMaj (quiet sb 8) 2 = false ∧
      (quiet sb 8).fb PAIR_STATUS_TAKE_COND = false) ∧
    (lastIs.mode = .active ∧ lastIs.pair.switchSt = 0 ∧ (∃ g ∈ lastIs.pair.last, g.readiness = 2) ∧ pairState.pair.last = none ∧ pairState.alive = true) := by
  decide +kernel

def health0 : List Byte := [4, 2, BitVec.ofNat 8 LState.lockedOut.code] ++ List.replicate 57 7

theorem wit_PairLinks_health : let b := health0 ++ beBytes 4 (crc32c health0)
    b.length = 64 ∧ bytesAt b 0 1 = 4 ∧ bytesAt b 60 4 = crc32c (b.take 60) ∧ bytesAt b 2 1 = LState.lockedOut.code ∧ pairState.mode = .active ∧
    pairState.pair.watch.lastE ≠ some (bytesAt b 40 6) ∧
    (let s := { pairState with pair := { pairState.pair with watch := { pairState.pair.watch with lastE := some (bytesAt b 40 6) } } }
     paired s = true ∧ s.pair.watch.lastE = some (bytesAt b 40 6)) := by
  decide +kernel

def tinRecs : List TinRec := [⟨true, 131071, false, [9, 2, 3, 4294967295, 5, 6, 7, 8], 0, 7⟩]

def tinMark : Marker := { mark0 with schema := 0, e := 7, rcount := 1, scrc := streamCrc tinRecs }

def tinState : State := { pairState with mode := .standby, pair := { pairState.pair with bank := tinRecs, epochDone := false } }

theorem wit_Tinning :
    let st := { pairState with mode := .standby }
    let out := { pairState with pair := { pairState.pair with marker := some tinMark, tinLane := some .b } }
    (paired st = true ∧ st.mode = .standby ∧ 1 ≤ tinRecs.length ∧ (List.replicate 16 tin0).length ≤ 16 ∧ (∀ x ∈ tinRecs, x.e = tinMark.e) ∧
      (tinRecs.map fun x => x.rseq).Pairwise (· < ·) ∧ st.pair.bank = [] ∧ tinState.pair.bank = tinRecs ∧ tinState.mode = .standby ∧ paired tinState = true) ∧
    (base.time.tick ≠ 19 ∧ out.time.tick = 19 ∧ ({ tinMark with crcOk := false }).crcOk = false ∧ pairState.mode ≠ .standby) ∧
    (out.mode = .active ∧ out.pair.tinLane = some .b ∧ tinMark.pair = 1 ∧ (∀ x ∈ allLanes, (out.lane x).st = .voting) ∧
      tinMark.e < 2 ^ 48 ∧ ((out.updLane .b fun x => { x with st := .starting }).lane .b).st ≠ .voting) := by
  decide +kernel

theorem wit_Tinning_commit :
    (tinState.mode = .standby ∧ tinMark.crcOk = true ∧ tinState.pair.epochDone = false ∧ schemaOk tinState tinMark = true ∧
      bankWhole tinState tinMark 400001 = false ∧ markerOk tinState .a tinMark = false ∧
      (tinState.lane .a).st.counted = true ∧ (tinState.pair.bank.map fun x => x.obj).Nodup ∧ (∀ r ∈ tinState.pair.bank, r.e = tinMark.e ∧ r.obj < 131072)) := by
  decide +kernel

theorem wit_Tinning_whole : bankWhole tinState tinMark 400000 = true := by decide +kernel

/-- A lane that holds the two keys verifies the codes made under them: the rest of what the commit asks for does not look at keys or codes. -/
theorem wit_Tinning_codes (s : State) (l : Lane) (m : Marker) (k1 k2 : BitVec 256) (h1 : s.laneKeyAt l (slotPair 0) = some k1)
    (h2 : s.laneKeyAt l (slotPair 1) = some k2) (hp : m.pair = 1) :
    markerOk s l { m with code1 := code4 k1 (markerString m), code2 := code4 k2 (markerString m) } = true := by
  simp [markerOk, hp, pairLanes, State.verifyCode, Lane.num, h1, h2, markerString]

theorem wit_Tinning_keys : (tinState.updLane .a fun x => { x with keys := [(slotPair 0, some 1), (slotPair 1, some 2)] }).laneKeyAt .a (slotPair 0) = some 1 ∧
    (tinState.updLane .a fun x => { x with keys := [(slotPair 0, some 1), (slotPair 1, some 2)] }).laneKeyAt .a (slotPair 1) = some 2 := by decide +kernel

/-! ### Feeds, power states, reset -/

def pwrAs (f : PwrSt → PwrSt) (s : State) : State := { s with pwr := f s.pwr }

/-- Each run of samples at its end; a hold-up of 9.9 ms and of 10 ms; a held reset with a feed NORMAL for 100 ms and for less. -/
theorem wit_FeedsAndPowerEntry :
    let r := fun (n : Nat) => ({ base with feed := { base.feed with a := ⟨9, 9, 9, n⟩ } } : State)
    let h := fun (n : Nat) => ({ base with feed := { base.feed with holdup := some n } } : State)
    let p := fun (n : Nat) => pwrAs (fun p => { p with power := .reset, failHold := true }) { base with feed := { base.feed with a := ⟨0, 0, 0, n⟩ } }
    base.alive = true ∧
    ((139 : BitVec 16).toNat < 140 ∧ 9 ≤ (r 0).feed.a.lost) ∧ (140 ≤ (167 : BitVec 16).toNat ∧ (167 : BitVec 16).toNat < 168 ∧ 9 ≤ (r 0).feed.a.low) ∧
    (1375 < (1376 : BitVec 16).toNat ∧ 9 ≤ (r 0).feed.a.high) ∧ (168 ≤ (1375 : BitVec 16).toNat ∧ (1375 : BitVec 16).toNat ≤ 1375 ∧ 999 ≤ (r 999).feed.a.ok) ∧
    (base.feed.holdup = none ∧ (issued { r 0 with feed := ⟨⟨0, 9, 0, 0⟩, ⟨0, 9, 0, 0⟩, none, 0⟩ } (.feedSample 139 139 100 true)).fv PWR_FEED_STAT_FEED_A = 2 ∧
      (issued { r 0 with feed := ⟨⟨0, 9, 0, 0⟩, ⟨0, 9, 0, 0⟩, none, 0⟩ } (.feedSample 139 139 100 true)).fv PWR_FEED_STAT_FEED_B = 2) ∧
    ((h 100).feed.holdup = some 100 ∧ (h 100).alive = true ∧ (h 99).feed.holdup = some 99) ∧
    ((p 1000).pwr.failHold = true ∧ (p 1000).pwr.rstHeld = false ∧ 1000 ≤ (p 1000).feed.a.ok ∧ (p 999).feed.a.ok < 1000 ∧ (p 999).feed.b.ok < 1000) := by
  decide +kernel

/-- Every block from 1 to 8 asked, refusing or not; an enabled wake source active; an entry being reached. -/
theorem wit_FeedsAndPowerEntry_2 :
    let q := fun (n : Nat) => pwrAs (fun p => { p with asked := n }) ((base.setF PWR_STATE_STATE 1).setF PWR_STATE_TARGET 1)
    let ab := pwrAs (fun p => { p with wakeLow := 8 }) (((q 1).setF PWR_WAKE_EN_EN 8).setF PWR_STATE_TARGET 2)
    let g := pwrAs (fun p => { p with power := .stabled, reaching := true }) ((base.setF PWR_STATE_STATE 2).setF PWR_STATE_TARGET 1)
    let d := pwrAs (fun p => { p with power := .stabled, dormLeft := some 1 }) (base.setF PWR_STATE_STATE 3)
    base.alive = true ∧ base.stabled = false ∧ (2 : BitVec 2).toNat = Lane.c.num ∧ (3 : BitVec 2).toNat ≠ Lane.c.num ∧
    (∀ n ∈ [1, 7, 8], (q n).fv PWR_STATE_STATE = 1 ∧ activeSources (q n) ((q n).fv PWR_STATE_TARGET) = 0 ∧ 2 ≤ (q n).voting.length ∧ (q n).pwr.asked = n ∧
      blockRefuses (q n) n = false) ∧
    (blockRefuses ((q 3).setB PAIR_CFG_EN true) 3 = true ∧ activeSources ((q 3).setB PAIR_CFG_EN true) 1 = 0 ∧ 2 ≤ ((q 3).setB PAIR_CFG_EN true).voting.length) ∧
    (ab.fv PWR_STATE_STATE = 1 ∧ activeSources ab (ab.fv PWR_STATE_TARGET) ≠ 0) ∧ base.fv PWR_STATE_STATE ≠ 1 ∧
    (g.pwr.reaching = true ∧ g.fv PWR_STATE_STATE = 2 ∧ g.fv PWR_STATE_TARGET = 1 ∧ g.pwr.heldWake = 0 ∧ activeSources g 1 = 0) ∧
    (d.stabled = true ∧ d.fv PWR_STATE_STATE = 3 ∧ d.pwr.dormLeft ≠ none ∧ activeSources d 1 = 0) := by
  decide +kernel

theorem wit_Wakes :
    let s := pwrAs (fun p => { p with power := .stabled }) (((base.setF PWR_STATE_STATE 3).setF PWR_WAKE_EN_EN 0x3808).setF PWR_WAKE_TIMER_SECONDS 1)
    let s := s.setB (RING_CTRL_WAKE 7) true
    let one := pwrAs (fun p => { p with groups := [[(1, [4])]] }) s
    let two := pwrAs (fun p => { p with groups := [[(2, [4])], [(1, [4])]] }) s
    let dark := pwrAs (fun p => { p with power := .dormant, failed := true, waking := 1 }) base
    (s.stabled = true ∧ s.fv PWR_STATE_STATE = 3 ∧ s.pwr.dead = false ∧ s.pwr.waking = 0 ∧ activeSources s 1 = 0) ∧
    (natBit (s.fv PWR_WAKE_EN_EN) 3 = true ∧ natBit (s.fv PWR_WAKE_CFG_POL) 3 = false) ∧
    (natBit (s.fv PWR_WAKE_EN_EN) (4 + 7) = true ∧ s.fb (RING_CTRL_WAKE 7) = true ∧ s.fb (RING_CTRL_KEEP 7) = false) ∧
    (natBit (s.fv PWR_WAKE_EN_EN) 12 = true ∧ s.fv PWR_WAKE_TIMER_SECONDS ≠ 0 ∧ natBit (s.fv PWR_WAKE_EN_EN) 13 = true) ∧
    (one.stabled = true ∧ one.pwr.groups = [[((1 : BitVec 3).toNat, [4])]]) ∧ (two.pwr.groups = [[((2 : BitVec 3).toNat, [4])], [(1, [4])]] ++ []) ∧
    (one.pwr.groups = [((1 : BitVec 3).toNat, 4 :: [])] :: [] ∧ one.pwr.failed = false) ∧
    (dark.pwr.failed = true ∧ dark.pwr.dead = false ∧ dark.pwr.power = .dormant ∧ dark.pwr.groups = [] ∧ dark.pwr.waking ≠ 0) ∧ base.pwr.power = .run := by
  decide +kernel

theorem wit_Resets :
    let held := pwrAs (fun p => { p with power := .reset, rstHeld := true }) base
    base.pwr.power ≠ .off ∧ State.reset.pwr.power = State.reset.pwr.power ∧ (pwrAs (fun p => { p with power := .off }) base).pwr.power = .off ∧
    (ResetCause.wake ≠ .powerOn ∧ base.alive = true ∧ base.mode ≠ .configHold ∧ (0xB007 : Word) ≠ 0xB008) ∧ base.fb PWR_RESET_IGNORED = false ∧
    (base.setB PWR_RESET_IGNORED true).fb PWR_RESET_IGNORED = true ∧ (held.pwr.rstHeld = true ∧ held.pwr.failHold = false) ∧ base.pwr.rstHeld = false := by
  decide +kernel

/-! ### Security -/

theorem wit_HallmarkAgreement_fail :
    let s := { base with sec := { base.sec with bootStep := 3 } }
    let t := { s with sec := { s.sec with trial := true } }
    base.sec.bootStep ≠ 3 ∧ s.sec.bootStep = 3 ∧ hallmarkFail s s.sec.selected (.all .missing) = (4, 0) ∧ s.sec.trial = false ∧
    t.sec.bootStep = 3 ∧ t.sec.trial = true ∧ hallmarkFail t t.sec.selected (.all .missing) = (4, 0) := by decide +kernel

theorem wit_Tokens_submit :
    let s := { base with sec := { base.sec with tokenBuf := [(4, 9)] } }
    let b := { s with sec := { s.sec with token := some ([], []) } }
    s.pwr.power = .run ∧ (Store.get byteZero s.sec.tokenBuf 4).toNat = 9 ∧ s.sec.token = none ∧
    (b.pwr.power = .run ∧ (Store.get byteZero b.sec.tokenBuf 4).toNat = 9 ∧ b.sec.token ≠ none) ∧ tokenResult b [] [] ≠ 0 := by decide +kernel

/-- The last whole 4 KiB of the bank, and an offset beside them; the last sector. -/
theorem wit_Banks :
    let v := base.setB SEC_BANK_VER_OK true
    let p := { base with sec := { base.sec with norBusy := some (2, 268431360) } }
    let e := { base with sec := { base.sec with norBusy := some (1, 262144 * 1023) } }
    base.pwr.power = .run ∧ base.fb SEC_BANK_VER_BUSY = false ∧ (base.setB SEC_BANK_VER_BUSY true).fb SEC_BANK_VER_BUSY = true ∧
    (v.fb SEC_BANK_VER_OK = true ∧ serviceAllows v = true ∧ v.mode = .active ∧ paired v = false) ∧ base.fb SEC_BANK_VER_OK = false ∧
    (serviceAllows base = true ∧ base.sec.norBusy = none) ∧ ((268431360 : BitVec 28).toNat % 4096 = 0 ∧ (268431361 : BitVec 28).toNat % 4096 ≠ 0) ∧
    p.sec.norBusy = some (2, 268431360) ∧ (e.sec.norBusy = some (1, 262144 * 1023) ∧ Store.wf norDefault e.sec.nor = true) := by
  decide +kernel

theorem wit_KeysAndAttestation :
    let s := { base with mode := .service, sec := { base.sec with lcBits := 3, enters := 1 } }
    let a := fun (n r : Nat) => ({ base.setB SEC_ATTEST_STAT_BUSY true with sec := { base.sec with attNext := n, attReserved := r } } : State)
    (s.pwr.power = .run ∧ keyEntry s = true ∧ slotNamed (0x27F : BitVec 10).toNat = true ∧ slotNamed (0x280 : BitVec 10).toNat = false ∧ (127 : BitVec 7) ≠ 0) ∧
    keyEntry base = false ∧
    ((a 1048575 1048575).sec.attNext < attLimit ∧ (a 1048575 1048575).fb SEC_ATTEST_STAT_BUSY = true ∧ (a 1048575 1048575).sec.attNext = (a 1048575 1048575).sec.attReserved ∧
      (a 5 64).sec.attNext < (a 5 64).sec.attReserved) ∧
    (s.mode = .service ∧ lcState s = 4 ∧ s.fb SEC_STATUS_SERVICE_EN = false) ∧ base.mode ≠ .service ∧
    (base.setB SEC_STATUS_SERVICE_EN true).fb SEC_STATUS_SERVICE_EN = true := by decide +kernel

/-! ### Assay, check values, recorder -/

/-- A due slice of each unit at its tick; a deferred one; a unit whose rotation does not run. -/
theorem wit_Assay_start :
    let s := fun (t : Nat) => ({ base with time := { base.time with tick := t } } : State)
    (∀ p ∈ [(AssayUnit.sram .a, 18), (.logic .b, 19), (.ix .c, 18), (.fx, 18)], unitRuns (s p.2) p.1 = true ∧ ((s p.2).asy p.1).running = none ∧
      assayTick p.1 (assayNext (s p.2) p.1) (s p.2).time.tick = true ∧ assayDue (s p.2) p.1 = true ∧ deferred (s p.2) p.1 = false ∧
      deferred (pwrAs (fun p => { p with asked := 7 }) (s p.2)) p.1 = true ∧ unitRuns (pwrAs (fun p => { p with asked := 7 }) (s p.2)) p.1 = true ∧
      assayNext (s p.2) p.1 < 384) ∧
    unitRuns (base.setB AST_MAN_STAT_BUSY true) .fx = false ∧ (((base.setB AST_MAN_STAT_BUSY true).updAsy .fx fun x => { x with running := some 0 }).asy .fx).running ≠ none ∧
    unitRuns ((base.setB AST_MAN_STAT_BUSY true).updAsy .fx fun x => { x with running := some 0 }) .fx = false := by decide +kernel

/-- What the ROM holds passes, whatever it holds; another pattern count fails. -/
theorem wit_Assay_pass (u : AssayUnit) (i : Nat) :
    slicePass u i ⟨if assayTarget u i = 6 then 0 else Config.romSignature (assayTarget u i) (assayItem u i), Config.romPatterns (assayTarget u i) (assayItem u i), 9, false⟩ = true ∧
    ∀ w, slicePass u i ⟨w, Config.romPatterns (assayTarget u i) (assayItem u i) + 1, 9, false⟩ = false := by
  simp [slicePass]

theorem wit_Assay_end : ∀ u ∈ [AssayUnit.sram .a, .logic .a, .ix .a, .fx],
    ((base.updAsy u fun x => { x with running := some 383 }).asy u).running = some 383 ∧ (base.asy u).running = none ∧ (base.lane .a).st = .voting ∧ base.alive = true := by
  decide +kernel

theorem wit_Assay_manual :
    let s := { base with mode := .service, sec := { base.sec with lcBits := 3, enters := 1 } }
    base.pwr.power = .run ∧ manOk s = true ∧ s.fb AST_MAN_STAT_BUSY = false ∧ manOk base = false ∧ base.fb AST_MAN_STAT_BUSY = false ∧
    (s.setB AST_MAN_STAT_BUSY true).fb AST_MAN_STAT_BUSY = true := by decide +kernel

/-- Unit 3 of the management engine idle, scanning 5 bytes, and lane A's; a range inside and one beyond descriptor 15; length 0. -/
theorem wit_CheckValueUnits :
    let s := region .mgmt 15 0 0xFFFF8 (base.setF (CVU_LEN_LENGTH .mgmt 3) 5)
    let w : Word := 0x00F00003
    let far := s.setF (CVU_START_START .mgmt 3) 0xFFFFE
    let r := s.setB (CVU_CTRL_RUN .mgmt 3) true
    let a := (base.setB (CVU_CTRL_RUN (.lane .a) 0) true)
    (cvuOn s .mgmt = true ∧ s.fb (CVU_CTRL_RUN .mgmt 3) = false ∧ w.getLsbD 30 = false ∧ w.getLsbD 31 = false ∧ w.getLsbD 29 = false ∧
      s.fv (CVU_LEN_LENGTH .mgmt 3) ≠ 0 ∧ scanRangeOk (ctrlSet s .mgmt 3 w) .mgmt 3 = true) ∧
    (cvuOn far .mgmt = true ∧ scanRangeOk (ctrlSet far .mgmt 3 w) .mgmt 3 = false ∧ far.fv (CVU_LEN_LENGTH .mgmt 3) ≠ 0) ∧
    (cvuOn r .mgmt = true ∧ r.fb (CVU_CTRL_RUN .mgmt 3) = true ∧ 4 < r.fv (CVU_LEN_LENGTH .mgmt 3) ∧ r.fv (CVU_LEN_LENGTH .mgmt 3) ≤ 5) ∧
    (cvuOn a (.lane .a) = true ∧ a.fb (CVU_CTRL_RUN (.lane .a) 0) = true ∧ (a.lane .a).st = .voting) := by decide +kernel

theorem wit_EmptyScan : cvuOn base .mgmt = true ∧ base.fb (CVU_CTRL_RUN .mgmt 3) = false ∧ base.fv (CVU_LEN_LENGTH .mgmt 3) = 0 ∧
    (0x80000000 : Word).getLsbD 30 = false ∧ (0x80000000 : Word).getLsbD 29 = false ∧ cvuOn base (.lane .c) = true ∧
    base.fb (CVU_CTRL_RUN (.lane .c) 3) = false ∧ base.fv (CVU_LEN_LENGTH (.lane .c) 3) = 0 := by decide +kernel

/-- The check values of R383 over 123456789. -/
theorem test_crc_check_values : crc32c [0x31, 0x32, 0x33, 0x34, 0x35, 0x36, 0x37, 0x38, 0x39] = 0xE3069283 ∧
    crc32 [0x31, 0x32, 0x33, 0x34, 0x35, 0x36, 0x37, 0x38, 0x39] = 0xCBF43926 := by decide +kernel

def ev0 : Event := ⟨2, 1, 0, [1, 2], 70000000, false⟩

theorem wit_EventRecorder :
    let s := { base with recorder := { base.recorder with queue := [ev0], nextSeq := 65535 } }
    let r := { (base.setF REC_NEWEST_LO_NEWEST_LO 9).setF REC_RD_SEQ_LO_SEQ_LO 7 with recorder := { base.recorder with readBusy := true, erasing := true } }
    let v := { r with recorder := { r.recorder with store := [(7, recordImage 7 ev0)] } }
    let n := r.setF REC_RD_SEQ_LO_SEQ_LO 10
    (s.recorder.queue = [ev0] ∧ s.recorder.lost = none ∧ s.recorder.nextSeq < 2 ^ 48 ∧ lapDue s = false) ∧ base.recorder.queue = [] ∧ serviceAllows base = true ∧
    (n.recorder.readBusy = true ∧ seqHeld n (readSeq n) = false) ∧
    (v.recorder.readBusy = true ∧ seqHeld v (readSeq v) = true ∧ slotValid v (slotOfSeq v (readSeq v)) = true ∧ seqOf (recSlot v (slotOfSeq v (readSeq v))) = readSeq v) ∧
    (r.recorder.readBusy = true ∧ seqHeld r (readSeq r) = true ∧ slotValid r (slotOfSeq r (readSeq r)) = false) ∧
    (v.recorder.erasing = true ∧ slotValid v 7 = true ∧ slotValid v 8 = false) := by decide +kernel

/-- k = 2,097,152, the first lap. -/
theorem wit_RecorderLap :
    let s := { base with recorder := { base.recorder with queue := [ev0], nextSeq := 2097152 } }
    s.alive = true ∧ s.recorder.queue = [ev0] ∧ s.recorder.lost = none ∧ s.recorder.nextSeq + 1 < 2 ^ 48 ∧ s.fv REC_LAP_LAP + 1 < 2 ^ 32 ∧
    slotOfSeq s s.recorder.nextSeq = 65536 ∧ 2097152 ≤ s.recorder.nextSeq - recClr s := by decide +kernel

/-! ### The queue and the canonical form -/

theorem wit_StepKeepsMemsWf : (∀ l, Store.wf memDefault (base.lane l).mem = true) ∧ Store.wf memDefault base.mmem = true ∧ Store.wf norDefault base.sec.nor = true ∧
    step base = .next base := by
  refine ⟨forall_lane ?_ ?_ ?_, ?_, ?_, rfl⟩ <;> decide +kernel

theorem wit_StepKeepsQueue : ∃ t, step (base.withQueue [.laneMbxUpPop .a, .recEraseDone]) = .next t := ⟨_, rfl⟩

/-- No row of the table gives bits: no word spells a command. -/
theorem test_withFetchWord : State.reset.withFetchWord 8 0 = State.reset := rfl

/-! ### Tokens that are accepted: a signature made by walking the chains with zero secrets -/

def zeros32 : List Byte := List.replicate 32 0

theorem cut_left (a b : List Byte) (o n : Nat) (h : o + n ≤ a.length) : cutBytes (a ++ b) o n = cutBytes a o n := by
  unfold cutBytes
  rw [List.drop_append_of_le_length (by omega), List.take_append_of_le_length (by simp; omega)]

theorem cut_right (a b : List Byte) (k o n : Nat) (h : k = a.length + o) : cutBytes (a ++ b) k n = cutBytes b o n := by
  unfold cutBytes
  rw [h, List.drop_append, List.drop_eq_nil_of_le (by omega)]
  simp

theorem cut_all (a : List Byte) (n : Nat) (h : a.length = n) : cutBytes a 0 n = a := by
  subst h
  simp [cutBytes]

theorem cut_block (w : Nat) (xs : List (List Byte)) (h : ∀ x ∈ xs, x.length = w) (i : Nat) (hi : i < xs.length) :
    cutBytes xs.flatten (w * i) w = xs[i] := by
  induction xs generalizing i with
  | nil => simp at hi
  | cons x r ih =>
    have hx := h x (List.mem_cons_self ..)
    rw [List.flatten_cons]
    cases i with
    | zero => rw [Nat.mul_zero, cut_left _ _ _ _ (by omega), cut_all _ _ hx]; rfl
    | succ i =>
      rw [cut_right x r.flatten _ (w * i) w (by rw [Nat.mul_succ]; omega)]
      exact ih (fun y hy => h y (List.mem_cons_of_mem _ hy)) i (by simpa using hi)

theorem bytesAt_cut (b : List Byte) (o n : Nat) (h : o + n ≤ b.length) : bytesAt b o n = ofBytes (cutBytes b o n) := by
  unfold bytesAt cutBytes
  congr 1
  refine List.ext_getElem (by simp; omega) fun i h1 h2 => ?_
  simp only [List.length_map, List.length_range] at h1
  simp only [List.getElem_map, List.getElem_range, List.getElem_take, List.getElem_drop, List.getD_eq_getElem?_getD]
  rw [List.getElem?_eq_getElem (by omega)]
  rfl

theorem flatten_length (w : Nat) (xs : List (List Byte)) (h : ∀ x ∈ xs, x.length = w) : xs.flatten.length = w * xs.length := by
  induction xs with
  | nil => rfl
  | cons x r ih =>
    rw [List.flatten_cons, List.length_append, h x (List.mem_cons_self ..), ih fun y hy => h y (List.mem_cons_of_mem _ hy), List.length_cons, Nat.mul_succ]
    omega

theorem otsChain_length (tag : List Byte) (i n j : Nat) (x : List Byte) (hx : x.length = 32) : (otsChain tag i n j x).length = 32 := by
  induction n generalizing j x with
  | zero => exact hx
  | succ n ih => exact ih _ _ (sha256_length _)

theorem otsChain_add (tag : List Byte) (i a b j : Nat) (x : List Byte) :
    otsChain tag i b (j + a) (otsChain tag i a j x) = otsChain tag i (a + b) j x := by
  induction a generalizing j x with
  | zero => simp [otsChain]
  | succ a ih =>
    rw [show a + 1 + b = (a + b) + 1 by omega, otsChain, otsChain, ← ih, show j + (a + 1) = j + 1 + a by omega]

/-- A coefficient is a byte. -/
theorem otsCoefs_le (tag c msg : List Byte) (i : Nat) : (otsCoefs tag c msg).getD i 0 ≤ 255 := by
  have h : ∀ x ∈ otsCoefs tag c msg, x ≤ 255 := by
    intro x hx
    rw [otsCoefs, List.mem_append] at hx
    rcases hx with hx | hx <;> obtain ⟨y, -, rfl⟩ := List.mem_map.1 hx <;> exact Nat.le_of_lt_succ y.isLt
  rw [List.getD_eq_getElem?_getD]
  rcases hg : (otsCoefs tag c msg)[i]? with _ | y
  · simp
  · exact h y (List.mem_of_getElem? hg)

/-- The values of a one-time signature whose secrets are zero. -/
def otsValues (tag msg : List Byte) : List (List Byte) :=
  (List.range 34).map fun i => otsChain tag i ((otsCoefs tag zeros32 msg).getD i 0) 0 zeros32

def otsSign (tag msg : List Byte) : List Byte := beBytes 4 4 ++ zeros32 ++ (otsValues tag msg).flatten

/-- The one-time public key of those secrets. -/
def otsKey (tag : List Byte) : List Byte := otsPublic tag ((List.range 34).map fun i => otsChain tag i 255 0 zeros32)

theorem otsValues_length (tag msg : List Byte) : ∀ x ∈ otsValues tag msg, x.length = 32 := by
  intro x hx
  obtain ⟨i, -, rfl⟩ := List.mem_map.1 hx
  exact otsChain_length _ _ _ _ _ rfl

theorem zeros32_length : zeros32.length = 32 := rfl

theorem otsSign_length (tag msg : List Byte) : (otsSign tag msg).length = 1124 := by
  rw [otsSign, List.length_append, List.length_append, flatten_length 32 _ (otsValues_length tag msg), beBytes_length, zeros32_length,
    otsValues, List.length_map, List.length_range]

theorem otsCandidate_sign (tag msg : List Byte) : otsCandidate tag (otsSign tag msg) msg = otsKey tag := by
  have hc : cutBytes (otsSign tag msg) 4 32 = zeros32 := by
    rw [otsSign, List.append_assoc, cut_right _ _ 4 0 32 (by rw [beBytes_length]), cut_left _ _ _ _ (by rw [zeros32_length]), cut_all _ _ zeros32_length]
  unfold otsCandidate otsKey
  simp only [hc]
  congr 1
  refine List.map_congr_left fun i hi => ?_
  have hi := List.mem_range.1 hi
  have hl : i < (otsValues tag msg).length := by rw [otsValues, List.length_map, List.length_range]; exact hi
  have hv : cutBytes (otsSign tag msg) (36 + 32 * i) 32 = otsChain tag i ((otsCoefs tag zeros32 msg).getD i 0) 0 zeros32 := by
    rw [otsSign, cut_right _ _ _ (32 * i) 32 (by rw [List.length_append, beBytes_length, zeros32_length]), cut_block 32 _ (otsValues_length tag msg) i hl]
    simp only [otsValues, List.getElem_map, List.getElem_range]
  have hle := otsCoefs_le tag zeros32 msg i
  rw [hv, show otsChain tag i (255 - (otsCoefs tag zeros32 msg).getD i 0) ((otsCoefs tag zeros32 msg).getD i 0) =
      otsChain tag i (255 - (otsCoefs tag zeros32 msg).getD i 0) (0 + (otsCoefs tag zeros32 msg).getD i 0) by rw [Nat.zero_add], otsChain_add]
  congr 1
  omega

/-- Leaf 0 of a tree whose other nodes on the path are zero. -/
def lmsSign (h : Nat) (id msg : List Byte) : List Byte :=
  beBytes 4 0 ++ otsSign (hssTag id 0) msg ++ beBytes 4 (lmsType h) ++ (List.replicate h zeros32).flatten

def lmsPub (h : Nat) (id : List Byte) : List Byte :=
  beBytes 4 (lmsType h) ++ beBytes 4 4 ++ id ++ lmsRoot id h 0 (otsKey (hssTag id 0)) (List.replicate h zeros32)

theorem lmsClimb_length (id : List Byte) (ys : List (List Byte)) (k : Nat) (x : List Byte) (hx : x.length = 32) :
    (lmsClimb id ys k x).length = 32 := by
  induction ys generalizing k x with
  | nil => exact hx
  | cons y ys ih => exact ih _ _ (sha256_length _)

theorem lmsRoot_length (id : List Byte) (h q : Nat) (leaf : List Byte) (p : List (List Byte)) : (lmsRoot id h q leaf p).length = 32 :=
  lmsClimb_length _ _ _ _ (sha256_length _)

theorem lmsPub_length (h : Nat) (id : List Byte) (hi : id.length = 16) : (lmsPub h id).length = 56 := by
  simp only [lmsPub, List.length_append, beBytes_length, lmsRoot_length, hi]

theorem path_length (h : Nat) : (List.replicate h zeros32).flatten.length = 32 * h := by
  rw [flatten_length 32 _ fun x hx => by rw [List.eq_of_mem_replicate hx, zeros32_length], List.length_replicate]

theorem lmsSign_length (h : Nat) (id msg : List Byte) : (lmsSign h id msg).length = lmsLen h := by
  simp only [lmsSign, List.length_append, beBytes_length, otsSign_length, path_length, lmsLen, otsLen]

theorem ofBytes_code : ofBytes (beBytes 4 0) = 0 ∧ ofBytes (beBytes 4 1) = 1 ∧ ofBytes (beBytes 4 2) = 2 ∧ ofBytes (beBytes 4 4) = 4 ∧
    ofBytes (beBytes 4 (lmsType 10)) = lmsType 10 ∧ ofBytes (beBytes 4 (lmsType 15)) = lmsType 15 := by decide +kernel

theorem lmsVerify_sign (h : Nat) (id msg : List Byte) (hi : id.length = 16) (hh : ofBytes (beBytes 4 (lmsType h)) = lmsType h) :
    lmsVerify h (lmsPub h id) msg (lmsSign h id msg) = true := by
  have lb := beBytes_length 4
  have lp := lmsPub_length h id hi
  have ls : (lmsSign h id msg).length = 1132 + 32 * h := by rw [lmsSign_length, lmsLen, otsLen]
  have p1 : bytesAt (lmsPub h id) 0 4 = lmsType h := by
    rw [bytesAt_cut _ _ _ (by omega), lmsPub, List.append_assoc, List.append_assoc, cut_left _ _ _ _ (by rw [lb]), cut_all _ _ (lb _), hh]
  have p2 : bytesAt (lmsPub h id) 4 4 = 4 := by
    rw [bytesAt_cut _ _ _ (by omega), lmsPub, List.append_assoc, List.append_assoc, cut_right _ _ 4 0 4 (by rw [lb]), cut_left _ _ _ _ (by rw [lb]),
      cut_all _ _ (lb _)]
    exact ofBytes_code.2.2.2.1
  have p3 : cutBytes (lmsPub h id) 8 16 = id := by
    rw [lmsPub, List.append_assoc, cut_right _ _ 8 0 16 (by rw [List.length_append, lb, lb]), cut_left _ _ _ _ (by omega), cut_all _ _ hi]
  have p4 : cutBytes (lmsPub h id) 24 32 = lmsRoot id h 0 (otsKey (hssTag id 0)) (List.replicate h zeros32) := by
    rw [lmsPub, cut_right _ _ 24 0 32 (by rw [List.length_append, List.length_append, lb, lb, hi]), cut_all _ _ (lmsRoot_length ..)]
  have q1 : bytesAt (lmsSign h id msg) 0 4 = 0 := by
    rw [bytesAt_cut _ _ _ (by omega), lmsSign, List.append_assoc, List.append_assoc, cut_left _ _ _ _ (by rw [lb]), cut_all _ _ (lb _)]
    exact ofBytes_code.1
  have q2 : cutBytes (lmsSign h id msg) 4 1124 = otsSign (hssTag id 0) msg := by
    rw [lmsSign, List.append_assoc, List.append_assoc, cut_right _ _ 4 0 1124 (by rw [lb]), cut_left _ _ _ _ (by rw [otsSign_length]),
      cut_all _ _ (otsSign_length ..)]
  have q3 : bytesAt (lmsSign h id msg) 4 4 = 4 := by
    rw [bytesAt_cut _ _ _ (by omega), lmsSign, List.append_assoc, List.append_assoc, cut_right _ _ 4 0 4 (by rw [lb]),
      cut_left _ _ _ _ (by rw [otsSign_length]; omega), otsSign, List.append_assoc, cut_left _ _ _ _ (by rw [lb]), cut_all _ _ (lb _)]
    exact ofBytes_code.2.2.2.1
  have q4 : bytesAt (lmsSign h id msg) 1128 4 = lmsType h := by
    rw [bytesAt_cut _ _ _ (by omega), lmsSign, List.append_assoc, cut_right _ _ 1128 0 4 (by rw [List.length_append, lb, otsSign_length]),
      cut_left _ _ _ _ (by rw [lb]), cut_all _ _ (lb _), hh]
  have q5 : ((List.range h).map fun i => cutBytes (lmsSign h id msg) (1132 + 32 * i) 32) = List.replicate h zeros32 := by
    refine List.ext_getElem (by simp) fun i h1 h2 => ?_
    rw [List.length_replicate] at h2
    rw [List.getElem_map, List.getElem_range, List.getElem_replicate, lmsSign,
      cut_right _ _ _ (32 * i) 32 (by simp only [List.length_append, lb, otsSign_length]),
      cut_block 32 _ (fun x hx => by rw [List.eq_of_mem_replicate hx, zeros32_length]) i (by rw [List.length_replicate]; exact h2), List.getElem_replicate]
  unfold lmsVerify
  rw [show 4 + otsLen = 1128 from rfl, show 8 + otsLen = 1132 from rfl, show otsLen = 1124 from rfl, show otsType = 4 from rfl]
  simp only [p1, p2, p3, p4, q1, q2, q3, q4, q5, otsCandidate_sign]
  simp

/-- The two trees' identifiers. -/
def id0 : List Byte := List.replicate 16 7
def id1 : List Byte := List.replicate 16 9

def hssKey : List Byte := beBytes 4 2 ++ lmsPub 10 id0

def hssSign (msg : List Byte) : List Byte := beBytes 4 1 ++ lmsSign 10 id0 (lmsPub 15 id1) ++ lmsPub 15 id1 ++ lmsSign 15 id1 msg

theorem hssSign_length (msg : List Byte) : (hssSign msg).length = 3124 := by
  simp only [hssSign, List.length_append, beBytes_length, lmsSign_length, lmsPub_length 15 id1 rfl]
  rfl

theorem hssKey_length : hssKey.length = 60 := by rw [hssKey, List.length_append, beBytes_length, lmsPub_length 10 id0 rfl]

theorem hssVerify_sign (msg : List Byte) : hssVerify hssKey msg (hssSign msg) = true := by
  have lb := beBytes_length 4
  have l10 := lmsSign_length 10 id0 (lmsPub 15 id1)
  have l15 := lmsSign_length 15 id1 msg
  have lp := lmsPub_length 15 id1 rfl
  have a1 : cutBytes (hssSign msg) 4 (lmsLen 10) = lmsSign 10 id0 (lmsPub 15 id1) := by
    rw [hssSign, List.append_assoc, List.append_assoc, cut_right _ _ 4 0 _ (by rw [lb]), cut_left _ _ _ _ (by rw [l10]; omega), cut_all _ _ l10]
  have a2 : cutBytes (hssSign msg) (4 + lmsLen 10) 56 = lmsPub 15 id1 := by
    rw [hssSign, List.append_assoc, cut_right _ _ _ 0 _ (by rw [List.length_append, lb, l10, Nat.add_zero]), cut_left _ _ _ _ (by rw [lp]), cut_all _ _ lp]
  have a3 : cutBytes (hssSign msg) (60 + lmsLen 10) (lmsLen 15) = lmsSign 15 id1 msg := by
    rw [hssSign, cut_right _ _ _ 0 _ (by rw [List.length_append, List.length_append, lb, l10, lp]; omega), cut_all _ _ l15]
  have b1 : bytesAt hssKey 0 4 = 2 := by
    rw [bytesAt_cut _ _ _ (by rw [hssKey_length]; omega), hssKey, cut_left _ _ _ _ (by rw [lb]), cut_all _ _ (lb _)]
    exact ofBytes_code.2.2.1
  have b2 : cutBytes hssKey 4 56 = lmsPub 10 id0 := by
    rw [hssKey, cut_right _ _ 4 0 _ (by rw [lb]), cut_all _ _ (lmsPub_length 10 id0 rfl)]
  have b3 : bytesAt (hssSign msg) 0 4 = 1 := by
    rw [bytesAt_cut _ _ _ (by rw [hssSign_length]; omega), hssSign, List.append_assoc, List.append_assoc, cut_left _ _ _ _ (by rw [lb]), cut_all _ _ (lb _)]
    exact ofBytes_code.2.1
  unfold hssVerify
  simp only [a1, a2, a3, b1, b2, b3, hssKey_length, hssSign_length, lmsVerify_sign 10 id0 _ rfl ofBytes_code.2.2.2.2.1,
    lmsVerify_sign 15 id1 _ rfl ofBytes_code.2.2.2.2.2]
  simp

/-- The first 96 bytes of a token: type, root slot, the module's id, a nonce of zeros, the first parameter. -/
def tokA (ty slot : Byte) : List Byte := [0x54, 0x4B, 0x4E, 0x31, ty, slot, 0, 0]

def tokB (ps : Byte) : List Byte := (List.replicate 18 0 ++ [ps]) ++ List.replicate 63 0

def tokHead (ty slot ps : Byte) : List Byte := tokA ty slot ++ beBytes 6 Config.uniqueId.toNat ++ tokB ps

theorem tokB_length (ps : Byte) : (tokB ps).length = 82 := by
  simp only [tokB, List.length_append, List.length_replicate]
  rfl

theorem tokA_fields (ty slot : Byte) : bytesAt (tokA ty slot) 0 4 = 0x544B4E31 ∧ bytesAt (tokA ty slot) 4 1 = ty.toNat ∧
    bytesAt (tokA ty slot) 5 1 = slot.toNat ∧ bytesAt (tokA ty slot) 6 2 = 0 := by
  simp [tokA, bytesAt, ofBytes, List.range_succ]

theorem ofBytes_zeros (n : Nat) : ofBytes (List.replicate n 0) = 0 := by
  induction n with
  | zero => rfl
  | succ n ih =>
    rw [List.replicate_succ]
    exact ih

theorem cut_zeros (m o n : Nat) (h : o + n ≤ m) : cutBytes (List.replicate m 0) o n = List.replicate n 0 := by
  rw [cutBytes, List.drop_replicate, List.take_replicate]
  congr 1
  omega

theorem tokB_zeros (ps : Byte) (o n : Nat) (h1 : 19 ≤ o) (h2 : o + n ≤ 82) : bytesAt (tokB ps) o n = 0 := by
  rw [bytesAt_cut _ _ _ (by rw [tokB_length]; exact h2), tokB,
    cut_right _ _ _ (o - 19) n (by rw [List.length_append, List.length_replicate, List.length_singleton]; omega), cut_zeros _ _ _ (by omega), ofBytes_zeros]

theorem tokB_fields (ps : Byte) : bytesAt (tokB ps) 0 2 = 0 ∧ bytesAt (tokB ps) 18 1 = ps.toNat := by
  constructor
  · rw [bytesAt_cut _ _ _ (by rw [tokB_length]; omega), tokB, cut_left _ _ _ _ (by simp), cut_left _ _ _ _ (by simp), cut_zeros _ _ _ (by omega), ofBytes_zeros]
  · rw [bytesAt_cut _ _ _ (by rw [tokB_length]; omega), tokB, cut_left _ _ _ _ (by simp), cut_right _ _ 18 0 1 (by simp), cut_all [ps] 1 rfl]
    simp [ofBytes]

def tokMsg (ty slot ps : Byte) : List Byte := tokHead ty slot ps ++ hssKey

def tok (ty slot ps : Byte) : List Byte := tokMsg ty slot ps ++ hssSign (tokMsg ty slot ps)

theorem tokHead_length (ty slot ps : Byte) : (tokHead ty slot ps).length = 96 := by
  rw [tokHead, List.length_append, List.length_append, beBytes_length, tokB_length]
  rfl

theorem tokMsg_length (ty slot ps : Byte) : (tokMsg ty slot ps).length = 156 := by
  rw [tokMsg, List.length_append, tokHead_length, hssKey_length]

theorem tok_at (ty slot ps : Byte) (o n : Nat) (h : o + n ≤ 96) : bytesAt (tok ty slot ps) o n = bytesAt (tokHead ty slot ps) o n := by
  rw [tok, tokMsg, List.append_assoc, bytesAt_append _ _ _ _ (by rw [tokHead_length]; exact h)]

theorem foldl_beBytes (n v a : Nat) : (beBytes n v).foldl (fun a b => a * 256 + b.toNat) a = a * 256 ^ n + v % 256 ^ n := by
  induction n generalizing a with
  | zero => simp [beBytes, Nat.mod_one]
  | succ n ih =>
    have e : v % (256 ^ n * 256) = v % 256 ^ n + 256 ^ n * (v / 256 ^ n % 256) := Nat.mod_mul
    rw [beBytes, List.foldl_cons, ih, BitVec.toNat_ofNat, show 2 ^ 8 = 256 from rfl, Nat.pow_succ, e]
    ring

theorem ofBytes_uid : ofBytes (beBytes 6 Config.uniqueId.toNat) = Config.uniqueId.toNat := by
  rw [ofBytes, foldl_beBytes, Nat.zero_mul, Nat.zero_add]
  exact Nat.mod_eq_of_lt Config.uniqueId.isLt

/-- The fields of the head, the id apart. -/
theorem tokHead_fields (ty slot ps : Byte) : let b := tokHead ty slot ps
    bytesAt b 0 4 = 0x544B4E31 ∧ bytesAt b 4 1 = ty.toNat ∧ bytesAt b 5 1 = slot.toNat ∧ bytesAt b 6 2 = 0 ∧ bytesAt b 14 2 = 0 ∧
    bytesAt b 32 1 = ps.toNat ∧ bytesAt b 33 31 = 0 ∧ bytesAt b 33 6 = 0 ∧ bytesAt b 39 6 = 0 ∧ bytesAt b 45 19 = 0 ∧ bytesAt b 64 32 = 0 := by
  obtain ⟨a1, a2, a3, a4⟩ := tokA_fields ty slot
  obtain ⟨b1, b2⟩ := tokB_fields ps
  have h (o n : Nat) (ho : o + n ≤ 8) : bytesAt (tokHead ty slot ps) o n = bytesAt (tokA ty slot) o n := by
    rw [tokHead, List.append_assoc, bytesAt_append _ _ _ _ ho]
  have g (o n : Nat) (ho : o + n ≤ 82) : bytesAt (tokHead ty slot ps) (14 + o) n = bytesAt (tokB ps) o n := by
    rw [bytesAt_cut _ _ _ (by rw [tokHead_length]; omega), bytesAt_cut _ _ _ (by rw [tokB_length]; omega), tokHead,
      cut_right _ _ (14 + o) o n (by rw [List.length_append, beBytes_length]; rfl)]
  have z (o n : Nat) (h1 : 19 ≤ o) (h2 : o + n ≤ 82) : bytesAt (tokHead ty slot ps) (14 + o) n = 0 := by rw [g o n h2, tokB_zeros ps o n h1 h2]
  exact ⟨(h 0 4 (by omega)).trans a1, (h 4 1 (by omega)).trans a2, (h 5 1 (by omega)).trans a3, (h 6 2 (by omega)).trans a4, (g 0 2 (by omega)).trans b1,
    (g 18 1 (by omega)).trans b2, z 19 31 (by omega) (by omega), z 19 6 (by omega) (by omega), z 25 6 (by omega) (by omega), z 31 19 (by omega) (by omega),
    z 50 32 (by omega) (by omega)⟩

theorem tok_fields (ty slot ps : Byte) : let b := tok ty slot ps
    bytesAt b 0 4 = 0x544B4E31 ∧ bytesAt b 4 1 = ty.toNat ∧ bytesAt b 5 1 = slot.toNat ∧ bytesAt b 6 2 = 0 ∧ bytesAt b 14 2 = 0 ∧
    bytesAt b 32 1 = ps.toNat ∧ bytesAt b 33 31 = 0 ∧ bytesAt b 33 6 = 0 ∧ bytesAt b 39 6 = 0 ∧ bytesAt b 45 19 = 0 ∧ bytesAt b 64 32 = 0 := by
  obtain ⟨h1, h2, h3, h4, h5, h6, h7, h8, h9, h10, h11⟩ := tokHead_fields ty slot ps
  have a := tok_at ty slot ps
  exact ⟨(a 0 4 (by omega)).trans h1, (a 4 1 (by omega)).trans h2, (a 5 1 (by omega)).trans h3, (a 6 2 (by omega)).trans h4, (a 14 2 (by omega)).trans h5,
    (a 32 1 (by omega)).trans h6, (a 33 31 (by omega)).trans h7, (a 33 6 (by omega)).trans h8, (a 39 6 (by omega)).trans h9, (a 45 19 (by omega)).trans h10,
    (a 64 32 (by omega)).trans h11⟩

theorem tok_id (ty slot ps : Byte) : bytesAt (tok ty slot ps) 8 6 = Config.uniqueId.toNat := by
  rw [tok_at _ _ _ _ _ (by omega), bytesAt_cut _ _ _ (by rw [tokHead_length]; omega), tokHead, List.append_assoc, cut_right _ _ 8 0 6 rfl,
    cut_left _ _ _ _ (by rw [beBytes_length]), cut_all _ _ (beBytes_length ..), ofBytes_uid]

theorem tok_nonce (ty slot ps : Byte) : ((tok ty slot ps).drop 16).take 16 = List.replicate 16 0 := by
  change cutBytes (tok ty slot ps) 16 16 = _
  rw [tok, tokMsg, List.append_assoc, cut_left _ _ _ _ (by rw [tokHead_length]; omega), tokHead,
    cut_right _ _ 16 2 16 (by rw [List.length_append, beBytes_length]; rfl), tokB, List.append_assoc, cut_left _ _ _ _ (by simp), cut_zeros _ _ _ (by omega)]

/-- A signed token of a good format is accepted where the state allows its type. -/
theorem tok_accepted (s : State) (ty slot ps : Byte) (hf : tokenFormat (tok ty slot ps) = true) (hr : rootHash s slot.toNat = some (sha256Num hssKey))
    (ha : slotForToken (lcState s) ty.toNat slot.toNat = true) (hn : slot.toNat ∉ s.sec.revoked) (hs : tokenState s (tok ty slot ps) = true) :
    tokenResult s (tok ty slot ps) (List.replicate 16 0) = 0 ∧ tokenTypeOf (tok ty slot ps) = ty.toNat := by
  have f := tok_fields ty slot ps
  have k1 : ((tok ty slot ps).drop 96).take 60 = hssKey := by
    change cutBytes (tok ty slot ps) 96 60 = _
    rw [tok, tokMsg, List.append_assoc, cut_right _ _ 96 0 60 (by rw [tokHead_length]), cut_left _ _ _ _ (by rw [hssKey_length]), cut_all _ _ hssKey_length]
  have k2 : (tok ty slot ps).take 156 = tokMsg ty slot ps := by
    change cutBytes (tok ty slot ps) 0 156 = _
    rw [tok, cut_left _ _ _ _ (by rw [tokMsg_length]), cut_all _ _ (tokMsg_length ..)]
  have k3 : ((tok ty slot ps).drop 156).take 3124 = hssSign (tokMsg ty slot ps) := by
    change cutBytes (tok ty slot ps) 156 3124 = _
    rw [tok, cut_right _ _ 156 0 3124 (by rw [tokMsg_length]), cut_all _ _ (hssSign_length _)]
  have ht : tokenTypeOf (tok ty slot ps) = ty.toNat := f.2.1
  refine ⟨?_, ht⟩
  simp [tokenResult, hf, tok_id, tok_nonce, signedUnder, f.2.2.1, hr, ht, ha, hn, k1, k2, k3, hssVerify_sign, hs]

theorem tok_format (ty slot ps : Byte) (h1 : 1 ≤ ty.toNat) (h9 : ty.toNat ≤ 9) (hp : ty.toNat = 5 ∨ ty.toNat = 6 ∨ ps = 0) :
    tokenFormat (tok ty slot ps) = true := by
  obtain ⟨f1, f2, f3, f4, f5, f6, f7, f8, f9, f10, f11⟩ := tok_fields ty slot ps
  have hp' : ty.toNat = 5 ∨ ty.toNat = 6 ∨ ps.toNat = 0 := by
    rcases hp with h | h | rfl
    · exact .inl h
    · exact .inr (.inl h)
    · exact .inr (.inr rfl)
  simp [tokenFormat, tokenTypeOf, allZero, f1, f2, f4, f5, f6, f7, f10, f11, h1, h9, hp', or_assoc]

/-- The state of `base` with the roots 0 and 1, a life cycle, a mode and a token being checked. -/
def tokState (h : BitVec 256) (b : List Byte) (lc : Nat) (m : Mode) : State :=
  let s := if lc = 3 then base.setB SEC_STATUS_SERVICE_EN true else base
  { s with mode := m, sec := { base.sec with
    roots := [(0, h), (1, h)], lcBits := lc, token := some (b, List.replicate 16 0), img := { base.sec.img with root := 1, digests := [(1, 8, [])] } } }

/-- What the conditions of R344, R345 and R348 read of it. -/
theorem tokState_reads (h : BitVec 256) (b : List Byte) (m : Mode) :
    (∀ lc, (tokState h b lc m).mode = m ∧ (tokState h b lc m).sec.revoked = [] ∧ (tokState h b lc m).sec.img.root = 1 ∧
      (tokState h b lc m).sec.img.digests ≠ [] ∧ rootHash (tokState h b lc m) 0 = some h ∧ rootHash (tokState h b lc m) 1 = some h ∧
      rootHash (tokState h b lc m) 2 = none ∧ (tokState h b lc m).sec.token = some (b, List.replicate 16 0)) ∧
    lcState (tokState h b 1 m) = 1 ∧ lcState (tokState h b 2 m) = 2 ∧ lcState (tokState h b 3 m) = 3 := by
  refine ⟨fun lc => ⟨rfl, rfl, rfl, ?_, rfl, rfl, rfl, rfl⟩, ?_, ?_, ?_⟩
  · exact List.cons_ne_nil _ _
  all_goals simp [lcState, tokState, base, State.reset, SecSt.init]

theorem wit_Tokens_accepted :
    let h := sha256Num hssKey
    let z := List.replicate 16 (0 : Byte)
    ∀ p ∈ [((1 : Byte), (0 : Byte), (0 : Byte), 1, Mode.configHold), (2, 1, 0, 2, .standby), (3, 1, 0, 3, .standby), (4, 1, 0, 3, .standby), (5, 1, 2, 2, .standby),
      (6, 1, 2, 3, .active), (7, 1, 0, 3, .configHold), (8, 1, 0, 3, .active), (9, 1, 0, 3, .active)],
    let b := tok p.1 p.2.1 p.2.2.1
    let s := tokState h b p.2.2.2.1 p.2.2.2.2
    s.sec.token = some (b, z) ∧ s.pwr.power = .run ∧ tokenResult s b z = 0 ∧ tokenTypeOf b = p.1.toNat := by
  intro h z
  have key (ty slot ps : Byte) (lc : Nat) (m : Mode) (hs : slot = 0 ∨ slot = 1) (h1 : 1 ≤ ty.toNat) (h9 : ty.toNat ≤ 9) (hp : ty.toNat = 5 ∨ ty.toNat = 6 ∨ ps = 0)
      (ha : slotForToken (lcState (tokState h (tok ty slot ps) lc m)) ty.toNat slot.toNat = true)
      (ht : tokenState (tokState h (tok ty slot ps) lc m) (tok ty slot ps) = true) :
      (tokState h (tok ty slot ps) lc m).sec.token = some (tok ty slot ps, z) ∧ (tokState h (tok ty slot ps) lc m).pwr.power = .run ∧
      tokenResult (tokState h (tok ty slot ps) lc m) (tok ty slot ps) z = 0 ∧ tokenTypeOf (tok ty slot ps) = ty.toNat := by
    obtain ⟨r, -⟩ := tokState_reads h (tok ty slot ps) m
    obtain ⟨-, r2, -, -, r5, r6, -, r8⟩ := r lc
    refine ⟨r8, ?_, tok_accepted _ ty slot ps (tok_format ty slot ps h1 h9 hp) ?_ ha ?_ ht⟩
    · unfold tokState
      split <;> rfl
    · rcases hs with rfl | rfl
      · exact r5
      · exact r6
    · rw [r2]
      exact List.not_mem_nil
  simp only [List.forall_mem_cons, List.not_mem_nil, false_implies, implies_true, and_true]
  refine ⟨key _ _ _ _ _ ?_ ?_ ?_ ?_ ?_ ?_, key _ _ _ _ _ ?_ ?_ ?_ ?_ ?_ ?_, key _ _ _ _ _ ?_ ?_ ?_ ?_ ?_ ?_, key _ _ _ _ _ ?_ ?_ ?_ ?_ ?_ ?_,
    key _ _ _ _ _ ?_ ?_ ?_ ?_ ?_ ?_, key _ _ _ _ _ ?_ ?_ ?_ ?_ ?_ ?_, key _ _ _ _ _ ?_ ?_ ?_ ?_ ?_ ?_, key _ _ _ _ _ ?_ ?_ ?_ ?_ ?_ ?_,
    key _ _ _ _ _ ?_ ?_ ?_ ?_ ?_ ?_⟩
  all_goals decide

/-! ### A hallmark that agrees: the digest in the bank is the one the lanes compute -/

/-- Bank 0 with no sections and key set 0. -/
def hmBlank : State :=
  { base with mode := .boot, sec := { base.sec with bootStep := 3, selected := 0, nor := Store.putList norDefault (Store.putList norDefault [] 6 [0, 0]) 60 [0, 0, 0, 0] } }

def hmState : State :=
  { hmBlank with sec := { hmBlank.sec with nor := Store.putList norDefault hmBlank.sec.nor 8 (laneDigest hmBlank 0) } }

theorem laneDigest_length (s : State) (bank : Nat) : (laneDigest s bank).length = 32 := sha256_length _

theorem hmState_bank : hmState.sec.nor = Store.putList norDefault hmBlank.sec.nor 8 (laneDigest hmBlank 0) := rfl

theorem hmState_nor (o n : Nat) (h : o + n ≤ 8 ∨ 40 ≤ o) : norBytes hmState 0 o n = norBytes hmBlank 0 o n := by
  unfold norBytes norKey
  rw [hmState_bank]
  generalize hmBlank.sec.nor = m
  have hd := laneDigest_length hmBlank 0
  generalize laneDigest hmBlank 0 = d at *
  refine List.ext_getElem (by simp) fun i h1 h2 => ?_
  rw [Store.length_getList] at h1
  rw [Store.getElem_getList, Store.getElem_getList, Nat.zero_mul, Nat.zero_add]
  exact Store.get_putList_apart norDefault d m 8 (o + i) (by omega)

theorem hmState_digest : laneDigest hmState 0 = laneDigest hmBlank 0 := by
  have n0 : norNum hmState 0 6 2 = 0 ∧ norNum hmBlank 0 6 2 = 0 := by
    have : norNum hmBlank 0 6 2 = 0 := by decide +kernel
    exact ⟨by rw [norNum, hmState_nor 6 2 (by omega)]; exact this, this⟩
  unfold laneDigest
  simp only [n0, Nat.not_lt_zero, if_false]
  exact congrArg sha256 (List.flatMap_congr fun k hk => by rw [hmState_nor _ 16 (by omega), hmState_nor _ 32 (by omega)])

theorem hmState_image : imageDigest hmState 0 = laneDigest hmBlank 0 := by
  have h := Store.getList_putList norDefault (laneDigest hmBlank 0) hmBlank.sec.nor 8
  rw [laneDigest_length] at h
  exact h

theorem wit_HallmarkAgreement_pass : hmState.sec.bootStep = 3 ∧ hallmarkFail hmState hmState.sec.selected (.all .own) = (0, 0) := by
  refine ⟨rfl, ?_⟩
  have ks (l : Lane) : (hmState.lane l).keysetId.toNat = 0 := by cases l <;> rfl
  have k0 : norNum hmState 0 60 4 = 0 := by
    have : norNum hmBlank 0 60 4 = 0 := by decide +kernel
    rw [norNum, hmState_nor 60 4 (by omega)]
    exact this
  have r (l : Lane) : reportsOk hmState 0 ((PerLane.all HmReport.own).get l) = true := by
    rw [reportsOk, hmState_digest, hmState_image]
    cases l <;> simp [PerLane.all, PerLane.get]
  change hallmarkFail hmState 0 _ = _
  simp only [hallmarkFail, ks, k0, r]
  rfl

end Sys2Proof.Tests
end

section
/-!
PROOFS. The mailboxes (R95, R96): what each half of a mailbox becomes on a post and on a pop, and O22.
-/

namespace Sys2Proof.Machine

open Sys2Proof.Safety

/-! ### A mailbox replaced -/

theorem PerLane.set_get {α : Type} (p : PerLane α) (l : Lane) : p.set l (p.get l) = p := by cases l <;> rfl

@[simp] theorem State.mbox_setMbox (s : State) (l : Lane) (m : Mbx) : (s.setMbox l m).mbox l = m := by
  rw [State.mbox, State.setMbox, PerLane.get_set, if_pos rfl]

/-- Putting back the mailbox that is there changes nothing. -/
theorem State.setMbox_mbox (s : State) (l : Lane) : s.setMbox l (s.mbox l) = s := by
  rw [State.setMbox, State.mbox, PerLane.set_get]

@[simp] theorem State.mbox_raise (s : State) (e : Engine) (n : Nat) (l : Lane) : (s.raise e n).mbox l = s.mbox l := by
  rw [State.mbox, State.raise_mbx, State.mbox]

@[simp] theorem State.lanes_setMbox (s : State) (l : Lane) (m : Mbx) : (s.setMbox l m).lanes = s.lanes := rfl
@[simp] theorem State.mmem_setMbox (s : State) (l : Lane) (m : Mbx) : (s.setMbox l m).mmem = s.mmem := rfl
@[simp] theorem State.fv_setMbox (s : State) (l : Lane) (m : Mbx) (f : Fld) : (s.setMbox l m).fv f = s.fv f := rfl

@[simp] theorem State.engineOn_setMbox (s : State) (l : Lane) (m : Mbx) (e : Engine) : (s.setMbox l m).engineOn e = s.engineOn e := by
  cases e <;> rfl

/-- The event that goes with a mailbox change counts once in a controller that runs (R98). -/
theorem State.fv_raise_setMbox (s : State) (l : Lane) (m : Mbx) {e : Engine} (n : Nat) (he : s.engineOn e = true) :
    ((s.setMbox l m).raise e n).fv (PIC_COUNT_COUNT e n) = oneMore s e n := by
  rw [State.fv_raise_self _ e n (by rwa [State.engineOn_setMbox]), State.fv_setMbox, oneMore]

/-! ### Posts (R95, R96) -/

section Posts

variable (s : State) (l : Lane) {len : Nat}

theorem stagedMsg_above (st : Store Word) (h : 16 < len) : stagedMsg st len = stagedMsg st 16 := by
  rw [stagedMsg, stagedMsg, Nat.min_eq_left (Nat.le_of_lt h), Nat.min_self]

theorem mbxUpPost_empty : mbxUpPost s l 0 = s := by rw [mbxUpPost, if_pos rfl]

theorem mbxDnPost_empty : mbxDnPost s l 0 = s := by rw [mbxDnPost, if_pos rfl]

theorem mbxUpPost_full (h0 : 0 < len) (hq : 8 ≤ (s.mbox l).upQ.length) :
    mbxUpPost s l len = s.setMbox l { s.mbox l with upOvf := true } := by
  rw [mbxUpPost, if_neg (Nat.ne_of_gt h0), if_pos hq]

theorem mbxDnPost_full (h0 : 0 < len) (hq : 8 ≤ (s.mbox l).dnQ.length) :
    mbxDnPost s l len = s.setMbox l { s.mbox l with dnOvf := true } := by
  rw [mbxDnPost, if_neg (Nat.ne_of_gt h0), if_pos hq]

theorem mbxUpPost_room (h0 : 0 < len) (hq : (s.mbox l).upQ.length < 8) :
    mbxUpPost s l len =
      (s.setMbox l { s.mbox l with upQ := (s.mbox l).upQ ++ [stagedMsg (s.mbox l).upStage len] }).raise .mgmt (13 + l.num) := by
  rw [mbxUpPost, if_neg (Nat.ne_of_gt h0), if_neg (Nat.not_le.2 hq)]

theorem mbxDnPost_room (h0 : 0 < len) (hq : (s.mbox l).dnQ.length < 8) :
    mbxDnPost s l len =
      (s.setMbox l { s.mbox l with dnQ := (s.mbox l).dnQ ++ [stagedMsg (s.mbox l).dnStage len] }).raise (.lane l) 14 := by
  rw [mbxDnPost, if_neg (Nat.ne_of_gt h0), if_neg (Nat.not_le.2 hq)]

/-- The staging words survive an UP post, queued or discarded. -/
theorem mbxUpPost_stages (h0 : 0 < len) :
    ((mbxUpPost s l len).mbox l).upStage = (s.mbox l).upStage ∧ ((mbxUpPost s l len).mbox l).dnStage = (s.mbox l).dnStage := by
  rcases Nat.lt_or_ge (s.mbox l).upQ.length 8 with hq | hq
  · simp [mbxUpPost_room s l h0 hq]
  · simp [mbxUpPost_full s l h0 hq]

/-- The staging words survive a DN post, queued or discarded. -/
theorem mbxDnPost_stages (h0 : 0 < len) :
    ((mbxDnPost s l len).mbox l).upStage = (s.mbox l).upStage ∧ ((mbxDnPost s l len).mbox l).dnStage = (s.mbox l).dnStage := by
  rcases Nat.lt_or_ge (s.mbox l).dnQ.length 8 with hq | hq
  · simp [mbxDnPost_room s l h0 hq]
  · simp [mbxDnPost_full s l h0 hq]

end Posts

/-! ### Pops (R95, R96) -/

section Pops

variable (s : State) (l : Lane)

theorem mbxUpPop_room (hq : (s.mbox l).upQ.length < 8) :
    mbxUpPop s l = s.setMbox l { s.mbox l with upQ := (s.mbox l).upQ.tail } := if_neg (Nat.ne_of_lt hq)

theorem mbxDnPop_room (hq : (s.mbox l).dnQ.length < 8) :
    mbxDnPop s l = s.setMbox l { s.mbox l with dnQ := (s.mbox l).dnQ.tail } := if_neg (Nat.ne_of_lt hq)

theorem mbxUpPop_full (hq : (s.mbox l).upQ.length = 8) :
    mbxUpPop s l = (s.setMbox l { s.mbox l with upQ := (s.mbox l).upQ.tail }).raise (.lane l) 15 := if_pos hq

theorem mbxDnPop_full (hq : (s.mbox l).dnQ.length = 8) :
    mbxDnPop s l = (s.setMbox l { s.mbox l with dnQ := (s.mbox l).dnQ.tail }).raise .mgmt 23 := if_pos hq

theorem mbxUpPop_empty (hq : (s.mbox l).upQ = []) : mbxUpPop s l = s := by
  rw [mbxUpPop_room s l (by simp [hq]), hq, List.tail_nil, ← hq]
  exact s.setMbox_mbox l

theorem mbxDnPop_empty (hq : (s.mbox l).dnQ = []) : mbxDnPop s l = s := by
  rw [mbxDnPop_room s l (by simp [hq]), hq, List.tail_nil, ← hq]
  exact s.setMbox_mbox l

end Pops

/-! ### The four commands on a lane that is powered (R336) -/

section Commands

variable {s : State} {l : Lane} (hp : (s.lane l).powered = true) (ha : s.alive = true)
include hp ha

theorem mbxGuard_powered (t : Thr) (a : Nat) (f : State → State) : mbxGuard s l t a f = f s := by
  rw [mbxGuard, if_neg (not_not_intro ha), if_pos hp]

theorem exec_laneMbxUpPost (len : BitVec 5) : exec (.laneMbxUpPost l len) s = .next (mbxUpPost s l len.toNat) :=
  congrArg Host.Outcome.next (mbxGuard_powered hp ha ..)

theorem exec_laneMbxDnPost (len : BitVec 5) : exec (.laneMbxDnPost l len) s = .next (mbxDnPost s l len.toNat) :=
  congrArg Host.Outcome.next (mbxGuard_powered hp ha ..)

theorem exec_laneMbxUpPop : exec (.laneMbxUpPop l) s = .next (mbxUpPop s l) :=
  congrArg Host.Outcome.next (mbxGuard_powered hp ha ..)

theorem exec_laneMbxDnPop : exec (.laneMbxDnPop l) s = .next (mbxDnPop s l) :=
  congrArg Host.Outcome.next (mbxGuard_powered hp ha ..)

end Commands

/-- Settles O22: each command is its queue operation on a powered lane, and each queue operation has one equation per state of the queue. -/
theorem mailboxes : Obligations.Mailboxes := by
  unfold Obligations.Mailboxes
  intro l len s hp ha m
  have hm : s.engineOn .mgmt = true := ha
  have hl : s.engineOn (.lane l) = true := by rw [State.engineOn, ha, hp, Bool.and_self]
  have upPost := exec_laneMbxUpPost hp ha len
  have dnPost := exec_laneMbxDnPost hp ha len
  have upPop := exec_laneMbxUpPop hp ha
  have dnPop := exec_laneMbxDnPop hp ha
  refine ⟨fun h0 hq => ?upRoom, fun h0 hq => ?dnRoom, fun h0 hq => ?upFull, fun h0 hq => ?dnFull, fun h0 => ?zero, fun h => ?above,
    fun h0 => ?stages, fun hq => ?upPopEmpty, fun hq => ?dnPopEmpty, fun hq => ?upPopRoom, fun hq => ?dnPopRoom, fun hq => ?upPopFull,
    fun hq => ?dnPopFull⟩
  case upRoom =>
    rw [mbxUpPost_room s l h0 hq] at upPost
    exact ⟨_, upPost, by simp [m], by simp [m], State.fv_raise_setMbox s l _ _ hm, by simp, by simp⟩
  case dnRoom =>
    rw [mbxDnPost_room s l h0 hq] at dnPost
    exact ⟨_, dnPost, by simp [m], by simp [m], State.fv_raise_setMbox s l _ _ hl, by simp, by simp⟩
  case upFull => rw [upPost, mbxUpPost_full s l h0 hq]
  case dnFull => rw [dnPost, mbxDnPost_full s l h0 hq]
  case zero =>
    subst h0
    exact ⟨upPost.trans (congrArg _ (mbxUpPost_empty s l)), dnPost.trans (congrArg _ (mbxDnPost_empty s l))⟩
  case above => exact ⟨stagedMsg_above _ h, stagedMsg_above _ h⟩
  case stages => exact ⟨⟨_, upPost, mbxUpPost_stages s l h0⟩, ⟨_, dnPost, mbxDnPost_stages s l h0⟩⟩
  case upPopEmpty => rw [upPop, mbxUpPop_empty s l hq]
  case dnPopEmpty => rw [dnPop, mbxDnPop_empty s l hq]
  case upPopRoom => rw [upPop, mbxUpPop_room s l hq]
  case dnPopRoom => rw [dnPop, mbxDnPop_room s l hq]
  case upPopFull =>
    rw [mbxUpPop_full s l hq] at upPop
    exact ⟨_, upPop, by simp [m], State.fv_raise_setMbox s l _ _ hl⟩
  case dnPopFull =>
    rw [mbxDnPop_full s l hq] at dnPop
    exact ⟨_, dnPop, by simp [m], State.fv_raise_setMbox s l _ _ hm⟩

end Sys2Proof.Machine
end

section
/-!
PROOFS. The check-value units (R383 to R386): what a completing scan leaves, what one of length 0 leaves, and O56.
-/

namespace Sys2Proof.Machine

open Sys2Proof.Safety

/-! ### A field set to what it holds -/

theorem setBits_getBits (w : Word) (hi lo : Nat) : setBits w hi lo (getBits w hi lo) = w := by
  refine BitVec.eq_of_getLsbD_eq fun i hi32 => ?_
  have hv : getBits w hi lo % 2 ^ (hi + 1 - lo) * 2 ^ lo = getBits w hi lo <<< lo := by
    rw [Nat.mod_eq_of_lt (getBits_lt w hi lo), Nat.shiftLeft_eq]
  simp only [setBits, hv, BitVec.getLsbD_or, BitVec.getLsbD_and, BitVec.getLsbD_not, fieldMask_testBit hi32, BitVec.getLsbD_ofNat,
    Nat.testBit_shiftLeft, getBits_testBit, hi32, decide_true, Bool.true_and]
  by_cases hl : lo ≤ i
  · rw [Nat.sub_add_cancel hl]
    by_cases hh : i ≤ hi
    · have : i - lo < hi + 1 - lo := by omega
      simp [hl, hh, this]
    · have : ¬ i - lo < hi + 1 - lo := by omega
      simp [hh, this]
  · simp [hl]

/-- A field set to what it holds leaves every register as it reads. -/
theorem State.rd_setF_fv (s : State) (f : Fld) : (s.setF f (s.fv f)).rd = s.rd := by
  funext k
  by_cases h : k = f.key
  · rw [h, State.setF, State.rd_wr_self, State.fv, setBits_getBits]
  · exact State.rd_setF_ne s f _ h

theorem State.fv_of_rd_eq {s t : State} (h : t.rd = s.rd) (f : Fld) : t.fv f = s.fv f := by rw [State.fv, State.fv, h]

/-- The states that differ from `s` in registers alone. -/
def RegsOnly (s t : State) : Prop := ∃ r, t = { s with regs := r }

section RegsOnly

variable {s t : State} (h : RegsOnly s t)

theorem RegsOnly.refl (s : State) : RegsOnly s s := ⟨s.regs, rfl⟩

include h

theorem RegsOnly.trans {r : State} (h' : RegsOnly t r) : RegsOnly s r := by
  obtain ⟨_, rfl⟩ := h
  exact h'

theorem RegsOnly.eq : t = { s with regs := t.regs } := by obtain ⟨r, rfl⟩ := h; rfl

theorem RegsOnly.setF (f : Fld) (v : Nat) : RegsOnly s (t.setF f v) := by obtain ⟨r, rfl⟩ := h; exact ⟨_, rfl⟩

theorem RegsOnly.raise (e : Engine) (n : Nat) : RegsOnly s (t.raise e n) := by
  obtain ⟨r, rfl⟩ := h
  exact State.raise_shape _ e n

theorem RegsOnly.engineOn (e : Engine) : t.engineOn e = s.engineOn e := by obtain ⟨r, rfl⟩ := h; cases e <;> rfl

end RegsOnly

/-! ### The registers of a unit and of an interrupt controller -/

/-- The counts of a controller lie below the units of the same engine (R405, R408). -/
theorem PIC_COUNT_lt_cvuKey (e : Engine) {n : Nat} (hn : n < 128) : PIC_COUNT e n < cvuKey e := by
  cases e <;> simp only [PIC_COUNT, picKey, cvuKey] <;> omega

theorem cvuOn_engineOn {s : State} {e : Engine} (h : cvuOn s e = true) : s.engineOn e = true := by
  cases e with
  | lane l => exact h
  | mgmt => exact Bool.or_eq_true_iff.2 (Or.inl h)

/-- The completion source of unit `u` (R386). -/
def scanSource (e : Engine) (u : Nat) : Nat :=
  match e with
  | .lane _ => 18
  | .mgmt => 24 + u

theorem cvuSource_eq (s : State) (e : Engine) (u : Nat) : cvuSource s e u = s.raise e (scanSource e u) := by cases e <;> rfl

theorem scanSource_lt (e : Engine) {u : Nat} (hu : u < 4) : scanSource e u < 128 := by
  cases e <;> simp only [scanSource] <;> omega

/-! ### A scan that takes no byte -/

section Scan

variable (s : State) (e : Engine) (u : Nat)

/-- What `setRun` writes, under the bits above the width, spells the two registers. -/
theorem setRun_eq {v lo hi : Nat} (hlo : lo < 2 ^ 32)
    (hv : (s.fv (CVU_RUN_HI_RUN_HI e u) * 2 ^ 32 + s.fv (CVU_RUN_LO_RUN_LO e u)) / 2 ^ cvuWidth (cvuPoly s e u) *
      2 ^ cvuWidth (cvuPoly s e u) + v % 2 ^ cvuWidth (cvuPoly s e u) = hi * 2 ^ 32 + lo) :
    setRun s e u v = (s.setF (CVU_RUN_LO_RUN_LO e u) lo).setF (CVU_RUN_HI_RUN_HI e u) hi := by
  have hmod : (hi * 2 ^ 32 + lo) % 2 ^ 32 = lo := by omega
  have hdiv : (hi * 2 ^ 32 + lo) / 2 ^ 32 = hi := by omega
  simp only [setRun, hv, hmod, hdiv]

theorem setRun_cvuRun : setRun s e u (cvuRun s e u) =
    (s.setF (CVU_RUN_LO_RUN_LO e u) (s.fv (CVU_RUN_LO_RUN_LO e u))).setF (CVU_RUN_HI_RUN_HI e u) (s.fv (CVU_RUN_HI_RUN_HI e u)) := by
  refine setRun_eq s e u (State.fv_lt s _) ?_
  rw [cvuRun, Nat.mod_mod, Nat.div_add_mod']

/-- The running value written back leaves both its registers, the bits above its width included (R384). -/
theorem rd_setRun_cvuRun : (setRun s e u (cvuRun s e u)).rd = s.rd := by
  have hlo := State.rd_setF_fv s (CVU_RUN_LO_RUN_LO e u)
  rw [setRun_cvuRun, ← State.fv_of_rd_eq hlo (CVU_RUN_HI_RUN_HI e u), State.rd_setF_fv, hlo]

theorem cvuFeed_scanBytes_zero (poly run : Nat) : cvuFeed poly run (scanBytes s e u 0) = run := by
  rw [scanBytes, List.range_zero, List.map_nil, cvuFeed, List.foldl_nil]

/-- With no byte fed, each field of the scan's progress is set to what it holds. -/
theorem scanTake_zero : scanTake s e u 0 =
    ((setRun s e u (cvuRun s e u)).setF (CVU_START_START e u) (s.fv (CVU_START_START e u))).setF (CVU_LEN_LENGTH e u)
      (s.fv (CVU_LEN_LENGTH e u)) := by
  simp only [scanTake, cvuFeed_scanBytes_zero, Nat.add_zero, Nat.sub_zero]

theorem rd_scanTake_zero : (scanTake s e u 0).rd = s.rd := by
  have hrun := rd_setRun_cvuRun s e u
  have hstart : ((setRun s e u (cvuRun s e u)).setF (CVU_START_START e u) (s.fv (CVU_START_START e u))).rd = s.rd := by
    rw [← State.fv_of_rd_eq hrun (CVU_START_START e u), State.rd_setF_fv, hrun]
  rw [scanTake_zero, ← State.fv_of_rd_eq hstart (CVU_LEN_LENGTH e u), State.rd_setF_fv, hstart]

theorem scanTake_regsOnly (n : Nat) : RegsOnly s (scanTake s e u n) :=
  ((((RegsOnly.refl s).setF _ _).setF _ _).setF _ _).setF _ _

/-! ### Completion (R386) -/

theorem scanComplete_eq : scanComplete s e u =
    (((scanTake s e u (s.fv (CVU_LEN_LENGTH e u))).setF (CVU_CTRL_RUN e u) 0).setF (CVU_STAT_DONE e u) 1).raise e (scanSource e u) :=
  cvuSource_eq ..

/-- Completion changes registers alone. -/
theorem scanComplete_regsOnly : RegsOnly s (scanComplete s e u) := by
  rw [scanComplete_eq]
  exact (((scanTake_regsOnly s e u _).setF _ _).setF _ _).raise _ _

section Unit

variable {u} (hu : u < 4)
include hu

/-- The completion event touches no field of a unit. -/
theorem fv_raise_scanSource (t : State) (f : Fld) (hf : cvuKey e ≤ f.key) : (t.raise e (scanSource e u)).fv f = t.fv f :=
  State.fv_raise_ne t e _ f (Nat.ne_of_gt (Nat.lt_of_lt_of_le (PIC_COUNT_lt_cvuKey e (scanSource_lt e hu)) hf))

theorem scanComplete_done : (scanComplete s e u).fb (CVU_STAT_DONE e u) = true := by
  rw [scanComplete_eq, State.fb, fv_raise_scanSource e hu _ _ (by simp only [CVU_STAT_DONE, CVU_STAT]; omega),
    State.fv_setF_self _ _ _ (by simp [CVU_STAT_DONE]) (by simp [CVU_STAT_DONE])]
  simp [CVU_STAT_DONE]

theorem scanComplete_run : (scanComplete s e u).fb (CVU_CTRL_RUN e u) = false := by
  rw [scanComplete_eq, State.fb, fv_raise_scanSource e hu _ _ (by simp only [CVU_CTRL_RUN, CVU_CTRL]; omega),
    State.fv_setF_ne _ _ _ _ (by simp only [CVU_CTRL_RUN, CVU_STAT_DONE, CVU_CTRL, CVU_STAT]; omega),
    State.fv_setF_self _ _ _ (by simp [CVU_CTRL_RUN]) (by simp [CVU_CTRL_RUN])]
  simp

end Unit

section Empty

variable {s e u} (hu : u < 4) (hlen : s.fv (CVU_LEN_LENGTH e u) = 0)
include hlen

/-- A completion with no byte left writes the unit's control and status and the count of its source. -/
theorem scanComplete_empty_regs :
    RegsButSame [CVU_CTRL e u, CVU_STAT e u, PIC_COUNT e (scanSource e u)] s (scanComplete s e u) := by
  intro k hk
  simp only [List.mem_cons, List.not_mem_nil, or_false, not_or] at hk
  obtain ⟨hctrl, hstat, hcount⟩ := hk
  rw [scanComplete_eq, hlen, State.rd_raise_ne _ _ _ hcount, State.rd_setF_ne _ _ _ hstat, State.rd_setF_ne _ _ _ hctrl,
    rd_scanTake_zero]

include hu

theorem scanComplete_empty_count (he : s.engineOn e = true) :
    (scanComplete s e u).fv (PIC_COUNT_COUNT e (scanSource e u)) = oneMore s e (scanSource e u) := by
  have hlt : PIC_COUNT e (scanSource e u) < cvuKey e := PIC_COUNT_lt_cvuKey e (scanSource_lt e hu)
  have hon := (((scanTake_regsOnly s e u 0).setF (CVU_CTRL_RUN e u) 0).setF (CVU_STAT_DONE e u) 1).engineOn e
  rw [scanComplete_eq, hlen, State.fv_raise_self _ _ _ (hon.trans he),
    State.fv_setF_ne _ _ _ _ (by simp only [PIC_COUNT_COUNT, CVU_STAT_DONE, CVU_STAT]; omega),
    State.fv_setF_ne _ _ _ _ (by simp only [PIC_COUNT_COUNT, CVU_CTRL_RUN, CVU_CTRL]; omega),
    State.fv_of_rd_eq (rd_scanTake_zero s e u), oneMore]

end Empty

end Scan

/-! ### The start of a scan (R385, R386) -/

section Start

variable (s : State) (e : Engine) (u : Nat) (w : Word)

theorem natBit_toNat (k : Nat) : natBit w.toNat k = w.getLsbD k := by
  rw [natBit, BitVec.getLsbD, Nat.testBit_eq_decide_div_mod_eq]

theorem ctrlSet_regs : RegsButSame [CVU_CTRL e u] s (ctrlSet s e u w) := by
  intro k hk
  have hk : k ≠ CVU_CTRL e u := by simpa using hk
  simp only [ctrlSet]
  split
  · rw [State.rd_setF_ne _ _ _ hk, State.rd_setF_ne _ _ _ hk, State.rd_setF_ne _ _ _ hk]
  · rw [State.rd_setF_ne _ _ _ hk, State.rd_setF_ne _ _ _ hk]

theorem ctrlSet_regsOnly : RegsOnly s (ctrlSet s e u w) := by
  have h := ((RegsOnly.refl s).setF (CVU_CTRL_POLY e u) (getBits w 1 0)).setF (CVU_CTRL_RGN e u) (getBits w 23 20)
  simp only [ctrlSet]
  split
  · exact h.setF _ _
  · exact h

/-- A write of RUN = 1 without INIT or ABORT to a unit at rest sets the plain fields and starts a scan. -/
theorem cvuCtrlWrite_start (hon : cvuOn s e = true) (hrun : s.fb (CVU_CTRL_RUN e u) = false) (hrunBit : w.getLsbD 31 = true)
    (habort : w.getLsbD 30 = false) (hinit : w.getLsbD 29 = false) :
    cvuCtrlWrite s e u w = scanStart (ctrlSet s e u w) e u := by
  simp only [cvuCtrlWrite, natBit_toNat, hon, hrun, hrunBit, habort, hinit, not_true_eq_false, if_false, if_true, Bool.false_eq_true]
  rfl

theorem scanStart_empty (hlen : s.fv (CVU_LEN_LENGTH e u) = 0) : scanStart s e u = scanComplete s e u := if_pos hlen

theorem ctrlSet_len : (ctrlSet s e u w).fv (CVU_LEN_LENGTH e u) = s.fv (CVU_LEN_LENGTH e u) := by
  rw [State.fv, State.fv, ctrlSet_regs s e u w _ (by simp [CVU_LEN_LENGTH, CVU_LEN, CVU_CTRL])]

end Start

theorem exec_cvuScanStart (e : Engine) (u : BitVec 2) (w : Word) (s : State) :
    exec (.cvuScanStart e u w) s = .next (cvuCtrlWrite s e u.toNat (w ||| 0x80000000#32)) := rfl

/-- RUN written with LENGTH 0 sets the plain fields and completes, whatever the range names (R386). -/
theorem exec_cvuScanStart_empty {e : Engine} {u : BitVec 2} {w : Word} {s : State} (hon : cvuOn s e = true)
    (hrun : s.fb (CVU_CTRL_RUN e u.toNat) = false) (hlen : s.fv (CVU_LEN_LENGTH e u.toNat) = 0) (habort : w.getLsbD 30 = false)
    (hinit : w.getLsbD 29 = false) :
    exec (.cvuScanStart e u w) s = .next (scanComplete (ctrlSet s e u.toNat (w ||| 0x80000000#32)) e u.toNat) := by
  rw [exec_cvuScanStart,
    cvuCtrlWrite_start s e u.toNat _ hon hrun (by simp) (by simpa using habort) (by simpa using hinit),
    scanStart_empty _ _ _ ((ctrlSet_len ..).trans hlen)]

/-- Settles O56: RUN written with LENGTH 0 sets CVU_CTRL's plain fields and completes, and that completion takes no byte. -/
theorem emptyScan : Obligations.EmptyScan := by
  unfold Obligations.EmptyScan
  intro e u w s hon hrun hlen habort hinit
  have hu : u.toNat < 4 := u.isLt
  have hexec := exec_cvuScanStart_empty hon hrun hlen habort hinit
  have hc := ctrlSet_regs s e u.toNat (w ||| 0x80000000#32)
  have hcs := ctrlSet_regsOnly s e u.toNat (w ||| 0x80000000#32)
  have hclen := (ctrlSet_len s e u.toNat (w ||| 0x80000000#32)).trans hlen
  generalize ctrlSet s e u.toNat (w ||| 0x80000000#32) = c at hexec hc hcs hclen
  have hsrc : PIC_COUNT e (scanSource e u.toNat) < cvuKey e := PIC_COUNT_lt_cvuKey e (scanSource_lt e hu)
  have hregs : RegsButSame [CVU_CTRL e u.toNat, CVU_STAT e u.toNat, CVU_START e u.toNat, PIC_COUNT e (scanSource e u.toNat)] s
      (scanComplete c e u.toNat) := by
    intro k hk
    simp only [List.mem_cons, List.not_mem_nil, or_false, not_or] at hk
    obtain ⟨hctrl, hstat, -, hcount⟩ := hk
    exact (scanComplete_empty_regs hclen k (by simp [hctrl, hstat, hcount])).trans (hc k (by simpa using hctrl))
  have hcount : oneMore c e (scanSource e u.toNat) = oneMore s e (scanSource e u.toNat) := by
    have h : PIC_COUNT e (scanSource e u.toNat) ≠ CVU_CTRL e u.toNat := by simp only [CVU_CTRL]; omega
    rw [oneMore, oneMore, State.fv, State.fv, hc _ (by simpa [PIC_COUNT_COUNT] using h)]
  refine ⟨_, hexec, scanComplete_done c e hu, scanComplete_run c e hu, hregs _ ?runLo, hregs _ ?runHi,
    (scanComplete_empty_count hu hclen ((hcs.engineOn e).trans (cvuOn_engineOn hon))).trans hcount, hregs,
    (hcs.trans (scanComplete_regsOnly c e u.toNat)).eq⟩
  case runLo =>
    simp only [List.mem_cons, List.not_mem_nil, or_false, CVU_RUN_LO, CVU_CTRL, CVU_STAT, CVU_START]
    omega
  case runHi =>
    simp only [List.mem_cons, List.not_mem_nil, or_false, CVU_RUN_HI, CVU_CTRL, CVU_STAT, CVU_START]
    omega

end Sys2Proof.Machine
end

section
/-!
PROOFS. The event recorder (R387 to R392): what writing one record changes, what the start of a lap changes, and O57.
-/

namespace Sys2Proof.Machine

open Sys2Proof.Safety

/-! ### The count registers beside others (R98) -/

/-- The counts of two sources stand in different registers, in whichever controllers. -/
theorem noCount_PIC_COUNT (e : Engine) {n m : Nat} (hn : n < 128) (hm : m < 128) (h : n ≠ m) : NoCount (PIC_COUNT e n) m := by
  intro e'
  cases e <;> cases e' <;> simp only [PIC_COUNT, picKey, laneKey] <;> omega

/-- The registers of the fabric's recorder are no controller's counts (R405, R408). -/
theorem noCount_of_recorder {k n : Nat} (hlo : 0x80800000 ≤ k) (hhi : k < 0x80800080) (hn : n < 128) : NoCount k n := by
  intro e
  cases e <;> simp only [PIC_COUNT, picKey, laneKey] <;> omega

theorem PIC_COUNT_mgmt_ne_lane (l : Lane) (n : Nat) : PIC_COUNT .mgmt n ≠ PIC_COUNT (.lane l) n := by
  simp only [PIC_COUNT, picKey, laneKey]
  omega

/-- An event in the lanes' controllers leaves the counts of the management controller. -/
theorem State.fv_raiseLanes_mgmt (s : State) (n : Nat) :
    (s.raiseLanes n).fv (PIC_COUNT_COUNT .mgmt n) = s.fv (PIC_COUNT_COUNT .mgmt n) := by
  have h (t : State) (l : Lane) : (t.raise (.lane l) n).fv (PIC_COUNT_COUNT .mgmt n) = t.fv (PIC_COUNT_COUNT .mgmt n) :=
    State.fv_raise_ne _ _ _ _ (PIC_COUNT_mgmt_ne_lane l n)
  simp only [State.raiseLanes, State.forLanes, h]

/-- An event in every controller counts once in the management controller. -/
theorem State.fv_raiseAll_mgmt (s : State) (n : Nat) (ha : s.alive = true) :
    (s.raiseAll n).fv (PIC_COUNT_COUNT .mgmt n) = oneMore s .mgmt n := by
  have hl : RegsOnly s (s.raiseLanes n) := State.raiseLanes_shape s n
  rw [State.raiseAll, State.fv_raise_self _ _ _ ((hl.engineOn .mgmt).trans ha), State.fv_raiseLanes_mgmt s n, oneMore]

/-! ### One record written (R387, R389) -/

@[simp] theorem State.updRec_recorder (s : State) (f : RecSt → RecSt) : (s.updRec f).recorder = f s.recorder := rfl
@[simp] theorem State.fv_updRec (s : State) (f : RecSt → RecSt) (g : Fld) : (s.updRec f).fv g = s.fv g := rfl
@[simp] theorem State.alive_updRec (s : State) (f : RecSt → RecSt) : (s.updRec f).alive = s.alive := rfl
@[simp] theorem recClr_updRec (s : State) (f : RecSt → RecSt) : recClr (s.updRec f) = recClr s := rfl
@[simp] theorem setNewest_recorder (s : State) (q : Nat) : (setNewest s q).recorder = s.recorder := rfl

theorem rd_setNewest_ne (s : State) (q : Nat) {k : Nat} (hlo : k ≠ REC_NEWEST_LO) (hhi : k ≠ REC_NEWEST_HI) :
    (setNewest s q).rd k = s.rd k := by
  rw [setNewest, State.rd_setF_ne _ _ _ hhi, State.rd_setF_ne _ _ _ hlo]

/-- The slot of a number depends on REC_CLR alone. -/
theorem slotOfSeq_congr {s t : State} (h : recClr t = recClr s) (q : Nat) : slotOfSeq t q = slotOfSeq s q := by
  rw [slotOfSeq, slotOfSeq, h]

section Put

variable (s : State) (e : Event)

/-- The record goes into its slot and takes its number; the queue and what is lost stay. -/
theorem putRecord_recorder : (putRecord s e).recorder = { s.recorder with
    store := Store.put (fun _ => []) s.recorder.store (slotOfSeq s s.recorder.nextSeq) (recordImage s.recorder.nextSeq e)
    nextSeq := s.recorder.nextSeq + 1
    checkpoint := if s.recorder.nextSeq % 4096 = 0 then s.recorder.nextSeq else s.recorder.checkpoint } := by
  simp only [putRecord]
  split
  · rw [State.raiseAll_recorder]; rfl
  · rfl

@[simp] theorem putRecord_nextSeq : (putRecord s e).recorder.nextSeq = s.recorder.nextSeq + 1 := by rw [putRecord_recorder]

@[simp] theorem putRecord_lost : (putRecord s e).recorder.lost = s.recorder.lost := by rw [putRecord_recorder]

theorem recSlot_putRecord_self : recSlot (putRecord s e) (slotOfSeq s s.recorder.nextSeq) = recordImage s.recorder.nextSeq e := by
  rw [recSlot, putRecord_recorder, Store.get_put_self]

theorem recSlot_putRecord_ne {n : Nat} (h : n ≠ slotOfSeq s s.recorder.nextSeq) : recSlot (putRecord s e) n = recSlot s n := by
  rw [recSlot, putRecord_recorder, Store.get_put_ne _ _ _ h, recSlot]

/-- Registers apart from REC_NEWEST, REC_STATUS and the counts of source 88 stay. -/
theorem rd_putRecord_ne {k : Nat} (hk : k ∉ [REC_NEWEST_LO, REC_NEWEST_HI, REC_STATUS]) (hc : NoCount k 88) :
    (putRecord s e).rd k = s.rd k := by
  simp only [List.mem_cons, List.not_mem_nil, or_false, not_or] at hk
  obtain ⟨hlo, hhi, hstatus⟩ := hk
  simp only [putRecord]
  split
  · rw [State.rd_raiseAll_ne _ _ hc, State.rd_setF_ne _ _ _ hstatus]
    exact rd_setNewest_ne _ _ hlo hhi
  · exact rd_setNewest_ne _ _ hlo hhi

theorem fv_putRecord_ne (f : Fld) (hk : f.key ∉ [REC_NEWEST_LO, REC_NEWEST_HI, REC_STATUS]) (hc : NoCount f.key 88) :
    (putRecord s e).fv f = s.fv f := by
  rw [State.fv, State.fv, rd_putRecord_ne s e hk hc]

@[simp] theorem recClr_putRecord : recClr (putRecord s e) = recClr s := by
  have hlo : NoCount REC_CLR_LO 88 := noCount_of_recorder (by decide) (by decide) (by decide)
  have hhi : NoCount REC_CLR_HI 88 := noCount_of_recorder (by decide) (by decide) (by decide)
  rw [recClr, fv_putRecord_ne s e REC_CLR_LO_CLR_LO (by decide) hlo, fv_putRecord_ne s e REC_CLR_HI_CLR_HI (by decide) hhi, recClr]

@[simp] theorem fv_putRecord_lap : (putRecord s e).fv REC_LAP_LAP = s.fv REC_LAP_LAP :=
  fv_putRecord_ne s e _ (by decide) (noCount_of_recorder (by decide) (by decide) (by decide))

@[simp] theorem fv_putRecord_count89 : (putRecord s e).fv (PIC_COUNT_COUNT .mgmt 89) = s.fv (PIC_COUNT_COUNT .mgmt 89) :=
  fv_putRecord_ne s e _ (by decide) (noCount_PIC_COUNT .mgmt (by decide) (by decide) (by decide))

end Put

/-! ### The start of a lap (R390) -/

/-- The state in which the WRAP record is written: the lap counted and source 89 raised. -/
def lapOpened (s : State) : State := ((s.setF REC_LAP_LAP (s.fv REC_LAP_LAP + 1)).raiseAll 89).drawn

/-- The WRAP record. -/
def wrapEvent (s : State) : Event :=
  selfEvent ((s.setF REC_LAP_LAP (s.fv REC_LAP_LAP + 1)).raiseAll 89) 0x02 0
    (beBytes 4 (s.fv REC_LAP_LAP + 1) ++ beBytes 6 (s.recorder.nextSeq - wrapLen))

theorem beginLap_eq (s : State) : beginLap s = putRecord (lapOpened s) (wrapEvent s) := rfl

/-- DATA of the WRAP record is ten bytes: the lap number and the number of the oldest record it overwrites. -/
theorem wrapEvent_data_take (s : State) :
    (wrapEvent s).data.take 10 = beBytes 4 (s.fv REC_LAP_LAP + 1) ++ beBytes 6 (s.recorder.nextSeq - wrapLen) :=
  List.take_of_length_le (by simp [wrapEvent, selfEvent, beBytes_length])

section Lap

variable (s : State)

@[simp] theorem lapOpened_recorder : (lapOpened s).recorder = s.recorder := by
  rw [lapOpened, State.drawn_recorder, State.raiseAll_recorder, State.setF_recorder]

/-- Registers apart from REC_LAP and the counts of source 89 stay. -/
theorem fv_lapOpened_ne (f : Fld) (hk : f.key ≠ REC_LAP) (hc : NoCount f.key 89) : (lapOpened s).fv f = s.fv f := by
  rw [lapOpened, State.fv_drawn, State.fv_raiseAll_ne _ _ _ hc, State.fv_setF_ne _ _ _ _ hk]

@[simp] theorem recClr_lapOpened : recClr (lapOpened s) = recClr s := by
  have hlo : NoCount REC_CLR_LO 89 := noCount_of_recorder (by decide) (by decide) (by decide)
  have hhi : NoCount REC_CLR_HI 89 := noCount_of_recorder (by decide) (by decide) (by decide)
  rw [recClr, fv_lapOpened_ne s REC_CLR_LO_CLR_LO (by decide) hlo, fv_lapOpened_ne s REC_CLR_HI_CLR_HI (by decide) hhi, recClr]

theorem fv_lapOpened_lap (h : s.fv REC_LAP_LAP + 1 < 2 ^ 32) : (lapOpened s).fv REC_LAP_LAP = s.fv REC_LAP_LAP + 1 := by
  have hc : NoCount REC_LAP 89 := noCount_of_recorder (by decide) (by decide) (by decide)
  rw [lapOpened, State.fv_drawn, State.fv_raiseAll_ne _ _ _ hc, State.fv_setF_self _ _ _ (by decide) (by decide)]
  exact Nat.mod_eq_of_lt h

theorem fv_lapOpened_count (ha : s.alive = true) : (lapOpened s).fv (PIC_COUNT_COUNT .mgmt 89) = oneMore s .mgmt 89 := by
  have ha' : (s.setF REC_LAP_LAP (s.fv REC_LAP_LAP + 1)).alive = true := ha
  rw [lapOpened, State.fv_drawn, State.fv_raiseAll_mgmt _ _ ha', oneMore, State.fv_setF_ne _ _ _ _ (by decide), oneMore]

end Lap

/-- After the first slot of the wrap region comes the second. -/
theorem slotOfSeq_succ_of_lap {s : State} {q : Nat} (hslot : slotOfSeq s q = 65536) (hk : 2097152 ≤ q - recClr s) :
    slotOfSeq s (q + 1) = 65537 := by
  have h : ¬ q - recClr s < 65536 := by omega
  have h' : ¬ q + 1 - recClr s < 65536 := by omega
  have hnext : q + 1 - recClr s - 65536 = q - recClr s - 65536 + 1 := by omega
  rw [slotOfSeq, if_neg h] at hslot
  have hmod : (q - recClr s - 65536) % wrapLen = 0 := Nat.add_left_cancel hslot
  rw [slotOfSeq, if_neg h', hnext, Nat.add_mod, hmod]
  rfl

theorem lapDue_iff {s : State} :
    lapDue s = true ↔ slotOfSeq s s.recorder.nextSeq = 65536 ∧ 2097152 ≤ s.recorder.nextSeq - recClr s := by
  rw [lapDue, Bool.and_eq_true, decide_eq_true_eq, decide_eq_true_eq]

/-- A record due at the start of a lap is written behind the WRAP record. -/
theorem writeEvent_of_lapDue {s : State} (e : Event) (h : lapDue s = true) :
    writeEvent s e = putRecord (putRecord (lapOpened s) (wrapEvent s)) e := by
  rw [writeEvent, if_pos h, beginLap_eq]

/-- The two records of the start of a lap fill the first two slots of the wrap region. -/
theorem recSlot_putRecord_lapOpened {s : State} (e : Event) (hslot : slotOfSeq s s.recorder.nextSeq = 65536)
    (hk : 2097152 ≤ s.recorder.nextSeq - recClr s) :
    recSlot (putRecord (putRecord (lapOpened s) (wrapEvent s)) e) 65536 = recordImage s.recorder.nextSeq (wrapEvent s) ∧
    recSlot (putRecord (putRecord (lapOpened s) (wrapEvent s)) e) 65537 = recordImage (s.recorder.nextSeq + 1) e := by
  have hfirst : slotOfSeq (lapOpened s) (lapOpened s).recorder.nextSeq = 65536 := by
    rw [lapOpened_recorder, slotOfSeq_congr (recClr_lapOpened s), hslot]
  have hseq : (putRecord (lapOpened s) (wrapEvent s)).recorder.nextSeq = s.recorder.nextSeq + 1 := by simp
  have hsecond : slotOfSeq (putRecord (lapOpened s) (wrapEvent s)) (putRecord (lapOpened s) (wrapEvent s)).recorder.nextSeq = 65537 := by
    rw [hseq, slotOfSeq_congr ((recClr_putRecord ..).trans (recClr_lapOpened s)), slotOfSeq_succ_of_lap hslot hk]
  constructor
  · rw [recSlot_putRecord_ne _ _ (by rw [hsecond]; omega), ← hfirst, recSlot_putRecord_self, lapOpened_recorder]
  · rw [← hsecond, recSlot_putRecord_self, hseq]

/-! ### RECORD_WRITE -/

theorem queueLost_of_none {s : State} (h : s.recorder.lost = none) : queueLost s = s := by rw [queueLost, h]

theorem exec_recordWrite (ok : Bool) (s : State) : exec (.recordWrite ok) s = .next (recordWrite s ok) := rfl

theorem recordWrite_cons {s : State} {e : Event} {r : List Event} (hq : s.recorder.queue = e :: r) :
    recordWrite s true = queueLost (writeEvent (s.updRec fun x => { x with queue := r }) e) := by
  simp only [recordWrite, hq, if_true]

/-- Settles O57: the WRAP record and the due record are two records written one after the other, and neither write touches REC_LAP or the
count of source 89. -/
theorem recorderLap : Obligations.RecorderLap := by
  unfold Obligations.RecorderLap
  intro e r s ha hq hlost _ hlap hslot hk
  have hexec := exec_recordWrite true s
  rw [recordWrite_cons hq] at hexec
  generalize hp : (s.updRec fun x => { x with queue := r }) = p at hexec
  have hclr : recClr p = recClr s := by rw [← hp, recClr_updRec]
  have hseq : p.recorder.nextSeq = s.recorder.nextSeq := by rw [← hp, State.updRec_recorder]
  have hlost' : p.recorder.lost = none := by rw [← hp, State.updRec_recorder, hlost]
  have hfv (f : Fld) : p.fv f = s.fv f := by rw [← hp, State.fv_updRec]
  have halive : p.alive = true := by rw [← hp, State.alive_updRec, ha]
  rw [← hseq, ← slotOfSeq_congr hclr] at hslot
  rw [← hseq, ← hclr] at hk
  rw [← hfv] at hlap
  obtain ⟨hwrap, hdue⟩ := recSlot_putRecord_lapOpened e hslot hk
  rw [writeEvent_of_lapDue e (lapDue_iff.2 ⟨hslot, hk⟩), queueLost_of_none (by simp [hlost'])] at hexec
  refine ⟨_, hexec, ⟨wrapEvent p, rfl, rfl, ?_, ?_⟩, ?_, ?_, ?_, ?_⟩
  · rw [hwrap, hseq]
  · rw [wrapEvent_data_take, hfv, hseq]
  · rw [hdue, hseq]
  · rw [fv_putRecord_lap, fv_putRecord_lap, fv_lapOpened_lap p hlap, hfv]
  · simp [hseq]
  · rw [fv_putRecord_count89, fv_putRecord_count89, fv_lapOpened_count p halive, oneMore, oneMore, hfv]

end Sys2Proof.Machine
end
